-- ==== Sys2Proof/Word.lean ====
section
/-! DEFINITION. The word types of the TZE816 (R3, R5): bytes, 32-bit register and instruction words, 64-bit SRAM units, and the plainest arithmetic on them. -/

namespace Sys2Proof

/-- A byte of memory. -/
abbrev Byte := BitVec 8

/-- A 32-bit word: a register (R5), a general register of a context (R133), an instruction word (R156). -/
abbrev Word := BitVec 32

/-- Sign-extend a narrower value to 32 bits (the `sext` of the Lelas chapter). -/
def sext {n : Nat} (x : BitVec n) : Word := x.signExtend 32

/-- Zero-extend a narrower value to 32 bits (the `zext` of the Lelas chapter). -/
def zext {n : Nat} (x : BitVec n) : Word := x.zeroExtend 32

/-- 0 or 1 as a register value. -/
def bit (b : Bool) : Nat := if b then 1 else 0

end Sys2Proof
end

