-- ==== Sys2Proof/Syntax.lean ====
section
/-! DEFINITION. The commands of the block: one constructor for each row of the table of operations and events, with the row's operands. -/

namespace Sys2Proof

/-- An initiator ID (R109). -/
abbrev Id := Fin 16

/-- A context of the frond engine (R133). -/
abbrev Ctx := Fin 1024

/-- A 16-bit field. -/
abbrev Half := BitVec 16

/-- How a transaction of the host ends (R386, R387, R391): a STOP, a repeated START, or SCL held low with the transaction open. -/
inductive HostEnd where
  | stop | rstart | stall
deriving DecidableEq, Repr

/-- A cause of a reset beside a power-on (R13, R14, R91); `supply`: 0 VSYS, 1 VDD_CORE, 2 VIO, 3 VDDA. -/
inductive Cause where
  | supply (src : Fin 4) | clock | glitch | lcr | pin | wdr | swr
deriving DecidableEq, Repr

/-- The NVS line write that a falling supply finds in service (R353): the one at the front of the controller, the first or second line of the entry being written (R185), the first or second write of a context's transition (R170). -/
inductive LineOp where
  | front | entry (second : Bool) | move (c : Ctx) (second : Bool)
deriving DecidableEq, Repr

/-- What a line holds after a write that the supply may have cut short (R353): its new contents, its old ones, or contents that fail verification. -/
inductive LineEnd where
  | new | old | torn
deriving DecidableEq, Repr

/-- A hardware change of mode (R246). -/
inductive ModeHit where
  | presenceLost | overvoltage | undervoltage | driverFault | softStartTimeout | safePins (a b : Bool)
deriving DecidableEq, Repr

/-- What a load switch's current limit does (R322): it begins to act, ends, or has acted for 100 µs. -/
inductive LimitEvent where
  | acts | ends | held
deriving DecidableEq, Repr

/-- The commands, in the order of the table. `id` is the initiator of a register access; an operand for what may fall on the same edge, or that only some uses name, comes last and has a default. -/
inductive Instr where
  /-- REGISTER_WRITE (R7): A write to a register that has no row of its own, judged field by field under the access-code, lock, reserved-encoding and conditional-clear rules. -/
  | registerWrite (id : Id) (addr : Word) (size : Fin 4) (v : BitVec 64) (hw : Option (Word × Word) := none)
  /-- RC_READ (R9): A read of a read-to-clear field or counter returns the value and then clears it; an event that races the clear is kept. -/
  | rcRead (id : Id) (addr : Word) (size : Fin 4) (hw : Word := 0)
  /-- STAGED_WRITE (R127): A write to an RWS field goes to the block's staged copy and takes or uses the stage ownership. -/
  | stagedWrite (id : Id) (addr : Word) (v : Word)
  /-- STAGE_DISCARD (R127): A stage owner that makes no RWS write for 65 536 SCLK has its staged copy discarded and the stage released. -/
  | stageDiscard (k : Fin 40)
  /-- BULK_PROMOTE (R113): A BULK request that has waited 32 SCLK at a target is promoted to CONTROL. -/
  | bulkPromote (c : Ctx)
  /-- POWER_ON_RESET (R86): VHV rises through 7.0 V while D1 is unpowered, and a POR is taken. -/
  | powerOnReset
  /-- BROWN_OUT_RESET (R89): A monitored supply falls below its brown-out threshold; the in-flight NVS line write completes, outputs go safe and a BOR is held. -/
  | brownOutReset (src : Fin 4) (line : Option (LineOp × LineEnd) := none) (also : List Cause := [])
  /-- BOR_RELEASE (R89): Every brown-out-monitored supply has stayed above its rising threshold for 1 ms, and the BOR ends. -/
  | borRelease
  /-- CLOCK_MONITOR_TRIP (R91): SCLK leaves its ±3 % window and a reset of BOR reach is taken with CLKMON recorded. -/
  | clockMonitorTrip (also : List Cause := [])
  /-- GLITCH_MONITOR_TRIP (R91): A glitch monitor detects an excursion and a reset of BOR reach is taken with GLITCH recorded. -/
  | glitchMonitorTrip (also : List Cause := [])
  /-- HELD_OFF_ENTRY (R87): VSYS falls below its brown-out threshold while VHV is below 6.5 V, and the node enters the held-off state. -/
  | heldOffEntry (line : Option (LineOp × LineEnd) := none)
  /-- SUPPLY_WARNING (R88): VSYS falls below the 4.50 V warning threshold; RTC writes are locked out, the path may move to BAT, and WARN is set. -/
  | supplyWarning
  /-- VHV_RISE (R86): VHV rises while D1 is powered; VHV_UP is set and a sleeping node may wake. -/
  | vhvRise
  /-- PIN_RESET (R103): nRST is held low long enough to be taken as a PIN reset. -/
  | pinReset (also : List Cause := [])
  /-- WATCHDOG_SERVICE (R105): A write to SYS_WDTSVC restarts the watchdog count with the key value or completes with INVALID. -/
  | watchdogService (id : Id) (v : Word)
  /-- WATCHDOG_EXPIRY (R105): The watchdog count reaches TIMEOUT while EN is 1, and a WDR is taken. -/
  | watchdogExpiry (also : List Cause := [])
  /-- SOFTWARE_RESET_REQUEST (R104): A write to SYS_RSTREQ with key 0xB007 by a permitted initiator schedules an SWR. -/
  | softwareResetRequest (id : Id) (key : Half)
  /-- SOFTWARE_RESET (R104): The SWR requested 8 SCLK earlier is taken. -/
  | softwareReset (also : List Cause := [])
  /-- LIFE_CYCLE_RESET (R414): An LCR is taken 16 SCLK after the target life-cycle word has been burned. -/
  | lifeCycleReset (also : List Cause := [])
  /-- BOOT_START (R92): Release of a reset starts the boot ledger: clocks, OTP sensing, straps, rail sequence, image and journal recovery. -/
  | bootStart (vsel : List Nat) (nrst : Bool)
  /-- DEFAULT_SEQ_TIMEOUT (R94): A rail misses its 0.6 ms power-good limit; it is switched off, the sequence stops and RAILSTOP is set. -/
  | defaultSeqTimeout
  /-- BOOT_END (R100): Boot commits and locks the access tables, starts the watchdog, sets DONE and releases the entry fronds. -/
  | bootEnd
  /-- XTAL_QUALIFIED (R35): The crystal has run 1 024 periods within ±2 % while STM_CLK.SRC is 1, and it becomes the reference. -/
  | xtalQualified
  /-- XTAL_LOST (R35): No crystal edge arrives for 1 µs; the clock returns to the internal oscillator and XT_LOST is set. -/
  | xtalLost
  /-- STM_COMMIT (R46): A write to STM_COMMIT checks the staged STM set, applies it and may change the lock state. -/
  | stmCommit (id : Id)
  /-- STM_INC_WRITE (R45): A write to STM_INC takes effect in FREE and completes with DENIED in any other state. -/
  | stmIncWrite (id : Id) (v : Word)
  /-- STM_SETC_WRITE (R60): A write to STM_SETC sets the cycle number for the next boundary, or is denied in beacon-numbered locked states. -/
  | stmSetcWrite (id : Id) (v : Word)
  /-- STM_NOWC_READ (R59): A read of STM_NOWC returns the cycle and snapshots the whole stamp for the reading initiator. -/
  | stmNowcRead (id : Id)
  /-- RIPPLE_REFERENCE_EVENT (R41): A qualified positive-going zero crossing of the SIS ripple gives the STM a reference event. -/
  | rippleReferenceEvent (ago : Nat) (amp : Nat := 0)
  /-- REFERENCE_MISSING (R47): No reference instant falls within 1.25 expected intervals, and a missing reference event is counted. -/
  | referenceMissing
  /-- HOLDOVER_EXPIRY (R46): More than STM_HOLD.LIMIT cycles elapse in HOLDOVER; the STM enters FREE and sets HOLD_EXP. -/
  | holdoverExpiry
  /-- CYCLE_BOUNDARY (R56): String time crosses a cycle boundary; STM_CYCLE is raised and a pending STM_SETC is applied. -/
  | cycleBoundary
  /-- SCHEDULED_EVENT_FIRE (R53): A scheduled event fires on the first SCLK edge at which the presented stamp reaches its stamp. -/
  | scheduledEventFire
  /-- DOMCTL_WRITE (R78): A write to HKR_DOMCTL judges each domain bit and starts the permitted off and on transitions. -/
  | domctlWrite (id : Id) (on : Half)
  /-- DOMAIN_POWER_GOOD (R78): A domain switched on reaches power good, its registers take reset values and the next transition proceeds. -/
  | domainPowerGood
  /-- SLEEP_ENTER (R81): A write of HKR_SLEEP.ENTER is refused or puts the node to sleep, discarding stages and switching off every domain but D0. -/
  | sleepEnter (id : Id) (wk : BitVec 4)
  /-- WAKE (R81): An enabled wake event restarts the clocks, returns the domains and resumes the fronds with the STM in FREE. -/
  | wake (src : Fin 4)
  /-- SYS_GP_WRITE (R71): A write to SYS_GPn claims, updates or releases a GP pin under the shared-resource rules. -/
  | sysGpWrite (id : Id) (pin : Fin 24) (v : Word) (rival : Option (Id × Word))
  /-- CTX_START (R135): SEQ_CTXCMD START moves a halted context to READY. -/
  | ctxStart (id : Id)
  /-- CTX_STOP (R135): SEQ_CTXCMD STOP moves a context to HALT, cancelling its wait. -/
  | ctxStop (id : Id)
  /-- CTX_CLEAR (R135): SEQ_CTXCMD CLEAR moves a faulted context to HALT. -/
  | ctxClear (id : Id)
  /-- SEQ_SIGNAL_WRITE (R139): A write to SEQ_SIGNAL raises a software event line, or completes with INVALID for a line below 64. -/
  | seqSignalWrite (id : Id) (line : Byte)
  /-- SEM_FORCED_RELEASE (R146): A write of FREL to SEQ_SEMn frees the semaphore and hands it on, unless a rank change makes it BUSY. -/
  | semForcedRelease (id : Id) (sem : Fin 64) (rank : BitVec 4)
  /-- INSTRUCTION_RETIRE (R158): An instruction whose access or cycle count is outstanding retires when its completion returns, writing its destinations. -/
  | instructionRetire (c : Ctx) (also : Option Ctx := none)
  /-- WAIT_TIMEOUT (R140): The timeout of a WAIT, SEMA or JTAKE elapses and the instruction completes with TIMEOUT. -/
  | waitTimeout (c : Ctx)
  /-- ADD (R161): Adds two registers modulo 2^32. -/
  | lelasAdd (c : Ctx)
  /-- SUB (R161): Subtracts two registers modulo 2^32. -/
  | lelasSub (c : Ctx)
  /-- AND (R161): Bitwise AND of two registers. -/
  | lelasAnd (c : Ctx)
  /-- OR (R161): Bitwise OR of two registers. -/
  | lelasOr (c : Ctx)
  /-- XOR (R161): Bitwise XOR of two registers. -/
  | lelasXor (c : Ctx)
  /-- SHL (R161): Shifts a register left by a register amount. -/
  | lelasShl (c : Ctx)
  /-- SHR (R161): Shifts a register right, filling with zeros. -/
  | lelasShr (c : Ctx)
  /-- SAR (R161): Shifts a register right, filling with the sign bit. -/
  | lelasSar (c : Ctx)
  /-- MUL (R161): Low 32 bits of the product of two registers. -/
  | lelasMul (c : Ctx)
  /-- MULHS (R161): High 32 bits of the signed product of two registers. -/
  | lelasMulhs (c : Ctx)
  /-- MULHU (R161): High 32 bits of the unsigned product of two registers. -/
  | lelasMulhu (c : Ctx)
  /-- SLT (R161): Sets 1 if the first register is signed-less than the second. -/
  | lelasSlt (c : Ctx)
  /-- SLTU (R161): Sets 1 if the first register is unsigned-less than the second. -/
  | lelasSltu (c : Ctx)
  /-- SEQ (R161): Sets 1 if two registers are equal. -/
  | lelasSeq (c : Ctx)
  /-- MINS (R161): Signed minimum of two registers. -/
  | lelasMins (c : Ctx)
  /-- MAXS (R161): Signed maximum of two registers. -/
  | lelasMaxs (c : Ctx)
  /-- ADDI (R162): Adds a sign-extended immediate to a register. -/
  | lelasAddi (c : Ctx)
  /-- ANDI (R162): AND of a register with a zero-extended immediate. -/
  | lelasAndi (c : Ctx)
  /-- ORI (R162): OR of a register with a zero-extended immediate. -/
  | lelasOri (c : Ctx)
  /-- XORI (R162): XOR of a register with a zero-extended immediate. -/
  | lelasXori (c : Ctx)
  /-- SHLI (R162): Shifts a register left by an immediate amount. -/
  | lelasShli (c : Ctx)
  /-- SHRI (R162): Shifts a register right by an immediate amount, filling with zeros. -/
  | lelasShri (c : Ctx)
  /-- SARI (R162): Shifts a register right by an immediate amount, filling with the sign bit. -/
  | lelasSari (c : Ctx)
  /-- SLTI (R162): Signed compare of a register with a sign-extended immediate. -/
  | lelasSlti (c : Ctx)
  /-- SLTUI (R162): Unsigned compare of a register with a zero-extended immediate. -/
  | lelasSltui (c : Ctx)
  /-- SEQI (R162): Equality of a register with a sign-extended immediate. -/
  | lelasSeqi (c : Ctx)
  /-- LUI (R162): Loads an immediate into bits [31:14] of a register. -/
  | lelasLui (c : Ctx)
  /-- LI (R162): Loads a sign-extended immediate into a register. -/
  | lelasLi (c : Ctx)
  /-- LDW (R163): Loads a 32-bit word, faulting with DATA on any code other than OK. -/
  | lelasLdw (c : Ctx)
  /-- LDHU (R163): Loads a zero-extended halfword. -/
  | lelasLdhu (c : Ctx)
  /-- LDHS (R163): Loads a sign-extended halfword. -/
  | lelasLdhs (c : Ctx)
  /-- LDBU (R163): Loads a zero-extended byte. -/
  | lelasLdbu (c : Ctx)
  /-- LDBS (R163): Loads a sign-extended byte. -/
  | lelasLdbs (c : Ctx)
  /-- LDD (R163): Loads a 64-bit word into a register pair. -/
  | lelasLdd (c : Ctx)
  /-- LDWC (R163): Loads a word and returns the completion code in a register without faulting. -/
  | lelasLdwc (c : Ctx)
  /-- STW (R163): Stores a 32-bit word, faulting with DATA on any code other than OK. -/
  | lelasStw (c : Ctx)
  /-- STH (R163): Stores a halfword. -/
  | lelasSth (c : Ctx)
  /-- STB (R163): Stores a byte. -/
  | lelasStb (c : Ctx)
  /-- STD (R163): Stores a register pair as a whole 64-bit SRAM unit. -/
  | lelasStd (c : Ctx)
  /-- STWC (R163): Stores a word and returns the completion code in a register without faulting. -/
  | lelasStwc (c : Ctx)
  /-- BEQ (R166): Branches if two registers are equal. -/
  | lelasBeq (c : Ctx)
  /-- BNE (R166): Branches if two registers differ. -/
  | lelasBne (c : Ctx)
  /-- BLT (R166): Branches on signed less-than. -/
  | lelasBlt (c : Ctx)
  /-- BGE (R166): Branches on signed greater-or-equal. -/
  | lelasBge (c : Ctx)
  /-- BLTU (R166): Branches on unsigned less-than. -/
  | lelasBltu (c : Ctx)
  /-- BGEU (R166): Branches on unsigned greater-or-equal. -/
  | lelasBgeu (c : Ctx)
  /-- JMP (R166): Jumps to an absolute target. -/
  | lelasJmp (c : Ctx)
  /-- CALL (R166): Pushes the return address and jumps to an absolute target. -/
  | lelasCall (c : Ctx)
  /-- JR (R166): Jumps to the address held in a register. -/
  | lelasJr (c : Ctx)
  /-- CALLR (R166): Pushes the return address and jumps to a register address. -/
  | lelasCallr (c : Ctx)
  /-- RET (R166): Pops the return address into the PC. -/
  | lelasRet (c : Ctx)
  /-- WAIT (R167): Waits on an event line in EDGE or LATCH mode with a timeout. -/
  | lelasWait (c : Ctx)
  /-- WAITT (R143): Arms a string-time stamp and waits until it fires, returning the lateness. -/
  | lelasWaitt (c : Ctx)
  /-- SIGNAL (R139): Raises a software event line on its retire edge. -/
  | lelasSignal (c : Ctx)
  /-- SEMA (R144): Acquires a ranked semaphore, waits for it, or faults on a rank-order violation. -/
  | lelasSema (c : Ctx)
  /-- SEMR (R145): Releases a held semaphore and hands it to the best waiter. -/
  | lelasSemr (c : Ctx)
  /-- TIME (R167): Reads the presented string-time stamp into a register pair. -/
  | lelasTime (c : Ctx)
  /-- SELF (R167): Reads the context's number, domain and priorities into a register. -/
  | lelasSelf (c : Ctx)
  /-- JTAKE (R168): Takes a lease on the next ACCEPTED journal entry of a class released to the domain. -/
  | lelasJtake (c : Ctx)
  /-- JMARK (R169): Moves a leased entry from ACCEPTED to STARTED with one nonvolatile write. -/
  | lelasJmark (c : Ctx)
  /-- JDONE (R170): Writes the result and then DONE to a leased STARTED entry. -/
  | lelasJdone (c : Ctx)
  /-- JFAIL (R170): Writes the failure result and then FAILED to a leased STARTED entry. -/
  | lelasJfail (c : Ctx)
  /-- SEND (R173): Reads a send descriptor and queues a frame on the string link with a sequence number. -/
  | lelasSend (c : Ctx)
  /-- CLAIM (R174): Claims a GP pin, timer, trace buffer or the second two-wire port for the domain. -/
  | lelasClaim (c : Ctx) (rival : Option (Id × Word) := none)
  /-- FREE (R175): Releases a shared resource that the domain holds. -/
  | lelasFree (c : Ctx)
  /-- TRAP (R176): Halts the context with code 0, or faults it with the given TRAP code. -/
  | lelasTrap (c : Ctx)
  /-- ACCEPTANCE_REQUEST (R182): A command request from the link or host is checked in order, reserves a slot and starts its entry write, or is refused. -/
  | acceptanceRequest (bad : Option (Fin 2) := none)
  /-- URGBOX_LOAD (R187): A LEVEL request that passed checks 1 and 2 is copied into JNL_URGBOX and JNL_ACC3 is raised, no sooner than 160 SCLK after the previous load. -/
  | urgboxLoad
  /-- ENTRY_WRITE_DONE (R185): Both lines of a new entry are written and verified; the acknowledgement is released and JNL_ACCn may be raised. -/
  | entryWriteDone (bad : Option (Fin 2))
  /-- JOURNAL_WRITE_COMPLETE (R171): The nonvolatile writes of a JMARK, JDONE or JFAIL complete and are read back, and the context leaves WAIT. -/
  | journalWriteComplete (c : Ctx) (bad : Option (Fin 2))
  /-- ENTRY_RETIRE (R196): A finished and reported entry whose retention time has passed retires and HEADNUM advances. -/
  | entryRetire
  /-- CONTROL_BLOCK_WRITE (R180): The journal writes the sender table and then both control-block copies when HEADNUM has advanced enough, space is low or it is idle. -/
  | controlBlockWrite
  /-- HOST_SUBMIT (R198): A host write of JNL_HGO submits the staged command as an acceptance request. -/
  | hostSubmit (id : Id)
  /-- HOST_QUERY (R198): A host write of a SEQ to JNL_HQSEQ looks up that entry's state and result. -/
  | hostQuery (id : Id) (seq : Word)
  /-- JNL_COMMIT (R201): A write to JNL_COMMIT checks and applies the staged JNL_CFG. -/
  | jnlCommit (id : Id)
  /-- BEACON_RX (R220): A verified BEACON counts for keep-alive and gives the STM its reference event on the beacon medium. -/
  | beaconRx (pair : Bool) (ago : Nat) (bytes : List Byte)
  /-- COMMAND_RX (R216): A verified COMMAND frame is turned into a journal request. -/
  | commandRx (pair : Bool) (bytes : List Byte)
  /-- REPLY_RX (R219): A verified REPLY frame is stored in the receive ring and raises SLK_RX. -/
  | replyRx (pair : Bool) (ago : Nat) (bytes : List Byte)
  /-- APP_RX (R219): A verified gateway-family APP frame is stored in the receive ring. -/
  | appRx (pair : Bool) (ago : Nat) (bytes : List Byte)
  /-- PEER_APP_RX (R219): A verified PEER APP frame is stored in the receive ring. -/
  | peerAppRx (pair : Bool) (ago : Nat) (bytes : List Byte)
  /-- JOIN_RX (R215): A received JOIN frame is dropped. -/
  | joinRx (pair : Bool) (bytes : List Byte)
  /-- ASSIGN_RX (R232): A verified ASSIGN during commissioning writes the identity line and sets the node and gateway addresses. -/
  | assignRx (pair : Bool) (bytes : List Byte)
  /-- KEYLOAD_RX (R232): A verified KEYLOAD during commissioning stores a wrapped key and has CRY unwrap it into its slot. -/
  | keyloadRx (pair : Bool) (bytes : List Byte)
  /-- PREAMBLE_DETECT (R225): A new preamble during a reception either captures the receiver or is counted as a collision. -/
  | preambleDetect (pair : Bool) (rssi : Byte)
  /-- FRAME_TX_START (R222): At a slot boundary inside the transmit window the next queued frame starts, or is discarded if it cannot fit. -/
  | frameTxStart (pair : Bool)
  /-- FRAME_TX_END (R224): A frame's transmission ends; for a SEND frame SLK_TXDONE is raised and its code recorded. -/
  | frameTxEnd (pair : Bool)
  /-- JOIN_SEND (R231): An unaddressed node in commissioning queues a JOIN in a chosen contention slot after its backoff. -/
  | joinSend
  /-- KEEPALIVE_LOSS (R227): MISSED reaches K; every input not OFF is forced to SAFE and KALOSS is set. -/
  | keepaliveLoss
  /-- MEDIUM_DRIVER_FAULT (R229): A medium's transmitter reports a driver fault, and the medium fails over. -/
  | mediumDriverFault (pair : Bool)
  /-- MEDIUM_SILENCE (R229): A medium receives no verified frame for T superframes while the other does, and it fails over. -/
  | mediumSilence (pair : Bool)
  /-- MEDIUM_RESTORE (R229): A failed medium receives verified frames in RET consecutive superframes and is no longer failed. -/
  | mediumRestore (pair : Bool)
  /-- RX_POP (R219): A write to SLK_RXPOP releases the oldest receive-ring entry. -/
  | rxPop (id : Id)
  /-- FORGET (R232): A write of SLK_CMCTL.FORGET zeroes the identity and key lines and clears the address and keys. -/
  | forget (id : Id) (commiss : Bool)
  /-- SLK_COMMIT (R236): A write to SLK_COMMIT checks and applies the staged link configuration and windows. -/
  | slkCommit (id : Id)
  /-- MODE_OFF (R245): A MODE write of OFF drives the input's eight outputs low within 4 SCLK. -/
  | modeOff (id : Id) (x : Fin 8) (hit : Option ModeHit := none)
  /-- MODE_BUCK (R245): A MODE write of BUCK starts soft start or changes mode, or is refused. -/
  | modeBuck (id : Id) (x : Fin 8) (hit : Option ModeHit := none)
  /-- MODE_BOOST (R245): A MODE write of BOOST starts soft start or changes mode, or is refused. -/
  | modeBoost (id : Id) (x : Fin 8) (hit : Option ModeHit := none)
  /-- MODE_BUCK_BOOST (R245): A MODE write of BUCK-BOOST starts soft start or changes mode, or is refused. -/
  | modeBuckBoost (id : Id) (x : Fin 8) (hit : Option ModeHit := none)
  /-- MODE_PASS (R245): A MODE write of PASS enters pass-through, through soft start when from OFF or SAFE. -/
  | modePass (id : Id) (x : Fin 8) (hit : Option ModeHit := none)
  /-- MODE_SAFE (R245): A MODE write of SAFE forces a running input into SAFE. -/
  | modeSafe (id : Id) (x : Fin 8) (hit : Option ModeHit := none)
  /-- PWM_PERIOD_START (R240): A phase's period begins, `phErr` off its string-time reference in 1/16 SCLK; pending committed sets and deferred mode changes take effect. -/
  | pwmPeriodStart (x : Fin 8) (y : Fin 2) (phErr : Nat := 0)
  /-- UPDATE_POINT (R242): At UPD/256 of its period a phase loads its duty shadows into its compares. -/
  | updatePoint (x : Fin 8) (y : Fin 2)
  /-- PWM_TRIGGER (R244): At TRG/256 of its period a phase raises its control-engine trigger and holds its samples. -/
  | pwmTrigger (x : Fin 8) (y : Fin 2)
  /-- SLEW_STEP (R248): Every 1 µs each commanded target moves toward its target by at most its slew rate. -/
  | slewStep
  /-- SOFT_START_TIMEOUT (R251): SSDONE is not set within SS.TMAX; the input goes to OFF and SSFAIL is set. -/
  | softStartTimeout (x : Fin 8)
  /-- PRESENCE_DETECTED (R251): VINS_x stays above PRON for PRT ms and PRESENT becomes 1. -/
  | presenceDetected (x : Fin 8)
  /-- PRESENCE_LOST (R251): VINS_x stays below UV for 1 ms; PRESENT becomes 0 and a running input goes to OFF. -/
  | presenceLost (x : Fin 8)
  /-- OVERCURRENT_TRIP (R253): A phase current crosses its threshold outside blanking, and the phase's four outputs go low within 4 SCLK. -/
  | overcurrentTrip (x : Fin 8) (y : Fin 2)
  /-- OVERVOLTAGE_TRIP (R253): VINS_x exceeds OVTH or OVP_EXT asserts, and the input goes to OFF. -/
  | overvoltageTrip (x : Fin 8) (ext : Bool)
  /-- UNDERVOLTAGE_TRIP (R253): VINS_x stays below UVTH for 2 SCLK on a running input, and the input goes to OFF. -/
  | undervoltageTrip (x : Fin 8)
  /-- DRIVER_FAULT (R253): FLT_x is low for 2 SCLK, and the input goes to OFF with DRVFLT set. -/
  | driverFault (x : Fin 8)
  /-- PST_FORCE_WRITE (R257): A write to PST_FORCE.SAFE sets or clears the forced-SAFE level. -/
  | pstForceWrite (id : Id) (safe : Bool)
  /-- BYPASS_WRITE (R256): A write to PST_BYP.BYP closes bypass, or leaves it only when the conditions of R106 hold. -/
  | bypassWrite (id : Id) (byp : Bool)
  /-- SAFE_DWELL_EXPIRY (R258): DWELL ms after SAFE entry or the last pin demand, an input with VSAFE set enters the regulating sub-state. -/
  | safeDwellExpiry (x : Fin 8)
  /-- BALANCE_WINDOW_END (R250): At the end of a balance window the phase averages are compared and TRIM steps. -/
  | balanceWindowEnd (x : Fin 8)
  /-- SYNCIN_EDGE (R260): A SYNCIN rising edge serves as the period reference for inputs that follow it. -/
  | syncinEdge (gap : Nat) (phErr : Nat)
  /-- SYNC_EDGE_MISSING (R261): A reference edge is missing; after the third, SYNC_LOST is set and the period moves toward P. -/
  | syncEdgeMissing (x : Fin 8)
  /-- SYNC_SLEW_STEP (R261): Every 100 µs the period in use moves by at most 1/1 024 toward its aim. -/
  | syncSlewStep
  /-- PST_COMMIT (R262): A write to PST_x_COMMIT checks the staged period set, including the CE budget proof, and applies it. -/
  | pstCommit (id : Id) (x : Fin 8)
  /-- STIME_TRIGGER (R274): A string-time tick matching an STIME program's offset holds its samples. -/
  | stimeTrigger
  /-- INSTANCE_DISPATCH (R267): A ready program instance is dispatched on a free lane and its sample registers are prepared. -/
  | instanceDispatch (lane : Fin 2)
  /-- INSTANCE_RELEASE (R267): At dispatch + B + 12 an instance's port writes are released together. -/
  | instanceRelease (lane : Fin 2)
  /-- CE_MAC (R271): Adds a shifted register-coefficient product to an accumulator. -/
  | ceMac (lane : Fin 2)
  /-- CE_MSU (R271): Subtracts a shifted register-coefficient product from an accumulator. -/
  | ceMsu (lane : Fin 2)
  /-- CE_MUL (R271): Loads an accumulator with a shifted register-coefficient product. -/
  | ceMul (lane : Fin 2)
  /-- CE_MACR (R271): Adds a shifted product of two registers to an accumulator. -/
  | ceMacr (lane : Fin 2)
  /-- CE_MULR (R271): Loads an accumulator with a shifted product of two registers. -/
  | ceMulr (lane : Fin 2)
  /-- CE_ADA (R271): Adds a shifted register to an accumulator. -/
  | ceAda (lane : Fin 2)
  /-- CE_LDA (R271): Loads an accumulator with a shifted register. -/
  | ceLda (lane : Fin 2)
  /-- CE_CLA (R271): Clears an accumulator. -/
  | ceCla (lane : Fin 2)
  /-- CE_ASR (R271): Shifts an accumulator right arithmetically. -/
  | ceAsr (lane : Fin 2)
  /-- CE_SAT (R271): Clamps an accumulator between two coefficients into a register. -/
  | ceSat (lane : Fin 2)
  /-- CE_SATW (R271): Clamps an accumulator to 32 bits into a register. -/
  | ceSatw (lane : Fin 2)
  /-- CE_ADD (R271): Adds two registers. -/
  | ceAdd (lane : Fin 2)
  /-- CE_SUB (R271): Subtracts two registers. -/
  | ceSub (lane : Fin 2)
  /-- CE_MIN (R271): Signed minimum of two registers. -/
  | ceMin (lane : Fin 2)
  /-- CE_MAX (R271): Signed maximum of two registers. -/
  | ceMax (lane : Fin 2)
  /-- CE_MOV (R271): Copies one register to another. -/
  | ceMov (lane : Fin 2)
  /-- CE_SEL (R271): Selects one of two registers by the sign of an accumulator. -/
  | ceSel (lane : Fin 2)
  /-- CE_LDI (R271): Loads a sign-extended immediate into a register. -/
  | ceLdi (lane : Fin 2)
  /-- CE_RDP (R271): Reads a port value into a register. -/
  | ceRdp (lane : Fin 2)
  /-- CE_WRP (R271): Holds a port write of a register until release. -/
  | ceWrp (lane : Fin 2)
  /-- CE_PRE (R282): With FIRST set, loads an integrator so the output continues from the port's LAST value. -/
  | cePre (lane : Fin 2)
  /-- CE_NOP (R271): Does nothing for one cycle. -/
  | ceNop (lane : Fin 2)
  /-- CE_COMMIT (R277): A write to CE_COMMIT checks the staged program set and runs the cycle-budget proof before applying it. -/
  | ceCommit (id : Id)
  /-- FAILOVER_PROOF_DONE (R279): The re-proof after a converter change completes and programs are degraded or restored step by step. -/
  | failoverProofDone
  /-- CE_SP_WRITE (R281): An initiator write to CE_SPk sets the active copy of a set-point slot. -/
  | ceSpWrite (id : Id) (k : Fin 32) (v : Word)
  /-- CE_IDATA_ACCESS (R288): An access to CE_IDATA reads or stages the indexed word and advances CE_IADDR. -/
  | ceIdataAccess (id : Id) (write : Option Word)
  /-- TRACE_ARM (R285): TRC_nCTL ARM puts a trace buffer in ARMED with COUNT 0. -/
  | traceArm (id : Id) (n : Fin 4)
  /-- TRACE_FORCE (R285): TRC_nCTL FORCE triggers the buffer on its next record. -/
  | traceForce (id : Id) (n : Fin 4)
  /-- TRACE_STOP (R285): TRC_nCTL STOP puts the buffer in DONE at once. -/
  | traceStop (id : Id) (n : Fin 4)
  /-- TRC_TRIG_EDGE (R285): A rising edge on TRC_TRIG triggers a buffer that uses the external trigger. -/
  | trcTrigEdge
  /-- TRC_OWN_WRITE (R286): A write to TRC_nOWN claims or releases a trace buffer. -/
  | trcOwnWrite (id : Id) (n : Fin 4) (held : Bool) (rival : Option (Id × Bool))
  /-- CONVERSION_RESULT (R298): A conversion result lands 40 SCLK after its slot and updates the last-result register, a sample register or the FIFO. -/
  | conversionResult (m : Fin 2) (l : Fin 2) (hold : Bool) (raw : BitVec 14) (early : Bool) (calEarly : Bool := false)
  /-- NEXT_ONESHOT (R295): An ADC_nNEXT write with HOLD 0 queues a one-shot conversion. -/
  | nextOneshot (id : Id) (l : Fin 2) (ch : Fin 32)
  /-- HOLD_ON (R295): An ADC_nNEXT write with HOLD 1 selects the hold channel and divider and turns hold on. -/
  | holdOn (id : Id) (l : Fin 2) (ch : Fin 32) (hdiv : BitVec 4)
  /-- HOLD_OFF (R295): An ADC_nNEXT write with HOFF 1 turns hold off. -/
  | holdOff (id : Id) (l : Fin 2)
  /-- FIFO_POP (R298): A read of ADC_nFIFO pops the oldest result word, or returns BUSY when empty. -/
  | fifoPop (id : Id) (l : Fin 2)
  /-- WINDOW_ARM (R296): ADC_nWCTL ARM arms a capture window between two stamps. -/
  | windowArm (id : Id) (l : Fin 2) (gate : Bool)
  /-- WINDOW_STOP (R296): ADC_nWCTL STOP closes or disarms the window, or counts an orphan stop. -/
  | windowStop (id : Id) (l : Fin 2) (gate : Bool)
  /-- CAL_ZERO (R302): A ZERO calibration command averages conversions and takes the pending offset. -/
  | calZero (id : Id) (conv : Fin 2) (ch : Fin 32) (cross : Bool) (avg : BitVec 4)
  /-- CAL_FULL (R302): A FULL calibration command averages conversions and computes and writes the gain and offset. -/
  | calFull (id : Id) (conv : Fin 2) (ch : Fin 32) (cross : Bool) (avg : BitVec 4)
  /-- CAL_SET (R302): A SET calibration command writes the given offset and gain. -/
  | calSet (id : Id) (conv : Fin 2) (ch : Fin 32) (cross : Bool) (avg : BitVec 4)
  /-- CAL_COMMAND_DONE (R303): A calibration command ends, its table line is written whole, CODE is set and ADC_CAL is raised. -/
  | calCommandDone (sum : Int) (limit : Bool)
  /-- CAL_TABLE_LOAD_DONE (R301): A converter finishes reading its calibration entries after power good and may start converting. -/
  | calTableLoadDone (m : Fin 2)
  /-- SELF_CHECK (R304): Every INT µs a converter converts its check references and the pair is judged. -/
  | selfCheck (m : Fin 2) (missed : Bool) (d0 : Nat) (d1 : Nat)
  /-- CONVERTER_FAIL (R305): A converter fails its self-check and the survivor takes over its logical channels. -/
  | converterFail (m : Fin 2) (noResult : Bool) (lost kept : Nat := 0)
  /-- CONVERTER_RESTORE (R307): ADC_CTL.RESTOREm returns a failed converter to service when its checks pass. -/
  | converterRestore (id : Id) (m : Fin 2)
  /-- ADC_COMMIT (R299): A write to ADC_COMMIT checks and applies the staged channel formats. -/
  | adcCommit (id : Id)
  /-- RAIL_VSET_WRITE (R314): A write to HKR_x_VSET sets a rail's voltage, ramping an enabled rail toward it. -/
  | railVsetWrite (id : Id) (i : Fin 8) (mv : Half)
  /-- RAIL_ENABLE_WRITE (R314): A write to HKR_x_EN enables a rail with a ramp or switches it off and discharges it. -/
  | railEnableWrite (id : Id) (i : Fin 8) (en : Bool)
  /-- RAIL_POWER_GOOD (R315): A rail's output stays within ±5 % for 20 µs and PG is set. -/
  | railPowerGood (i : Fin 8)
  /-- RAIL_PG_LOSS (R315): A rail's output stays outside ±5 % for 20 µs and PG clears. -/
  | railPgLoss (i : Fin 8)
  /-- RAIL_UV_FAULT (R315): A rail below 90 % for 20 µs after power good is switched off with UVi set. -/
  | railUvFault (i : Fin 8)
  /-- RAIL_OC_FAULT (R315): A rail's current limit acts for 1 ms and the rail is switched off with OCi set. -/
  | railOcFault (i : Fin 8)
  /-- HS_CTRL_WRITE (R318): A write to HKR_HSn_CTRL switches a direct load or changes the slot policy. -/
  | hsCtrlWrite (id : Id) (n : Fin 8) (v : Word)
  /-- SLOT_ARM (R319): A slot ARM command arms a load window between two stamps. -/
  | slotArm (id : Id) (n : Fin 8) (b : Bool)
  /-- SLOT_STOP (R319): A slot STOP command closes or disarms the window, or counts an orphan stop. -/
  | slotStop (id : Id) (n : Fin 8) (b : Bool)
  /-- SLOT_NOW (R319): A slot NOW command opens a window from the next edge with no stop. -/
  | slotNow (id : Id) (n : Fin 8) (b : Bool)
  /-- SWITCH_OVERCURRENT (R322): A switch's current limit acts for 100 µs; the switch turns off, its windows end and HSOC is set. -/
  | switchOvercurrent (n : Fin 8) (e : LimitEvent := .held)
  /-- SWITCH_THERMAL (R322): A switch reaches its thermal limit; it turns off at once, its windows end and HSOT is set. -/
  | switchThermal (n : Fin 8)
  /-- CHARGER_TICK (R337): Every 1 ms the charger judges its conditions and moves between phases. -/
  | chargerTick (bat : Nat) (cur : Nat) (indpm : Bool) (treg : Bool)
  /-- CELL_PRESENCE_CHANGE (R328): BAT stays above 2.00 V or below 1.90 V for 10 ms and PRESENT changes. -/
  | cellPresenceChange (present : Bool)
  /-- NTC_JUDGE (R329): Every 1 ms the NTC zone and the cell's qualification are judged. -/
  | ntcJudge (mv : Nat)
  /-- POWER_PATH_TO_VPRE (R336): VPRE holds at or above 4.60 V for 10 ms and the path returns to VPRE, ending the warning and RTC lockout. -/
  | powerPathToVpre
  /-- CHG_COMMIT (R347): A write to CHG_COMMIT checks and applies the staged charger configuration. -/
  | chgCommit (id : Id)
  /-- LINE_OPERATION_DONE (R356): The NVS controller completes a line read, write or read-modify-write and serves the next queued operation. -/
  | lineOperationDone (holds : Bool)
  /-- NVS_COMMIT (R358): A write to NVS_COMMIT issues the staged line buffer as a whole-line write. -/
  | nvsCommit (id : Id)
  /-- DMA_ADDRESS_WRITE (R366): A write to DMA_CHn_SRC or DST takes ownership of an idle channel. -/
  | dmaAddressWrite (id : Id) (n : Fin 32) (dst : Bool) (addr : Word)
  /-- DMA_START (R369): START from the owner begins a register-mode transfer or a ring. -/
  | dmaStart (id : Id) (n : Fin 32)
  /-- DMA_ABORT (R378): ABORT stops a channel after its access in flight and returns it to IDLE. -/
  | dmaAbort (id : Id) (n : Fin 32)
  /-- DMA_KICK (R373): KICK returns an EMPTY ring channel to RUN or sets a pending kick. -/
  | dmaKick (id : Id) (n : Fin 32)
  /-- DMA_RELEASE (R366): RELEASE by the owner of an idle channel resets it and clears ownership. -/
  | dmaRelease (id : Id) (n : Fin 32)
  /-- DMA_ISSUE (R375): The DMA block selects one ready channel and issues its next access. -/
  | dmaIssue
  /-- DMA_ACCESS_DONE (R371): A channel's access completes and the channel advances its transfer, fetch or write-back. -/
  | dmaAccessDone (n : Fin 32)
  /-- DMA_STARVATION (R375): A channel ready for 256 SCLK without issuing is selected next in its class. -/
  | dmaStarvation (n : Fin 32)
  /-- DMA_COMMIT (R382): A write to DMA_COMMIT checks and applies staged ring bases and sizes. -/
  | dmaCommit (id : Id)
  /-- HOST_WRITE_TRANSACTION (R386): A host write transaction sets the pointer and writes each complete word. -/
  | hostWriteTransaction (dev : BitVec 7) (bytes : List Byte) (fin : HostEnd)
  /-- HOST_READ_TRANSACTION (R387): A host read transaction reads words at the pointer as the host acknowledges them. -/
  | hostReadTransaction (dev : BitVec 7) (acks : Nat) (fin : HostEnd)
  /-- BUS_FREE (R385): A STOP or 50 µs of idle lines lets the target recognise the next START. -/
  | busFree (stop : Bool)
  /-- STRETCH_LIMIT (R388): A target access holds SCL for 1 ms; SCL is released and TIMEOUT recorded. -/
  | stretchLimit (w : Option Word)
  /-- CLOCK_LOW_TIMEOUT (R390): SCL is low for the timeout in a transaction; CLTO is set and the transaction is abandoned. -/
  | clockLowTimeout
  /-- DATA_LOW_TIMEOUT (R390): SDA is low while SCL is high for the timeout; DLTO is set and the transaction is abandoned. -/
  | dataLowTimeout
  /-- ALERT_RESPONSE (R392): A read of the Alert Response Address while PEND is set answers with the node's address and clears PEND if won. -/
  | alertResponse (won : Bool)
  /-- ALERT_SW (R392): A write of TWB_ALERT.SW raises PEND and drives TWB_ALERT_N low. -/
  | alertSw (id : Id) (en : BitVec 4)
  /-- ADDRESS_MATCH_WAKE (R393): In sleep, a matching address byte wakes the node, stretching or refusing as WAKE selects. -/
  | addressMatchWake (dev : BitVec 7)
  /-- TWB_COMMIT (R400): A write to TWB_COMMIT checks and applies the staged target configuration. -/
  | twbCommit (id : Id)
  /-- TWB2_OWN_WRITE (R396): A write to TWB2_OWN claims or releases the second two-wire port. -/
  | twb2OwnWrite (id : Id) (held : Bool) (rival : Option (Id × Bool))
  /-- TWB2_GO (R397): TWB2_CMD.GO starts a write, read or probe transfer on the second port. -/
  | twb2Go (id : Id) (addr : BitVec 7) (wlen : BitVec 5) (rlen : BitVec 5) (linesFree : Bool)
  /-- TWB2_TRANSFER_DONE (R398): A second-port transfer ends with its code and TWB2_DONE is raised. -/
  | twb2TransferDone (k : Fin 4) (npos : Fin 32) (rx : List Byte)
  /-- OTP_PROGRAM (R407): A write to OTP_PCMD with the key starts a program command on an OTP word, or is refused. -/
  | otpProgram (id : Id) (src : Bool) (key : Half)
  /-- OTP_BURN_DONE (R408): The burn rounds of a program command end with OK or INTEGRITY and CRY_DONE is raised. -/
  | otpBurnDone (failLo : Word) (failHi : Word)
  /-- OTP_RBADV_WRITE (R412): A write to OTP_RBADV burns the next anti-rollback thermometer bit. -/
  | otpRbadvWrite (id : Id) (n : BitVec 9)
  /-- LCS_TRANSITION_REQUEST (R413): A write to LCS_CMD with the key requests a life-cycle transition. -/
  | lcsTransitionRequest (id : Id) (target : BitVec 3) (key : Half)
  /-- TRANSITION_DONE (R414): A life-cycle transition finishes its burns and scans, or fails with INTEGRITY. -/
  | transitionDone (fail : Option (Fin 2048))
  /-- MAILBOX_PROGRAM (R415): An authenticated PROGRAM command burns an OTP word in SEALED. -/
  | mailboxProgram (id : Id)
  /-- MAILBOX_TRANSITION (R415): An authenticated TRANSITION command runs a life-cycle transition. -/
  | mailboxTransition (id : Id)
  /-- MAILBOX_ANALYSIS (R415): An authenticated ANALYSIS command opens VTEST in RETURNED until the next POR. -/
  | mailboxAnalysis (id : Id)
  /-- EXTEST (R417): The EXTEST instruction takes inputs to OFF, drives BYP high and gives the pins to the boundary register. -/
  | tapExtest (trst : Bool := true)
  /-- SAMPLE_PRELOAD (R417): The SAMPLE/PRELOAD instruction samples or preloads the boundary register. -/
  | tapSamplePreload (preload : Option Nat) (trst : Bool := true)
  /-- IDCODE (R417): The IDCODE instruction selects the identification register. -/
  | tapIdcode (trst : Bool := true)
  /-- DEBUG (R417): The DEBUG instruction opens the path to the interconnect as ID 3 where the state permits. -/
  | tapDebug (trst : Bool := true)
  /-- VTEST (R417): The VTEST instruction opens vendor memory and analogue test where permitted. -/
  | tapVtest (trst : Bool := true)
  /-- BYPASS (R417): The BYPASS instruction selects the bypass register. -/
  | tapBypass (trst : Bool := true)
  /-- SHA256 (R418): A CRY SHA-256 command digests bytes from SRAM. -/
  | sha256 (id : Id) (ksel : Fin 4)
  /-- AES_ENCRYPT (R418): A CRY AES-128 ECB encrypt command under a user key slot. -/
  | aesEncrypt (id : Id) (ksel : Fin 4)
  /-- AES_CMAC (R418): A CRY AES-128-CMAC command computes a tag. -/
  | aesCmac (id : Id) (ksel : Fin 4)
  /-- ECDSA_VERIFY (R418): A CRY ECDSA P-256 verify command sets VALID. -/
  | ecdsaVerify (id : Id) (ksel : Fin 4)
  /-- DERIVE (R418): A CRY Derive command encrypts a block under the device key into a user slot. -/
  | derive (id : Id) (ksel : Fin 4)
  /-- RANDOM (R418): A CRY Random command writes TRNG bytes to SRAM. -/
  | random (id : Id) (ksel : Fin 4)
  /-- CRY_COMMAND_DONE (R419): A CRY command ends or stops on an access error and raises CRY_DONE. -/
  | cryCommandDone
  /-- KEY_LOAD (R424): CRY_KEYLD.LOAD loads a user key slot from the key registers and zeroes them. -/
  | keyLoad (id : Id) (slot : Fin 4)
  /-- KEY_CLEAR (R424): CRY_KEYLD.CLR clears a user key slot, by its owner only. -/
  | keyClear (id : Id) (slot : Fin 4)
  /-- TRNG_HEALTH_FAIL (R420): A TRNG health test fails; RNGFAIL is set and output is withheld. -/
  | trngHealthFail
  /-- TRNG_STARTUP_PASS (R420): After RNGFAIL is cleared, the 1 024-sample start-up test passes and output resumes. -/
  | trngStartupPass
  /-- SEVERE_CLEAR (R430): A write of 1 to FLT_SEV bits clears the sources that have no fault flag set and empties their FIFOs. -/
  | severeClear (id : Id) (v : Word)
  /-- SAFE_PIN_CHANGE (R435): A change on SAFE_A or SAFE_B begins or ends a demand or disagreement; a demand drives all outputs low within 6 SCLK. -/
  | safePinChange (a : Bool) (b : Bool)
  /-- DISCREPANCY_LATCH (R436): A disagreement reaches T_disc and DISCREPANCY is latched. -/
  | discrepancyLatch
  /-- DISCREPANCY_CLEAR (R437): A write of 1 to DISCREPANCY clears it only while both channels read healthy. -/
  | discrepancyClear (id : Id)
  /-- RTC_SNAPSHOT_READ (R445): A read of RTC_SEC returns SEC and snapshots the time and calendar for the reader. -/
  | rtcSnapshotRead (id : Id)
  /-- RTC_COMMIT (R446): A write to RTC_COMMIT sets SEC and SUB on the next crystal edge and sets TVALID. -/
  | rtcCommit (id : Id)
  /-- TRIM_START (R448): RTC_TRCTL START arms a trim measurement against string time. -/
  | trimStart (id : Id) (k : BitVec 5) (auto : Bool)
  /-- TRIM_WINDOW_CLOSE (R449): After 2^K cycles the trim window closes and the crystal error is written, and TRIM set if AUTO. -/
  | trimWindowClose (m : Nat)
  /-- TRIM_ABORT (R450): ABORT ends a trim measurement early with RESULT ABORTED. -/
  | trimAbort (id : Id) (k : BitVec 5) (auto : Bool)
  /-- ALARM_FIRE (R451): An enabled alarm's target is reached; ALMFn is set, the alarm re-arms or disables, and RTC_ALARM is raised. -/
  | alarmFire (n : Fin 2)
  /-- OSC_STOP (R444): No 32.768 kHz crystal edge for 1 ms; OSCOK clears, OSCSTOP is set and counting stops. -/
  | oscStop
  /-- FAN_REGULATOR_STEP (R463): Every 10 ms the fan demand is formed and the running bridge duty is adjusted. -/
  | fanRegulatorStep (fcross : Nat) (ffg : Nat) (ilim : Bool) (crossings : Bool)
  /-- ZONE_EVALUATION (R458): Every 100 ms each enabled zone's curve gives a demand from its channel's code. -/
  | zoneEvaluation
  /-- ZONE_STALE (R459): A zone channel gives no result for 1 s; the zone contributes its highest demand and ZSTALE is set. -/
  | zoneStale (k : Fin 8)
  /-- LOOP_TIMEOUT (R460): No CE write reaches the fan port for TMO; the demand becomes MAXSPD and LOOP_LOST is set. -/
  | loopTimeout
  /-- START_STEP_END (R461): A fan start step ends after its time and the sequence moves on, reaches RUN or fails the attempt. -/
  | startStepEnd (good : Bool)
  /-- BACKOFF_EXPIRY (R462): The wait after a failed attempt ends and the next start attempt begins. -/
  | backoffExpiry
  /-- BEMF_LOST (R464): Back-EMF crossings are lost while FG is valid; commutation follows FG. -/
  | bemfLost
  /-- TACH_LOST (R464): FG edges are lost while back-EMF is valid; TACH_LOST is set. -/
  | tachLost
  /-- SIGNAL_STALL (R464): Neither back-EMF nor FG is valid; the bridge switches off and the stall counts as a failed attempt. -/
  | signalStall
  /-- BRIDGE_OVERCURRENT (R465): Phase current exceeds 2.5 A; the bridge switches off and OC is set. -/
  | bridgeOvercurrent
  /-- BRIDGE_OVERTEMP (R465): Bridge temperature exceeds 150 °C; the bridge switches off and OT is set. -/
  | bridgeOvertemp
  /-- FAN_VM_UNDERVOLTAGE (R465): FAN_VM falls below 4.5 V; the bridge switches off and the fan reads NOPOWER. -/
  | fanVmUndervoltage
  /-- FAN_COMMIT (R468): A write to FAN_COMMIT checks and applies the staged fan configuration and zones. -/
  | fanCommit (id : Id)
  /-- TMR_OWN_WRITE (R482): A write to TMR_nOWN claims or releases a timer. -/
  | tmrOwnWrite (id : Id) (n : Fin 8) (held : Bool) (rival : Option (Id × Bool))
  /-- TIMER_WRAP (R493): A timer passes TOP, wraps to 0 and sets WRAPF. -/
  | timerWrap (n : Fin 8)
  /-- TIMER_COMPARE (R493): A timer count equals CMP and CMPF is set. -/
  | timerCompare (n : Fin 8)
  /-- TIMER_CAPTURE (R493): A selected edge on a timer's pin copies the count into CAP and sets CAPF. -/
  | timerCapture (n : Fin 8) (rising : Bool)
  /-- FRAME_DROPPED (R209): A received frame fails a check of R209, or is abandoned at its header for LEN above 48; it is dropped, its counter is incremented and SLK_RXSTAT.LAST is set. -/
  | frameDropped (pair : Bool) (bytes : List Byte) (ago : Nat := 0)
  /-- RECEPTION_START (R225): With no frame current, a preamble is detected and the receiver locks onto a new frame, raising SLK_RXACT and turning the idle receiver into a receiving one. -/
  | receptionStart (pair : Bool) (rssi : Byte)
  /-- TX_DRIVER_FAULT_END (R230): A medium's transmitter driver fault clears (CTXF or PTXF), and queued frames may leave again on that medium. -/
  | txDriverFaultEnd (pair : Bool)
  /-- FAN_VM_RETURN (R465): FAN_VM rises above 5.0 V after an undervoltage, leaving NOPOWER, and the fan starts afresh from STOPPED. -/
  | fanVmReturn
  /-- VHV_FALL (R75): VHV falls below the 6.5 V power-on threshold; SYS_SUPSTAT.VHV_OK clears and the pre-regulator stops. -/
  | vhvFall
  /-- D0_POWER_LOSS (R443): VSYS and BAT are both absent, so D0 loses power and the RTC and D0 state are lost until D0 is powered again. -/
  | d0PowerLoss
  /-- DOMAIN_OFF_COMPLETE (R78): A domain that is switching off finishes powering down, and HKR_DOMSTAT.BUSY clears once every transition of the write is complete. -/
  | domainOffComplete
  /-- OSC_RESUME (R444): The 32.768 kHz crystal edges return after an OSCSTOP; OSCOK sets again and SEC and SUB resume counting without a correction. -/
  | oscResume
deriving DecidableEq, Repr

end Sys2Proof
end

