-- ==== Sys2Proof/Config.lean ====
section
/-! DEFINITION. What the spec leaves open: free values, opaque constants that nothing can evaluate. Each is applied to the model's counter of free values or to the operands it depends on, and named in an assumption log entry. -/

namespace Sys2Proof.Config

/-- The frequency the string-time loop filters from a reference event, by the time constant BW and the event's error (R50 gives no gains): log 10. -/
opaque stmFiltered : Nat → Nat → Int → BitVec 32

/-- The size of the offset by which the loop slews, before SLEW bounds it, by BW and the event's error (R49, R50): log 10. -/
opaque stmOffset : Nat → Nat → Int → BitVec 32

/-- The count, in SCLK edges, that the watchdog goes on from when it is enabled (R105): log 31. -/
opaque wdtCount : Nat → BitVec 48

/-- Whether a reported phase error that is no whole number of ticks goes up or down (R50, R61): log 64. -/
opaque stmErrUp : Nat → Bool

/-- The bridge duty that the fan's ramp leaves (R461, R463): log 14. -/
opaque fanRampDuty : Nat → BitVec 10

/-- CE_BUDGET.PROG and SLACK of a passed proof without a PWM program (R277): log 15. -/
opaque ceNoPwm : Nat → BitVec 21

/-- Word 14 of a finished entry whose second line fails its tag (R184, R195): log 67. -/
opaque jnlLostResult : Nat → BitVec 32

/-- Whether a mean that is no whole number of 1/256 codes is taken up or down (R302): log 16. -/
opaque adcMeanUp : Nat → Bool

/-- A word from the true random number generator (R407, R415, R418, R231): log 18. -/
opaque rngWord : Nat → BitVec 32

/-- How the differing bits of a weak OTP word read through the window, and which bits a burn cut short leaves set (R403, R408): log 19. -/
opaque otpBits : Nat → BitVec 32

/-- How long the switching clock on PHSYNC stays high in a period of that length, in 1/16 SCLK (R70): log 106. -/
opaque phsyncHigh : Nat → Nat

/-- The level of a GP pin that the chip does not drive (R70, R71): log 20. -/
opaque gpLevel : Nat → Bool

/-- How the boundary register drives a pin in EXTEST, by the register's value and the pin's number here: whether it drives it, and the level (R417): log 23. -/
opaque extestDrives : Nat → Nat → Bool
opaque extestLevel : Nat → Nat → Bool

/-- What the boundary register samples, whose order of pins the spec does not give (R417): log 23. -/
opaque boundary : Nat → Nat

end Sys2Proof.Config
end

