-- ==== Sys2Proof/Machine/Code.lean ====
section
/-! DEFINITION. The completion codes (R15) and the initiator IDs (R109). -/

namespace Sys2Proof.Machine

/-- The completion codes of R15. -/
inductive Code where
  | ok | denied | busy | invalid | stageReject | timeout | integrity | abortedByReset
  | emptyWindow | orderFault | notClaimed | lifecycle
deriving DecidableEq, Repr

/-- The number of a completion code (R15). -/
def Code.num : Code → Nat
  | .ok => 0x00
  | .denied => 0x01
  | .busy => 0x02
  | .invalid => 0x03
  | .stageReject => 0x04
  | .timeout => 0x05
  | .integrity => 0x06
  | .abortedByReset => 0x07
  | .emptyWindow => 0x08
  | .orderFault => 0x09
  | .notClaimed => 0x0A
  | .lifecycle => 0x0B

/-- A check's outcome: OK when it holds, the given code otherwise. -/
def Code.unless (c : Code) (b : Bool) : Code := if b then .ok else c

/-- Initiator IDs (R109). -/
def idHost : Nat := 0
/-- SLK-GATEWAY (R109). -/
def idGateway : Nat := 1
/-- SLK-PEER (R109). -/
def idPeer : Nat := 2
/-- DEBUG (R109). -/
def idDebug : Nat := 3
/-- CE (R109). -/
def idCe : Nat := 5
/-- The initiator ID of a context bound to frond domain `d` (R109). -/
def idFd (d : Nat) : Nat := 6 + d
/-- JNL (R109). -/
def idJnl : Nat := 14
/-- BOOT (R109). -/
def idBoot : Nat := 15

end Sys2Proof.Machine
end

