-- ==== Sys2Proof/Machine/Field.lean ====
section
/-! DEFINITION. What a register field is (R4 to R6): where it lies, its access code, its reset value and kinds, and the encodings its table reserves. -/

namespace Sys2Proof.Machine

/-- The access codes of R6; `ceOnly` is the PST duty shadow's "RW, CE only" (R264). -/
inductive Acc where
  | ro | rw | wo | w1c | w1s | rc | rws | rwl | st | ceOnly
deriving DecidableEq, Repr

/-- The sets of reset kinds the register tables name (R4). -/
inductive Kinds where
  | all | pbl | pb | por | none
deriving DecidableEq, Repr

/-- The six reset kinds (R13). -/
inductive ResetKind where
  | por | bor | lcr | pin | wdr | swr
deriving DecidableEq, Repr

/-- POR, BOR and LCR reach deeper than the warm kinds (R101). -/
def ResetKind.deep : ResetKind → Bool
  | .por | .bor | .lcr => true
  | _ => false

/-- POR and BOR also take rails, SRAM and the charger (R101). -/
def ResetKind.full : ResetKind → Bool
  | .por | .bor => true
  | _ => false

/-- The encodings a field accepts: every one, or a range (R12). -/
inductive Resv where
  | none
  | range (lo hi : Nat)
deriving DecidableEq, Repr

/-- How a family's reset value is given: one number, or by index (R132, R310). -/
inductive RstRule where
  | const | accRights | adcDiff
deriving DecidableEq, Repr

/-- A family of register fields: one field, or one per index pair (i, j) at the strides `s1`, `s2`. -/
structure Fam where
  addr : Nat
  lo : Nat
  w : Nat
  acc : Acc
  rst : Nat := 0
  kinds : Kinds := .all
  resv : Resv := .none
  rule : RstRule := .const
  s1 : Nat := 0
  n1 : Nat := 1
  s2 : Nat := 0
  n2 : Nat := 1
deriving DecidableEq, Repr

/-- One field of a family. -/
structure Fld where
  fam : Fam
  i : Nat
  j : Nat
deriving DecidableEq, Repr

/-- The key of a field in the register file: its word's byte address and its low bit. -/
def Fam.key (f : Fam) (i j : Nat) : Nat := (f.addr + f.s1 * i + f.s2 * j) * 32 + f.lo

/-- The reset value of a field (R4, and by index R132 and R293). -/
def Fam.rstAt (f : Fam) (i j : Nat) : Nat :=
  match f.rule with
  | .const => f.rst
  | .accRights => if j = 3 ∨ j = 15 then 0x6DB else 0
  | .adcDiff => if (4 ≤ j ∧ j ≤ 11) ∨ (i = 0 ∧ j = 13) then 1 else 0

/-- Whether a reset kind restores a field of these kinds (R4). -/
def Kinds.restores : Kinds → ResetKind → Bool
  | .all, _ => true
  | .pbl, k => k = .por || k = .bor || k = .lcr
  | .pb, k => k = .por || k = .bor
  | .por, k => k = .por
  | .none, _ => false

/-- Whether a field accepts an encoding (R12). -/
def Resv.ok : Resv → Nat → Bool
  | .none, _ => true
  | .range lo hi, v => decide (lo ≤ v) && decide (v ≤ hi)

/-- The field of a family that lies in the word at `addr`, if one does. -/
def Fam.at? (f : Fam) (addr : Nat) : Option Fld :=
  if addr < f.addr then none
  else
    let d := addr - f.addr
    if f.s1 = 0 then if d = 0 then some ⟨f, 0, 0⟩ else none
    else if f.s2 = 0 then
      if d % f.s1 = 0 ∧ d / f.s1 < f.n1 then some ⟨f, d / f.s1, 0⟩ else none
    else
      let r := d % f.s1
      if d / f.s1 < f.n1 ∧ r % f.s2 = 0 ∧ r / f.s2 < f.n2 then some ⟨f, d / f.s1, r / f.s2⟩ else none

/-- The bits of a field in a written word. -/
def Fld.bits (x : Fld) (v : Nat) : Nat := v / 2 ^ x.fam.lo % 2 ^ x.fam.w

/-- A field's key. -/
def Fld.key (x : Fld) : Nat := x.fam.key x.i x.j

/-- A field's reset value. -/
def Fld.rst (x : Fld) : Nat := x.fam.rstAt x.i x.j

end Sys2Proof.Machine
end

