-- ==== Sys2Proof/Machine/Fields.lean ====
section
/-! DEFINITION. The register fields of the TZE816, one definition per field family, from the register tables of spec/ (R4 to R6): address, low bit, width, access code, reset value and reset kinds, and the reserved encodings its table names. -/

namespace Sys2Proof.Machine.F

/-! ### SYS -/

/-- SYS_CHIPID.PART (R1). -/
def sysChipidPart : Fam := { addr := 0x40000000, lo := 16, w := 16, acc := .ro, rst := 0x816 }
/-- SYS_CHIPID.STEP (R1). -/
def sysChipidStep : Fam := { addr := 0x40000000, lo := 8, w := 8, acc := .ro, rst := 0xB1 }
/-- SYS_GPn.FUNC (R70). -/
def sysGpFunc : Fam := { addr := 0x40000100, lo := 0, w := 2, acc := .rw, s1 := 0x4, n1 := 24 }
/-- SYS_GPn.PULL (R70). -/
def sysGpPull : Fam := { addr := 0x40000100, lo := 2, w := 2, acc := .rw, rst := 0x1, s1 := 0x4, n1 := 24 }
/-- SYS_GPn.OE (R70). -/
def sysGpOe : Fam := { addr := 0x40000100, lo := 4, w := 1, acc := .rw, s1 := 0x4, n1 := 24 }
/-- SYS_GPn.OUT (R70). -/
def sysGpOut : Fam := { addr := 0x40000100, lo := 5, w := 1, acc := .rw, s1 := 0x4, n1 := 24 }
/-- SYS_GPn.OD (R70). -/
def sysGpOd : Fam := { addr := 0x40000100, lo := 6, w := 1, acc := .rw, s1 := 0x4, n1 := 24 }
/-- SYS_GPn.IN (R70). -/
def sysGpIn : Fam := { addr := 0x40000100, lo := 7, w := 1, acc := .ro, s1 := 0x4, n1 := 24 }
/-- SYS_GPn.SEL (R70). -/
def sysGpSel : Fam := { addr := 0x40000100, lo := 8, w := 3, acc := .rw, s1 := 0x4, n1 := 24 }
/-- SYS_GPn.OWNER (R70). -/
def sysGpOwner : Fam := { addr := 0x40000100, lo := 12, w := 4, acc := .ro, s1 := 0x4, n1 := 24 }
/-- SYS_GPn.HELD (R70). -/
def sysGpHeld : Fam := { addr := 0x40000100, lo := 16, w := 1, acc := .rw, s1 := 0x4, n1 := 24 }
/-- SYS_RSTCAUSE.POR (R108). -/
def sysRstcausePor : Fam := { addr := 0x40000010, lo := 0, w := 1, acc := .rc, kinds := .por, rst := 0x1 }
/-- SYS_RSTCAUSE.BOR (R108). -/
def sysRstcauseBor : Fam := { addr := 0x40000010, lo := 1, w := 1, acc := .rc, kinds := .por }
/-- SYS_RSTCAUSE.LCR (R108). -/
def sysRstcauseLcr : Fam := { addr := 0x40000010, lo := 2, w := 1, acc := .rc, kinds := .por }
/-- SYS_RSTCAUSE.PIN (R108). -/
def sysRstcausePin : Fam := { addr := 0x40000010, lo := 3, w := 1, acc := .rc, kinds := .por }
/-- SYS_RSTCAUSE.WDR (R108). -/
def sysRstcauseWdr : Fam := { addr := 0x40000010, lo := 4, w := 1, acc := .rc, kinds := .por }
/-- SYS_RSTCAUSE.SWR (R108). -/
def sysRstcauseSwr : Fam := { addr := 0x40000010, lo := 5, w := 1, acc := .rc, kinds := .por }
/-- SYS_RSTCAUSE.CLKMON (R108). -/
def sysRstcauseClkmon : Fam := { addr := 0x40000010, lo := 6, w := 1, acc := .rc, kinds := .por }
/-- SYS_RSTCAUSE.GLITCH (R108). -/
def sysRstcauseGlitch : Fam := { addr := 0x40000010, lo := 7, w := 1, acc := .rc, kinds := .por }
/-- SYS_RSTCAUSE.BORSRC (R108). -/
def sysRstcauseBorsrc : Fam := { addr := 0x40000010, lo := 8, w := 4, acc := .rc, kinds := .por }
/-- SYS_RSTREQ.KEY (R108). -/
def sysRstreqKey : Fam := { addr := 0x40000014, lo := 0, w := 16, acc := .wo }
/-- SYS_WDTCTL.EN (R108). -/
def sysWdtctlEn : Fam := { addr := 0x40000018, lo := 0, w := 1, acc := .rwl }
/-- SYS_WDTCTL.LOCK (R108). -/
def sysWdtctlLock : Fam := { addr := 0x40000018, lo := 1, w := 1, acc := .w1s }
/-- SYS_WDTCTL.TIMEOUT (R108). -/
def sysWdtctlTimeout : Fam := { addr := 0x40000018, lo := 16, w := 16, acc := .rwl, resv := .range 1 65535, rst := 0x3E8 }
/-- SYS_WDTSVC.SVC (R108). -/
def sysWdtsvcSvc : Fam := { addr := 0x4000001C, lo := 0, w := 32, acc := .wo }
/-- SYS_SUPSTAT.WARN (R108). -/
def sysSupstatWarn : Fam := { addr := 0x40000020, lo := 0, w := 1, acc := .ro }
/-- SYS_SUPSTAT.VHV_OK (R108). -/
def sysSupstatVhvOk : Fam := { addr := 0x40000020, lo := 1, w := 1, acc := .ro }
/-- SYS_SUPSTAT.ONBAT (R108). -/
def sysSupstatOnbat : Fam := { addr := 0x40000020, lo := 2, w := 1, acc := .ro, kinds := .pb }
/-- SYS_SUPSTAT.WARN_EV (R108). -/
def sysSupstatWarnEv : Fam := { addr := 0x40000020, lo := 8, w := 1, acc := .w1c }
/-- SYS_SUPSTAT.VHV_UP (R108). -/
def sysSupstatVhvUp : Fam := { addr := 0x40000020, lo := 9, w := 1, acc := .w1c }
/-- SYS_BOOTSTAT.STEP (R108). -/
def sysBootstatStep : Fam := { addr := 0x40000024, lo := 0, w := 4, acc := .ro }
/-- SYS_BOOTSTAT.DONE (R108). -/
def sysBootstatDone : Fam := { addr := 0x40000024, lo := 4, w := 1, acc := .ro }
/-- SYS_BOOTSTAT.SLOT (R108). -/
def sysBootstatSlot : Fam := { addr := 0x40000024, lo := 5, w := 1, acc := .ro }
/-- SYS_BOOTSTAT.FALLBACK (R108). -/
def sysBootstatFallback : Fam := { addr := 0x40000024, lo := 6, w := 1, acc := .ro }
/-- SYS_BOOTSTAT.NOIMAGE (R108). -/
def sysBootstatNoimage : Fam := { addr := 0x40000024, lo := 7, w := 1, acc := .ro }
/-- SYS_BOOTSTAT.RAILSTOP (R108). -/
def sysBootstatRailstop : Fam := { addr := 0x40000024, lo := 8, w := 1, acc := .ro }
/-- SYS_BOOTSTAT.OTPWEAK (R108). -/
def sysBootstatOtpweak : Fam := { addr := 0x40000024, lo := 9, w := 1, acc := .ro }
/-- SYS_BOOTSTAT.JNL_LOST (R108). -/
def sysBootstatJnlLost : Fam := { addr := 0x40000024, lo := 10, w := 1, acc := .ro }
/-- SYS_BOOTSTAT.LC (R108). -/
def sysBootstatLc : Fam := { addr := 0x40000024, lo := 12, w := 3, acc := .ro }
/-- SYS_SRAMERR.CORR (R131). -/
def sysSramerrCorr : Fam := { addr := 0x40000030, lo := 0, w := 1, acc := .w1c }
/-- SYS_SRAMERR.UNCORR (R131). -/
def sysSramerrUncorr : Fam := { addr := 0x40000030, lo := 1, w := 1, acc := .w1c }
/-- SYS_SRAMERR.CCNT (R131). -/
def sysSramerrCcnt : Fam := { addr := 0x40000030, lo := 16, w := 8, acc := .rc }
/-- SYS_SRAMERR.UCNT (R131). -/
def sysSramerrUcnt : Fam := { addr := 0x40000030, lo := 24, w := 8, acc := .rc }
/-- SYS_SRAMADDR.WORD (R131). -/
def sysSramaddrWord : Fam := { addr := 0x40000034, lo := 3, w := 17, acc := .ro }
/-- SYS_SRAMADDR.ID (R131). -/
def sysSramaddrId : Fam := { addr := 0x40000034, lo := 20, w := 4, acc := .ro }

/-- Every field family of block SYS. -/
def listSys : List Fam :=
  [sysChipidPart, sysChipidStep, sysGpFunc, sysGpPull, sysGpOe, sysGpOut, sysGpOd, sysGpIn, sysGpSel, sysGpOwner, sysGpHeld, sysRstcausePor, sysRstcauseBor, sysRstcauseLcr, sysRstcausePin, sysRstcauseWdr, sysRstcauseSwr, sysRstcauseClkmon, sysRstcauseGlitch, sysRstcauseBorsrc, sysRstreqKey, sysWdtctlEn, sysWdtctlLock, sysWdtctlTimeout] ++
  [sysWdtsvcSvc, sysSupstatWarn, sysSupstatVhvOk, sysSupstatOnbat, sysSupstatWarnEv, sysSupstatVhvUp, sysBootstatStep, sysBootstatDone, sysBootstatSlot, sysBootstatFallback, sysBootstatNoimage, sysBootstatRailstop, sysBootstatOtpweak, sysBootstatJnlLost, sysBootstatLc, sysSramerrCorr, sysSramerrUncorr, sysSramerrCcnt, sysSramerrUcnt, sysSramaddrWord, sysSramaddrId]

/-! ### STM -/

/-- STM_CFG.SRC (R61). -/
def stmCfgSrc : Fam := { addr := 0x40001000, lo := 0, w := 2, acc := .rws, kinds := .pbl }
/-- STM_CFG.NOM (R61). -/
def stmCfgNom : Fam := { addr := 0x40001000, lo := 2, w := 1, acc := .rws, kinds := .pbl }
/-- STM_CFG.ADOPT (R61). -/
def stmCfgAdopt : Fam := { addr := 0x40001000, lo := 3, w := 1, acc := .rws, kinds := .pbl }
/-- STM_CFG.BW (R61). -/
def stmCfgBw : Fam := { addr := 0x40001000, lo := 4, w := 2, acc := .rws, kinds := .pbl, rst := 0x1 }
/-- STM_CFG.SLEW (R61). -/
def stmCfgSlew : Fam := { addr := 0x40001000, lo := 8, w := 6, acc := .rws, kinds := .pbl, rst := 0x20 }
/-- STM_THR.LOCK_PH (R61). -/
def stmThrLockPh : Fam := { addr := 0x40001004, lo := 0, w := 8, acc := .rws, kinds := .pbl, rst := 0x10 }
/-- STM_THR.LOCK_N (R61). -/
def stmThrLockN : Fam := { addr := 0x40001004, lo := 8, w := 4, acc := .rws, kinds := .pbl, rst := 0x8 }
/-- STM_THR.UNLOCK_PH (R61). -/
def stmThrUnlockPh : Fam := { addr := 0x40001004, lo := 12, w := 12, acc := .rws, kinds := .pbl, rst := 0x100 }
/-- STM_THR.UNLOCK_N (R61). -/
def stmThrUnlockN : Fam := { addr := 0x40001004, lo := 24, w := 4, acc := .rws, kinds := .pbl, rst := 0x3 }
/-- STM_THR.MISS_N (R61). -/
def stmThrMissN : Fam := { addr := 0x40001004, lo := 28, w := 4, acc := .rws, kinds := .pbl, rst := 0x2 }
/-- STM_HOLD.LIMIT (R61). -/
def stmHoldLimit : Fam := { addr := 0x40001008, lo := 0, w := 8, acc := .rws, kinds := .pbl, rst := 0x32 }
/-- STM_RIPPLE.MINAMP (R61). -/
def stmRippleMinamp : Fam := { addr := 0x4000100C, lo := 0, w := 14, acc := .rws, kinds := .pbl, rst := 0x40 }
/-- STM_COMMIT.COMMIT (R61). -/
def stmCommitCommit : Fam := { addr := 0x40001010, lo := 0, w := 1, acc := .wo, kinds := .pbl }
/-- STM_BCNOFS.OFS (R61). -/
def stmBcnofsOfs : Fam := { addr := 0x40001014, lo := 0, w := 16, acc := .rw, kinds := .pbl }
/-- STM_INC.INC (R61). -/
def stmIncInc : Fam := { addr := 0x40001018, lo := 0, w := 32, acc := .rw, kinds := .pbl, rst := 0x8BCF64E }
/-- STM_NOWC.CYCLE (R61). -/
def stmNowcCycle : Fam := { addr := 0x4000101C, lo := 0, w := 32, acc := .ro, kinds := .pbl }
/-- STM_NOWP.PHASE (R61). -/
def stmNowpPhase : Fam := { addr := 0x40001020, lo := 16, w := 16, acc := .ro, kinds := .pbl }
/-- STM_NOWP.FRAC (R61). -/
def stmNowpFrac : Fam := { addr := 0x40001020, lo := 0, w := 16, acc := .ro, kinds := .pbl }
/-- STM_SETC.CYCLE (R61). -/
def stmSetcCycle : Fam := { addr := 0x40001024, lo := 0, w := 32, acc := .wo, kinds := .pbl }
/-- STM_PHERR.ERR (R61). -/
def stmPherrErr : Fam := { addr := 0x4000102C, lo := 0, w := 16, acc := .ro, kinds := .pbl }
/-- STM_PHERR.HCNT (R61). -/
def stmPherrHcnt : Fam := { addr := 0x4000102C, lo := 16, w := 16, acc := .ro, kinds := .pbl }
/-- STM_IEN.IEN (R61). -/
def stmIenIen : Fam := { addr := 0x40001030, lo := 8, w := 8, acc := .rw, kinds := .pbl }
/-- STM_SYNCOUT.MODE (R61). -/
def stmSyncoutMode : Fam := { addr := 0x40001034, lo := 0, w := 2, acc := .rw, kinds := .pbl, resv := .range 0 2 }
/-- STM_SYNCOUT.DIV (R61). -/
def stmSyncoutDiv : Fam := { addr := 0x40001034, lo := 4, w := 4, acc := .rw, kinds := .pbl, resv := .range 1 15, rst := 0x1 }
/-- STM_CLK.SRC (R61). -/
def stmClkSrc : Fam := { addr := 0x40001038, lo := 0, w := 1, acc := .rw, kinds := .pbl }
/-- STM_CLK.XTOK (R61). -/
def stmClkXtok : Fam := { addr := 0x40001038, lo := 1, w := 1, acc := .ro, kinds := .pbl }
/-- STM_CLK.ACT (R61). -/
def stmClkAct : Fam := { addr := 0x40001038, lo := 2, w := 1, acc := .ro, kinds := .pbl }
/-- STM_STAT.STATE (R61). -/
def stmStatState : Fam := { addr := 0x40001028, lo := 0, w := 2, acc := .ro, kinds := .pbl }
/-- STM_STAT.REFOK (R61). -/
def stmStatRefok : Fam := { addr := 0x40001028, lo := 2, w := 1, acc := .ro, kinds := .pbl }
/-- STM_STAT.STCHG (R61). -/
def stmStatStchg : Fam := { addr := 0x40001028, lo := 8, w := 1, acc := .w1c, kinds := .pbl }
/-- STM_STAT.STEP (R61). -/
def stmStatStep : Fam := { addr := 0x40001028, lo := 9, w := 1, acc := .w1c, kinds := .pbl }
/-- STM_STAT.STEP_BACK (R61). -/
def stmStatStepBack : Fam := { addr := 0x40001028, lo := 10, w := 1, acc := .w1c, kinds := .pbl }
/-- STM_STAT.HOLD_EXP (R61). -/
def stmStatHoldExp : Fam := { addr := 0x40001028, lo := 11, w := 1, acc := .w1c, kinds := .pbl }
/-- STM_STAT.CYC_SLIP (R61). -/
def stmStatCycSlip : Fam := { addr := 0x40001028, lo := 12, w := 1, acc := .w1c, kinds := .pbl }
/-- STM_STAT.REF_RANGE (R61). -/
def stmStatRefRange : Fam := { addr := 0x40001028, lo := 13, w := 1, acc := .w1c, kinds := .pbl }
/-- STM_STAT.XT_LOST (R61). -/
def stmStatXtLost : Fam := { addr := 0x40001028, lo := 14, w := 1, acc := .w1c, kinds := .pbl }
/-- STM_STAT.SET_LOST (R61). -/
def stmStatSetLost : Fam := { addr := 0x40001028, lo := 15, w := 1, acc := .w1c, kinds := .pbl }

/-- Every field family of block STM. -/
def listStm : List Fam :=
  [stmCfgSrc, stmCfgNom, stmCfgAdopt, stmCfgBw, stmCfgSlew, stmThrLockPh, stmThrLockN, stmThrUnlockPh, stmThrUnlockN, stmThrMissN, stmHoldLimit, stmRippleMinamp, stmCommitCommit, stmBcnofsOfs, stmIncInc, stmNowcCycle, stmNowpPhase, stmNowpFrac, stmSetcCycle, stmPherrErr, stmPherrHcnt, stmIenIen, stmSyncoutMode, stmSyncoutDiv] ++
  [stmClkSrc, stmClkXtok, stmClkAct, stmStatState, stmStatRefok, stmStatStchg, stmStatStep, stmStatStepBack, stmStatHoldExp, stmStatCycSlip, stmStatRefRange, stmStatXtLost, stmStatSetLost]

/-! ### HKR -/

/-- HKR_DOMCTL.ON (R81). -/
def hkrDomctlOn : Fam := { addr := 0x4000AF00, lo := 0, w := 16, acc := .rw, kinds := .pbl, rst := 0xB80F }
/-- HKR_DOMSTAT.PG (R81). -/
def hkrDomstatPg : Fam := { addr := 0x4000AF04, lo := 0, w := 16, acc := .ro, kinds := .pbl, rst := 0xB80F }
/-- HKR_DOMSTAT.BUSY (R81). -/
def hkrDomstatBusy : Fam := { addr := 0x4000AF04, lo := 16, w := 1, acc := .ro, kinds := .pbl }
/-- HKR_DOMSTAT.REFUSED (R81). -/
def hkrDomstatRefused : Fam := { addr := 0x4000AF04, lo := 17, w := 1, acc := .w1c, kinds := .pbl }
/-- HKR_DOMRET.RET2 (R81). -/
def hkrDomretRet2 : Fam := { addr := 0x4000AF08, lo := 2, w := 1, acc := .rw, kinds := .pbl }
/-- HKR_DOMRET.RET3 (R81). -/
def hkrDomretRet3 : Fam := { addr := 0x4000AF08, lo := 3, w := 1, acc := .rw, kinds := .pbl }
/-- HKR_SLEEP.ENTER (R81). -/
def hkrSleepEnter : Fam := { addr := 0x4000AF0C, lo := 0, w := 1, acc := .wo, kinds := .pbl }
/-- HKR_SLEEP.WK_TWB (R81). -/
def hkrSleepWkTwb : Fam := { addr := 0x4000AF0C, lo := 8, w := 1, acc := .rw, kinds := .pbl }
/-- HKR_SLEEP.WK_RTC (R81). -/
def hkrSleepWkRtc : Fam := { addr := 0x4000AF0C, lo := 9, w := 1, acc := .rw, kinds := .pbl }
/-- HKR_SLEEP.WK_VHV (R81). -/
def hkrSleepWkVhv : Fam := { addr := 0x4000AF0C, lo := 10, w := 1, acc := .rw, kinds := .pbl, rst := 0x1 }
/-- HKR_SLEEP.WK_SAFE (R81). -/
def hkrSleepWkSafe : Fam := { addr := 0x4000AF0C, lo := 11, w := 1, acc := .rw, kinds := .pbl }
/-- HKR_SLEEP.CAUSE (R81). -/
def hkrSleepCause : Fam := { addr := 0x4000AF0C, lo := 16, w := 4, acc := .ro, kinds := .pbl }
/-- HKR_x_VSET.MV (R325). -/
def hkrVsetMv : Fam := { addr := 0x4000A000, lo := 0, w := 16, acc := .rw, kinds := .pb, s1 := 0x10, n1 := 8 }
/-- HKR_x_EN.EN (R325). -/
def hkrEnEn : Fam := { addr := 0x4000A004, lo := 0, w := 1, acc := .rw, kinds := .pb, s1 := 0x10, n1 := 8 }
/-- HKR_x_EN.LOCK (R325). -/
def hkrEnLock : Fam := { addr := 0x4000A004, lo := 8, w := 1, acc := .w1c, kinds := .pb, s1 := 0x10, n1 := 8 }
/-- HKR_x_SLEW.SR (R325). -/
def hkrSlewSr : Fam := { addr := 0x4000A008, lo := 0, w := 8, acc := .rw, kinds := .pb, rst := 0xA, s1 := 0x10, n1 := 8 }
/-- HKR_RAILSTAT.PG (R325). -/
def hkrRailstatPg : Fam := { addr := 0x4000A080, lo := 0, w := 8, acc := .ro, kinds := .pb }
/-- HKR_RAILSTAT.ON (R325). -/
def hkrRailstatOn : Fam := { addr := 0x4000A080, lo := 8, w := 8, acc := .ro, kinds := .pb }
/-- HKR_RAILFLT.UV (R325). -/
def hkrRailfltUv : Fam := { addr := 0x4000A084, lo := 0, w := 8, acc := .w1c, kinds := .pb }
/-- HKR_RAILFLT.OC (R325). -/
def hkrRailfltOc : Fam := { addr := 0x4000A084, lo := 8, w := 8, acc := .w1c, kinds := .pb }
/-- HKR_RAILFLT.STRAP (R325). -/
def hkrRailfltStrap : Fam := { addr := 0x4000A084, lo := 24, w := 1, acc := .w1c, kinds := .pb }
/-- HKR_STRAPWIN.WINi (R325). -/
def hkrStrapwinWin (m : Nat) : Fam := { addr := 0x4000A088, lo := 0 + 4 * m, w := 4, acc := .ro, kinds := .pb }
/-- HKR_STRAPMODE.REG (R325). -/
def hkrStrapmodeReg : Fam := { addr := 0x4000A08C, lo := 0, w := 8, acc := .ro, kinds := .pb }
/-- HKR_STRAPMODE.SFLT (R325). -/
def hkrStrapmodeSflt : Fam := { addr := 0x4000A08C, lo := 8, w := 8, acc := .ro, kinds := .pb }
/-- HKR_IEN.IEN (R325). -/
def hkrIenIen : Fam := { addr := 0x4000A090, lo := 0, w := 25, acc := .rw, kinds := .pb }
/-- HKR_HSn_CTRL.ON (R326). -/
def hkrHsCtrlOn : Fam := { addr := 0x4000A400, lo := 0, w := 1, acc := .rw, s1 := 0x40, n1 := 8 }
/-- HKR_HSn_CTRL.POLICY (R326). -/
def hkrHsCtrlPolicy : Fam := { addr := 0x4000A400, lo := 2, w := 2, acc := .rw, s1 := 0x40, n1 := 8 }
/-- HKR_HSn_CTRL.LOCK (R326). -/
def hkrHsCtrlLock : Fam := { addr := 0x4000A400, lo := 8, w := 1, acc := .w1c, s1 := 0x40, n1 := 8 }
/-- HKR_HSn_CTRL.IEN (R326). -/
def hkrHsCtrlIen : Fam := { addr := 0x4000A400, lo := 12, w := 1, acc := .rw, s1 := 0x40, n1 := 8 }
/-- HKR_HSn_STAT.SWON (R326). -/
def hkrHsStatSwon : Fam := { addr := 0x4000A404, lo := 0, w := 1, acc := .ro, s1 := 0x40, n1 := 8 }
/-- HKR_HSn_STAT.AACT (R326). -/
def hkrHsStatAact : Fam := { addr := 0x4000A404, lo := 1, w := 1, acc := .ro, s1 := 0x40, n1 := 8 }
/-- HKR_HSn_STAT.BACT (R326). -/
def hkrHsStatBact : Fam := { addr := 0x4000A404, lo := 2, w := 1, acc := .ro, s1 := 0x40, n1 := 8 }
/-- HKR_HSn_STAT.ADEF (R326). -/
def hkrHsStatAdef : Fam := { addr := 0x4000A404, lo := 3, w := 1, acc := .ro, s1 := 0x40, n1 := 8 }
/-- HKR_HSn_STAT.BDEF (R326). -/
def hkrHsStatBdef : Fam := { addr := 0x4000A404, lo := 4, w := 1, acc := .ro, s1 := 0x40, n1 := 8 }
/-- HKR_HSn_STAT.AOUT (R326). -/
def hkrHsStatAout : Fam := { addr := 0x4000A404, lo := 8, w := 2, acc := .ro, s1 := 0x40, n1 := 8 }
/-- HKR_HSn_STAT.BOUT (R326). -/
def hkrHsStatBout : Fam := { addr := 0x4000A404, lo := 10, w := 2, acc := .ro, s1 := 0x40, n1 := 8 }
/-- HKR_HSn_STAT.SLOT_DEFERRED (R326). -/
def hkrHsStatSlotDeferred : Fam := { addr := 0x4000A404, lo := 12, w := 1, acc := .w1c, s1 := 0x40, n1 := 8 }
/-- HKR_HSn_STAT.LATE (R326). -/
def hkrHsStatLate : Fam := { addr := 0x4000A404, lo := 13, w := 1, acc := .w1c, s1 := 0x40, n1 := 8 }
/-- HKR_HSn_STAT.ILIM (R326). -/
def hkrHsStatIlim : Fam := { addr := 0x4000A404, lo := 14, w := 1, acc := .ro, s1 := 0x40, n1 := 8 }
/-- HKR_HSn_STAT.HSOC (R326). -/
def hkrHsStatHsoc : Fam := { addr := 0x4000A404, lo := 16, w := 1, acc := .w1c, s1 := 0x40, n1 := 8 }
/-- HKR_HSn_STAT.HSOT (R326). -/
def hkrHsStatHsot : Fam := { addr := 0x4000A404, lo := 17, w := 1, acc := .w1c, s1 := 0x40, n1 := 8 }
/-- HKR_HSn_STAT.ORPHAN (R326). -/
def hkrHsStatOrphan : Fam := { addr := 0x4000A404, lo := 24, w := 8, acc := .rc, s1 := 0x40, n1 := 8 }
/-- HKR_HSn_ASTC.CYCLE (R326). -/
def hkrHsAstcCycle : Fam := { addr := 0x4000A410, lo := 0, w := 32, acc := .rw, s1 := 0x40, n1 := 8 }
/-- HKR_HSn_BSTC.CYCLE (R326). -/
def hkrHsBstcCycle : Fam := { addr := 0x4000A420, lo := 0, w := 32, acc := .rw, s1 := 0x40, n1 := 8 }
/-- HKR_HSn_ASPC.CYCLE (R326). -/
def hkrHsAspcCycle : Fam := { addr := 0x4000A414, lo := 0, w := 32, acc := .rw, s1 := 0x40, n1 := 8 }
/-- HKR_HSn_BSPC.CYCLE (R326). -/
def hkrHsBspcCycle : Fam := { addr := 0x4000A424, lo := 0, w := 32, acc := .rw, s1 := 0x40, n1 := 8 }
/-- HKR_HSn_APH.START (R326). -/
def hkrHsAphStart : Fam := { addr := 0x4000A418, lo := 16, w := 16, acc := .rw, s1 := 0x40, n1 := 8 }
/-- HKR_HSn_APH.STOP (R326). -/
def hkrHsAphStop : Fam := { addr := 0x4000A418, lo := 0, w := 16, acc := .rw, s1 := 0x40, n1 := 8 }
/-- HKR_HSn_BPH.START (R326). -/
def hkrHsBphStart : Fam := { addr := 0x4000A428, lo := 16, w := 16, acc := .rw, s1 := 0x40, n1 := 8 }
/-- HKR_HSn_BPH.STOP (R326). -/
def hkrHsBphStop : Fam := { addr := 0x4000A428, lo := 0, w := 16, acc := .rw, s1 := 0x40, n1 := 8 }
/-- HKR_HSn_ACMD.ARM (R326). -/
def hkrHsAcmdArm : Fam := { addr := 0x4000A41C, lo := 0, w := 1, acc := .w1s, s1 := 0x40, n1 := 8 }
/-- HKR_HSn_ACMD.STOP (R326). -/
def hkrHsAcmdStop : Fam := { addr := 0x4000A41C, lo := 1, w := 1, acc := .w1s, s1 := 0x40, n1 := 8 }
/-- HKR_HSn_ACMD.NOW (R326). -/
def hkrHsAcmdNow : Fam := { addr := 0x4000A41C, lo := 2, w := 1, acc := .w1s, s1 := 0x40, n1 := 8 }
/-- HKR_HSn_BCMD.ARM (R326). -/
def hkrHsBcmdArm : Fam := { addr := 0x4000A42C, lo := 0, w := 1, acc := .w1s, s1 := 0x40, n1 := 8 }
/-- HKR_HSn_BCMD.STOP (R326). -/
def hkrHsBcmdStop : Fam := { addr := 0x4000A42C, lo := 1, w := 1, acc := .w1s, s1 := 0x40, n1 := 8 }
/-- HKR_HSn_BCMD.NOW (R326). -/
def hkrHsBcmdNow : Fam := { addr := 0x4000A42C, lo := 2, w := 1, acc := .w1s, s1 := 0x40, n1 := 8 }
/-- HKR_HSn_ACMD.ARMED (R326). -/
def hkrHsAcmdArmed : Fam := { addr := 0x4000A41C, lo := 8, w := 1, acc := .ro, s1 := 0x40, n1 := 8 }
/-- HKR_HSn_ACMD.ACTIVE (R326). -/
def hkrHsAcmdActive : Fam := { addr := 0x4000A41C, lo := 9, w := 1, acc := .ro, s1 := 0x40, n1 := 8 }
/-- HKR_HSn_BCMD.ARMED (R326). -/
def hkrHsBcmdArmed : Fam := { addr := 0x4000A42C, lo := 8, w := 1, acc := .ro, s1 := 0x40, n1 := 8 }
/-- HKR_HSn_BCMD.ACTIVE (R326). -/
def hkrHsBcmdActive : Fam := { addr := 0x4000A42C, lo := 9, w := 1, acc := .ro, s1 := 0x40, n1 := 8 }

/-- Every field family of block HKR. -/
def listHkr : List Fam :=
  [hkrDomctlOn, hkrDomstatPg, hkrDomstatBusy, hkrDomstatRefused, hkrDomretRet2, hkrDomretRet3, hkrSleepEnter, hkrSleepWkTwb, hkrSleepWkRtc, hkrSleepWkVhv, hkrSleepWkSafe, hkrSleepCause, hkrVsetMv, hkrEnEn, hkrEnLock, hkrSlewSr, hkrRailstatPg, hkrRailstatOn, hkrRailfltUv, hkrRailfltOc, hkrRailfltStrap, hkrStrapwinWin 0, hkrStrapwinWin 1, hkrStrapwinWin 2] ++
  [hkrStrapwinWin 3, hkrStrapwinWin 4, hkrStrapwinWin 5, hkrStrapwinWin 6, hkrStrapwinWin 7, hkrStrapmodeReg, hkrStrapmodeSflt, hkrIenIen, hkrHsCtrlOn, hkrHsCtrlPolicy, hkrHsCtrlLock, hkrHsCtrlIen, hkrHsStatSwon, hkrHsStatAact, hkrHsStatBact, hkrHsStatAdef, hkrHsStatBdef, hkrHsStatAout, hkrHsStatBout, hkrHsStatSlotDeferred, hkrHsStatLate, hkrHsStatIlim, hkrHsStatHsoc, hkrHsStatHsot] ++
  [hkrHsStatOrphan, hkrHsAstcCycle, hkrHsBstcCycle, hkrHsAspcCycle, hkrHsBspcCycle, hkrHsAphStart, hkrHsAphStop, hkrHsBphStart, hkrHsBphStop, hkrHsAcmdArm, hkrHsAcmdStop, hkrHsAcmdNow, hkrHsBcmdArm, hkrHsBcmdStop, hkrHsBcmdNow, hkrHsAcmdArmed, hkrHsAcmdActive, hkrHsBcmdArmed, hkrHsBcmdActive]

/-! ### ACC -/

/-- ACC_LOCK.LOCK (R132). -/
def accLockLock : Fam := { addr := 0x40002000, lo := 0, w := 1, acc := .st, kinds := .por }
/-- ACC_COMMIT.COMMIT (R132). -/
def accCommitCommit : Fam := { addr := 0x40002004, lo := 0, w := 1, acc := .wo }
/-- ACC_STAT.DENY (R132). -/
def accStatDeny : Fam := { addr := 0x40002008, lo := 0, w := 1, acc := .w1c }
/-- ACC_DENCNT.COUNT (R132). -/
def accDencntCount : Fam := { addr := 0x4000200C, lo := 0, w := 16, acc := .rc }
/-- ACC_DENLOG.ID (R132). -/
def accDenlogId : Fam := { addr := 0x40002010, lo := 0, w := 4, acc := .ro }
/-- ACC_DENLOG.TGT (R132). -/
def accDenlogTgt : Fam := { addr := 0x40002010, lo := 4, w := 5, acc := .ro }
/-- ACC_DENLOG.KIND (R132). -/
def accDenlogKind : Fam := { addr := 0x40002010, lo := 9, w := 2, acc := .ro }
/-- ACC_DENADDR.ADDR (R132). -/
def accDenaddrAddr : Fam := { addr := 0x40002014, lo := 0, w := 32, acc := .ro }
/-- ACC_SPLITA.S1 (R132). -/
def accSplitaS1 : Fam := { addr := 0x40002020, lo := 0, w := 8, acc := .rws, kinds := .por, rst := 0x20 }
/-- ACC_SPLITA.S2 (R132). -/
def accSplitaS2 : Fam := { addr := 0x40002020, lo := 8, w := 8, acc := .rws, kinds := .por, rst := 0x40 }
/-- ACC_SPLITA.S3 (R132). -/
def accSplitaS3 : Fam := { addr := 0x40002020, lo := 16, w := 8, acc := .rws, kinds := .por, rst := 0x60 }
/-- ACC_SPLITB.S1 (R132). -/
def accSplitbS1 : Fam := { addr := 0x40002024, lo := 0, w := 8, acc := .rws, kinds := .por, rst := 0x20 }
/-- ACC_SPLITB.S2 (R132). -/
def accSplitbS2 : Fam := { addr := 0x40002024, lo := 8, w := 8, acc := .rws, kinds := .por, rst := 0x40 }
/-- ACC_SPLITB.S3 (R132). -/
def accSplitbS3 : Fam := { addr := 0x40002024, lo := 16, w := 8, acc := .rws, kinds := .por, rst := 0x60 }
/-- ACC_ENTRY.RIGHTS (R132). -/
def accEntryRights : Fam := { addr := 0x40002100, lo := 0, w := 12, acc := .rws, kinds := .por, rule := .accRights, s1 := 0x40, n1 := 28, s2 := 0x4, n2 := 16 }

/-- Every field family of block ACC. -/
def listAcc : List Fam :=
  [accLockLock, accCommitCommit, accStatDeny, accDencntCount, accDenlogId, accDenlogTgt, accDenlogKind, accDenaddrAddr, accSplitaS1, accSplitaS2, accSplitaS3, accSplitbS1, accSplitbS2, accSplitbS3, accEntryRights]

/-! ### SEQ -/

/-- SEQ_CFG.URGMAX (R155). -/
def seqCfgUrgmax : Fam := { addr := 0x40003000, lo := 0, w := 16, acc := .rw, resv := .range 1 65535, rst := 0x100 }
/-- SEQ_STAT.FAULT (R155). -/
def seqStatFault : Fam := { addr := 0x40003004, lo := 0, w := 1, acc := .w1c }
/-- SEQ_STAT.ORDER (R155). -/
def seqStatOrder : Fam := { addr := 0x40003004, lo := 1, w := 1, acc := .w1c }
/-- SEQ_FLTCTX.CTX (R155). -/
def seqFltctxCtx : Fam := { addr := 0x40003008, lo := 0, w := 10, acc := .ro }
/-- SEQ_FLTCTX.CAUSE (R155). -/
def seqFltctxCause : Fam := { addr := 0x40003008, lo := 16, w := 4, acc := .ro }
/-- SEQ_FLTCTX.CODE (R155). -/
def seqFltctxCode : Fam := { addr := 0x40003008, lo := 24, w := 8, acc := .ro }
/-- SEQ_CTXSEL.CTX (R155). -/
def seqCtxselCtx : Fam := { addr := 0x40003010, lo := 0, w := 10, acc := .rw }
/-- SEQ_CTXCMD.CMD (R155). -/
def seqCtxcmdCmd : Fam := { addr := 0x40003014, lo := 0, w := 3, acc := .wo }
/-- SEQ_CTXCFG.DOM (R155). -/
def seqCtxcfgDom : Fam := { addr := 0x40003018, lo := 0, w := 3, acc := .rw }
/-- SEQ_CTXCFG.PRI (R155). -/
def seqCtxcfgPri : Fam := { addr := 0x40003018, lo := 4, w := 2, acc := .rw }
/-- SEQ_CTXPC.PC (R155). -/
def seqCtxpcPc : Fam := { addr := 0x4000301C, lo := 2, w := 30, acc := .rw }
/-- SEQ_CTXSTAT.STATE (R155). -/
def seqCtxstatState : Fam := { addr := 0x40003020, lo := 0, w := 3, acc := .ro }
/-- SEQ_CTXSTAT.EPRI (R155). -/
def seqCtxstatEpri : Fam := { addr := 0x40003020, lo := 4, w := 2, acc := .ro }
/-- SEQ_CTXSTAT.DEPTH (R155). -/
def seqCtxstatDepth : Fam := { addr := 0x40003020, lo := 8, w := 4, acc := .ro }
/-- SEQ_CTXSTAT.CAUSE (R155). -/
def seqCtxstatCause : Fam := { addr := 0x40003020, lo := 16, w := 4, acc := .ro }
/-- SEQ_CTXSTAT.CODE (R155). -/
def seqCtxstatCode : Fam := { addr := 0x40003020, lo := 24, w := 8, acc := .ro }
/-- SEQ_CTXSEM.HELD (R155). -/
def seqCtxsemHeld : Fam := { addr := 0x40003024, lo := 0, w := 16, acc := .ro }
/-- SEQ_CTXWAIT.KIND (R155). -/
def seqCtxwaitKind : Fam := { addr := 0x40003028, lo := 0, w := 2, acc := .ro }
/-- SEQ_CTXWAIT.OBJ (R155). -/
def seqCtxwaitObj : Fam := { addr := 0x40003028, lo := 8, w := 8, acc := .ro }
/-- SEQ_SEMn.RANK (R155). -/
def seqSemRank : Fam := { addr := 0x40003400, lo := 0, w := 4, acc := .rw, s1 := 0x4, n1 := 64 }
/-- SEQ_SEMn.HELD (R155). -/
def seqSemHeld : Fam := { addr := 0x40003400, lo := 8, w := 1, acc := .ro, s1 := 0x4, n1 := 64 }
/-- SEQ_SEMn.OWNER (R155). -/
def seqSemOwner : Fam := { addr := 0x40003400, lo := 16, w := 10, acc := .ro, s1 := 0x4, n1 := 64 }
/-- SEQ_SEMn.FREL (R155). -/
def seqSemFrel : Fam := { addr := 0x40003400, lo := 31, w := 1, acc := .w1s, s1 := 0x4, n1 := 64 }
/-- SEQ_SIGNAL.LINE (R155). -/
def seqSignalLine : Fam := { addr := 0x40003800, lo := 0, w := 8, acc := .wo }
/-- SEQ_EVPENDk.PEND (R155). -/
def seqEvpendPend : Fam := { addr := 0x40003808, lo := 0, w := 32, acc := .ro, s1 := 0x4, n1 := 6 }

/-- Every field family of block SEQ. -/
def listSeq : List Fam :=
  [seqCfgUrgmax, seqStatFault, seqStatOrder, seqFltctxCtx, seqFltctxCause, seqFltctxCode, seqCtxselCtx, seqCtxcmdCmd, seqCtxcfgDom, seqCtxcfgPri, seqCtxpcPc, seqCtxstatState, seqCtxstatEpri, seqCtxstatDepth, seqCtxstatCause, seqCtxstatCode, seqCtxsemHeld, seqCtxwaitKind, seqCtxwaitObj, seqSemRank, seqSemHeld, seqSemOwner, seqSemFrel, seqSignalLine] ++
  [seqEvpendPend]

/-! ### JNL -/

/-- JNL_CFG.SERIAL (R201). -/
def jnlCfgSerial : Fam := { addr := 0x40004000, lo := 0, w := 4, acc := .rws, rst := 0xF }
/-- JNL_CFG.RSV (R201). -/
def jnlCfgRsv : Fam := { addr := 0x40004000, lo := 4, w := 8, acc := .rws, rst := 0x10 }
/-- JNL_CFG.LOWAT (R201). -/
def jnlCfgLowat : Fam := { addr := 0x40004000, lo := 12, w := 12, acc := .rws, rst := 0x40 }
/-- JNL_CFG.HOLD (R201). -/
def jnlCfgHold : Fam := { addr := 0x40004000, lo := 24, w := 8, acc := .rws, rst := 0x10 }
/-- JNL_COMMIT.COMMIT (R201). -/
def jnlCommitCommit : Fam := { addr := 0x40004004, lo := 0, w := 1, acc := .wo }
/-- JNL_STAT.CB_ONE (R201). -/
def jnlStatCbOne : Fam := { addr := 0x40004008, lo := 0, w := 1, acc := .w1c }
/-- JNL_STAT.JLOST (R201). -/
def jnlStatJlost : Fam := { addr := 0x40004008, lo := 1, w := 1, acc := .w1c }
/-- JNL_STAT.ENT_LOST (R201). -/
def jnlStatEntLost : Fam := { addr := 0x40004008, lo := 2, w := 1, acc := .w1c }
/-- JNL_STAT.FULL (R201). -/
def jnlStatFull : Fam := { addr := 0x40004008, lo := 8, w := 1, acc := .ro }
/-- JNL_STAT.SND_FULL (R201). -/
def jnlStatSndFull : Fam := { addr := 0x40004008, lo := 9, w := 1, acc := .w1c }
/-- JNL_STAT.DUP (R201). -/
def jnlStatDup : Fam := { addr := 0x40004008, lo := 10, w := 1, acc := .w1c }
/-- JNL_STAT.STALE (R201). -/
def jnlStatStale : Fam := { addr := 0x40004008, lo := 11, w := 1, acc := .w1c }
/-- JNL_STAT.HCOMP (R201). -/
def jnlStatHcomp : Fam := { addr := 0x40004008, lo := 12, w := 1, acc := .w1c }
/-- JNL_COUNT.LIVE (R201). -/
def jnlCountLive : Fam := { addr := 0x4000400C, lo := 0, w := 13, acc := .ro }
/-- JNL_COUNT.FREE (R201). -/
def jnlCountFree : Fam := { addr := 0x4000400C, lo := 16, w := 13, acc := .ro, rst := 0x800 }
/-- JNL_HEAD.HEADNUM (R201). -/
def jnlHeadHeadnum : Fam := { addr := 0x40004010, lo := 0, w := 20, acc := .ro }
/-- JNL_NEXT.NEXT (R201). -/
def jnlNextNext : Fam := { addr := 0x40004014, lo := 0, w := 20, acc := .ro }
/-- JNL_LOSTNUM.ANUM (R201). -/
def jnlLostnumAnum : Fam := { addr := 0x40004018, lo := 0, w := 20, acc := .ro }
/-- JNL_URGBOXk.WORD (R201). -/
def jnlUrgboxWord : Fam := { addr := 0x40004040, lo := 0, w := 32, acc := .ro, s1 := 0x4, n1 := 13 }
/-- JNL_HKIND.KIND (R201). -/
def jnlHkindKind : Fam := { addr := 0x40004400, lo := 0, w := 16, acc := .rw }
/-- JNL_HKIND.LEN (R201). -/
def jnlHkindLen : Fam := { addr := 0x40004400, lo := 16, w := 6, acc := .rw, resv := .range 0 40 }
/-- JNL_HSEQ.SEQ (R201). -/
def jnlHseqSeq : Fam := { addr := 0x40004404, lo := 0, w := 32, acc := .rw }
/-- JNL_HBUFk.DATA (R201). -/
def jnlHbufData : Fam := { addr := 0x40004408, lo := 0, w := 32, acc := .rw, s1 := 0x4, n1 := 10 }
/-- JNL_HGO.GO (R201). -/
def jnlHgoGo : Fam := { addr := 0x40004430, lo := 0, w := 1, acc := .wo }
/-- JNL_HSTAT.CODE (R201). -/
def jnlHstatCode : Fam := { addr := 0x40004434, lo := 0, w := 8, acc := .ro }
/-- JNL_HSTAT.PEND (R201). -/
def jnlHstatPend : Fam := { addr := 0x40004434, lo := 8, w := 1, acc := .ro }
/-- JNL_HSTAT.ANUM (R201). -/
def jnlHstatAnum : Fam := { addr := 0x40004434, lo := 12, w := 20, acc := .ro }
/-- JNL_HQSEQ.SEQ (R201). -/
def jnlHqseqSeq : Fam := { addr := 0x40004438, lo := 0, w := 32, acc := .wo }
/-- JNL_HQST.CODE (R201). -/
def jnlHqstCode : Fam := { addr := 0x4000443C, lo := 0, w := 8, acc := .ro }
/-- JNL_HQST.STATE (R201). -/
def jnlHqstState : Fam := { addr := 0x4000443C, lo := 8, w := 4, acc := .ro }
/-- JNL_HQRES.RESULT (R201). -/
def jnlHqresResult : Fam := { addr := 0x40004440, lo := 0, w := 32, acc := .ro }

/-- Every field family of block JNL. -/
def listJnl : List Fam :=
  [jnlCfgSerial, jnlCfgRsv, jnlCfgLowat, jnlCfgHold, jnlCommitCommit, jnlStatCbOne, jnlStatJlost, jnlStatEntLost, jnlStatFull, jnlStatSndFull, jnlStatDup, jnlStatStale, jnlStatHcomp, jnlCountLive, jnlCountFree, jnlHeadHeadnum, jnlNextNext, jnlLostnumAnum, jnlUrgboxWord, jnlHkindKind, jnlHkindLen, jnlHseqSeq, jnlHbufData, jnlHgoGo] ++
  [jnlHstatCode, jnlHstatPend, jnlHstatAnum, jnlHqseqSeq, jnlHqstCode, jnlHqstState, jnlHqresResult]

/-! ### SLK -/

/-- SLK_CFG.ENC (R236). -/
def slkCfgEnc : Fam := { addr := 0x40005000, lo := 0, w := 1, acc := .rws }
/-- SLK_CFG.ENP (R236). -/
def slkCfgEnp : Fam := { addr := 0x40005000, lo := 1, w := 1, acc := .rws }
/-- SLK_CFG.CRATE (R236). -/
def slkCfgCrate : Fam := { addr := 0x40005000, lo := 2, w := 2, acc := .rws, rst := 0x1 }
/-- SLK_CFG.PRATE (R236). -/
def slkCfgPrate : Fam := { addr := 0x40005000, lo := 4, w := 1, acc := .rws, rst := 0x1 }
/-- SLK_CFG.PRIMARY (R236). -/
def slkCfgPrimary : Fam := { addr := 0x40005000, lo := 5, w := 1, acc := .rws }
/-- SLK_CFG.BCNMED (R236). -/
def slkCfgBcnmed : Fam := { addr := 0x40005000, lo := 6, w := 1, acc := .rws }
/-- SLK_CFG.AUTORET (R236). -/
def slkCfgAutoret : Fam := { addr := 0x40005000, lo := 7, w := 1, acc := .rws, rst := 0x1 }
/-- SLK_CFG.MARGIN (R236). -/
def slkCfgMargin : Fam := { addr := 0x40005000, lo := 8, w := 4, acc := .rws, rst := 0x6 }
/-- SLK_COMMIT.COMMIT (R236). -/
def slkCommitCommit : Fam := { addr := 0x40005004, lo := 0, w := 1, acc := .wo }
/-- SLK_ADDR.ADDR (R236). -/
def slkAddrAddr : Fam := { addr := 0x40005008, lo := 0, w := 12, acc := .ro }
/-- SLK_ADDR.VALID (R236). -/
def slkAddrValid : Fam := { addr := 0x40005008, lo := 31, w := 1, acc := .ro }
/-- SLK_GW.GWADDR (R236). -/
def slkGwGwaddr : Fam := { addr := 0x4000500C, lo := 0, w := 12, acc := .ro }
/-- SLK_GW.STRID (R236). -/
def slkGwStrid : Fam := { addr := 0x4000500C, lo := 16, w := 16, acc := .ro }
/-- SLK_GRPk.GROUP (R236). -/
def slkGrpGroup : Fam := { addr := 0x40005010, lo := 0, w := 12, acc := .rw, s1 := 0x4, n1 := 8 }
/-- SLK_GRPk.VALID (R236). -/
def slkGrpValid : Fam := { addr := 0x40005010, lo := 31, w := 1, acc := .rw, s1 := 0x4, n1 := 8 }
/-- SLK_TXWINC.FIRST (R236). -/
def slkTxwincFirst : Fam := { addr := 0x40005030, lo := 0, w := 6, acc := .rws }
/-- SLK_TXWINP.FIRST (R236). -/
def slkTxwinpFirst : Fam := { addr := 0x40005034, lo := 0, w := 6, acc := .rws }
/-- SLK_TXWINC.COUNT (R236). -/
def slkTxwincCount : Fam := { addr := 0x40005030, lo := 8, w := 7, acc := .rws }
/-- SLK_TXWINP.COUNT (R236). -/
def slkTxwinpCount : Fam := { addr := 0x40005034, lo := 8, w := 7, acc := .rws }
/-- SLK_TXWINC.PER (R236). -/
def slkTxwincPer : Fam := { addr := 0x40005030, lo := 16, w := 3, acc := .rws }
/-- SLK_TXWINP.PER (R236). -/
def slkTxwinpPer : Fam := { addr := 0x40005034, lo := 16, w := 3, acc := .rws }
/-- SLK_TXWINC.OFFSET (R236). -/
def slkTxwincOffset : Fam := { addr := 0x40005030, lo := 24, w := 7, acc := .rws }
/-- SLK_TXWINP.OFFSET (R236). -/
def slkTxwinpOffset : Fam := { addr := 0x40005034, lo := 24, w := 7, acc := .rws }
/-- SLK_KA.EN (R236). -/
def slkKaEn : Fam := { addr := 0x40005038, lo := 0, w := 1, acc := .rw }
/-- SLK_KA.K (R236). -/
def slkKaK : Fam := { addr := 0x40005038, lo := 4, w := 4, acc := .rw, resv := .range 1 15, rst := 0x3 }
/-- SLK_KA.MISSED (R236). -/
def slkKaMissed : Fam := { addr := 0x40005038, lo := 8, w := 8, acc := .ro }
/-- SLK_MED.T (R236). -/
def slkMedT : Fam := { addr := 0x4000503C, lo := 0, w := 8, acc := .rw, resv := .range 1 255, rst := 0x8 }
/-- SLK_MED.RET (R236). -/
def slkMedRet : Fam := { addr := 0x4000503C, lo := 8, w := 4, acc := .rw, resv := .range 1 15, rst := 0x4 }
/-- SLK_MED.CFAIL (R236). -/
def slkMedCfail : Fam := { addr := 0x4000503C, lo := 16, w := 1, acc := .ro }
/-- SLK_MED.PFAIL (R236). -/
def slkMedPfail : Fam := { addr := 0x4000503C, lo := 17, w := 1, acc := .ro }
/-- SLK_MED.CTXF (R236). -/
def slkMedCtxf : Fam := { addr := 0x4000503C, lo := 18, w := 1, acc := .ro }
/-- SLK_MED.PTXF (R236). -/
def slkMedPtxf : Fam := { addr := 0x4000503C, lo := 19, w := 1, acc := .ro }
/-- SLK_STAT.KALOSS (R236). -/
def slkStatKaloss : Fam := { addr := 0x40005040, lo := 0, w := 1, acc := .w1c }
/-- SLK_STAT.MEDFAIL (R236). -/
def slkStatMedfail : Fam := { addr := 0x40005040, lo := 1, w := 1, acc := .w1c }
/-- SLK_STAT.RXOVF (R236). -/
def slkStatRxovf : Fam := { addr := 0x40005040, lo := 8, w := 1, acc := .w1c }
/-- SLK_STAT.TXDROP (R236). -/
def slkStatTxdrop : Fam := { addr := 0x40005040, lo := 9, w := 1, acc := .w1c }
/-- SLK_IEN.IEN (R236). -/
def slkIenIen : Fam := { addr := 0x40005044, lo := 0, w := 10, acc := .rw }
/-- SLK_RXSTAT.LAST (R236). -/
def slkRxstatLast : Fam := { addr := 0x40005048, lo := 0, w := 4, acc := .ro }
/-- SLK_RXSTAT.RSSI (R236). -/
def slkRxstatRssi : Fam := { addr := 0x40005048, lo := 8, w := 8, acc := .ro }
/-- SLK_CAPTURES.COUNT (R236). -/
def slkCapturesCount : Fam := { addr := 0x40005050, lo := 0, w := 16, acc := .rc }
/-- SLK_COLLIDE.COUNT (R236). -/
def slkCollideCount : Fam := { addr := 0x40005054, lo := 0, w := 16, acc := .rc }
/-- SLK_ERRCNT0.CRC (R236). -/
def slkErrcnt0Crc : Fam := { addr := 0x40005058, lo := 0, w := 16, acc := .rc }
/-- SLK_ERRCNT0.FMT (R236). -/
def slkErrcnt0Fmt : Fam := { addr := 0x40005058, lo := 16, w := 16, acc := .rc }
/-- SLK_ERRCNT1.MAC (R236). -/
def slkErrcnt1Mac : Fam := { addr := 0x4000505C, lo := 0, w := 16, acc := .rc }
/-- SLK_ERRCNT1.STALE (R236). -/
def slkErrcnt1Stale : Fam := { addr := 0x4000505C, lo := 16, w := 16, acc := .rc }
/-- SLK_ERRCNT2.NOKEY (R236). -/
def slkErrcnt2Nokey : Fam := { addr := 0x40005060, lo := 0, w := 16, acc := .rc }
/-- SLK_ERRCNT2.BADSRC (R236). -/
def slkErrcnt2Badsrc : Fam := { addr := 0x40005060, lo := 16, w := 16, acc := .rc }
/-- SLK_BCNLAST.CYCLE (R236). -/
def slkBcnlastCycle : Fam := { addr := 0x40005064, lo := 0, w := 32, acc := .ro }
/-- SLK_RXHEAD.HEAD (R236). -/
def slkRxheadHead : Fam := { addr := 0x40005070, lo := 0, w := 4, acc := .ro }
/-- SLK_RXHEAD.COUNT (R236). -/
def slkRxheadCount : Fam := { addr := 0x40005070, lo := 4, w := 5, acc := .ro }
/-- SLK_RXPOP.POP (R236). -/
def slkRxpopPop : Fam := { addr := 0x40005074, lo := 0, w := 1, acc := .wo }
/-- SLK_TXQ.USED (R236). -/
def slkTxqUsed : Fam := { addr := 0x40005400, lo := 0, w := 5, acc := .ro }
/-- SLK_TXQ.RUSED (R236). -/
def slkTxqRused : Fam := { addr := 0x40005400, lo := 8, w := 4, acc := .ro }
/-- SLK_TXLAST.SEQ (R236). -/
def slkTxlastSeq : Fam := { addr := 0x40005404, lo := 0, w := 32, acc := .ro }
/-- SLK_TXLCODE.CODE (R236). -/
def slkTxlcodeCode : Fam := { addr := 0x40005408, lo := 0, w := 8, acc := .ro }
/-- SLK_CMCTL.COMMISS (R236). -/
def slkCmctlCommiss : Fam := { addr := 0x40005C00, lo := 0, w := 1, acc := .rw }
/-- SLK_CMCTL.FORGET (R236). -/
def slkCmctlForget : Fam := { addr := 0x40005C00, lo := 1, w := 1, acc := .w1s }
/-- SLK_CMCTL.KEYMAP (R236). -/
def slkCmctlKeymap : Fam := { addr := 0x40005C00, lo := 4, w := 4, acc := .ro }

/-- Every field family of block SLK. -/
def listSlk : List Fam :=
  [slkCfgEnc, slkCfgEnp, slkCfgCrate, slkCfgPrate, slkCfgPrimary, slkCfgBcnmed, slkCfgAutoret, slkCfgMargin, slkCommitCommit, slkAddrAddr, slkAddrValid, slkGwGwaddr, slkGwStrid, slkGrpGroup, slkGrpValid, slkTxwincFirst, slkTxwinpFirst, slkTxwincCount, slkTxwinpCount, slkTxwincPer, slkTxwinpPer, slkTxwincOffset, slkTxwinpOffset, slkKaEn] ++
  [slkKaK, slkKaMissed, slkMedT, slkMedRet, slkMedCfail, slkMedPfail, slkMedCtxf, slkMedPtxf, slkStatKaloss, slkStatMedfail, slkStatRxovf, slkStatTxdrop, slkIenIen, slkRxstatLast, slkRxstatRssi, slkCapturesCount, slkCollideCount, slkErrcnt0Crc, slkErrcnt0Fmt, slkErrcnt1Mac, slkErrcnt1Stale, slkErrcnt2Nokey, slkErrcnt2Badsrc, slkBcnlastCycle] ++
  [slkRxheadHead, slkRxheadCount, slkRxpopPop, slkTxqUsed, slkTxqRused, slkTxlastSeq, slkTxlcodeCode, slkCmctlCommiss, slkCmctlForget, slkCmctlKeymap]

/-! ### PST -/

/-- PST_x_MODE.MODE (R264). -/
def pstModeMode : Fam := { addr := 0x40006000, lo := 0, w := 3, acc := .rw, s1 := 0x400, n1 := 8 }
/-- PST_x_PER.PER (R264). -/
def pstPerPer : Fam := { addr := 0x40006004, lo := 0, w := 16, acc := .rws, rst := 0x3C00, s1 := 0x400, n1 := 8 }
/-- PST_x_PER.UPD (R264). -/
def pstPerUpd : Fam := { addr := 0x40006004, lo := 16, w := 8, acc := .rws, s1 := 0x400, n1 := 8 }
/-- PST_x_PER.TRG (R264). -/
def pstPerTrg : Fam := { addr := 0x40006004, lo := 24, w := 8, acc := .rws, s1 := 0x400, n1 := 8 }
/-- PST_x_DT.DTB (R264). -/
def pstDtDtb : Fam := { addr := 0x40006008, lo := 0, w := 10, acc := .rws, rst := 0x7B, s1 := 0x400, n1 := 8 }
/-- PST_x_DT.DTK (R264). -/
def pstDtDtk : Fam := { addr := 0x40006008, lo := 16, w := 10, acc := .rws, rst := 0x7B, s1 := 0x400, n1 := 8 }
/-- PST_x_OFFS.OFFS (R264). -/
def pstOffsOffs : Fam := { addr := 0x4000600C, lo := 0, w := 8, acc := .rws, s1 := 0x400, n1 := 8 }
/-- PST_x_SYNC.SRC (R264). -/
def pstSyncSrc : Fam := { addr := 0x40006010, lo := 0, w := 2, acc := .rws, s1 := 0x400, n1 := 8 }
/-- PST_x_SYNC.DIV (R264). -/
def pstSyncDiv : Fam := { addr := 0x40006010, lo := 4, w := 4, acc := .rws, rst := 0x1, s1 := 0x400, n1 := 8 }
/-- PST_x_SYNC.STN (R264). -/
def pstSyncStn : Fam := { addr := 0x40006010, lo := 16, w := 16, acc := .rws, rst := 0x7D0, s1 := 0x400, n1 := 8 }
/-- PST_x_COMMIT.COMMIT (R264). -/
def pstCommitCommit : Fam := { addr := 0x40006014, lo := 0, w := 1, acc := .wo, s1 := 0x400, n1 := 8 }
/-- PST_x_PERNOW.PER (R264). -/
def pstPernowPer : Fam := { addr := 0x40006018, lo := 0, w := 16, acc := .ro, rst := 0x3C00, s1 := 0x400, n1 := 8 }
/-- PST_x_VOUT.MV (R264). -/
def pstVoutMv : Fam := { addr := 0x40006020, lo := 0, w := 17, acc := .rw, s1 := 0x400, n1 := 8 }
/-- PST_x_VIN.MV (R264). -/
def pstVinMv : Fam := { addr := 0x40006024, lo := 0, w := 17, acc := .rw, s1 := 0x400, n1 := 8 }
/-- PST_x_ILIM.MA (R264). -/
def pstIlimMa : Fam := { addr := 0x40006028, lo := 0, w := 16, acc := .rw, s1 := 0x400, n1 := 8 }
/-- PST_x_VSAFE.MV (R264). -/
def pstVsafeMv : Fam := { addr := 0x4000602C, lo := 0, w := 17, acc := .rw, s1 := 0x400, n1 := 8 }
/-- PST_x_SLEW.SV (R264). -/
def pstSlewSv : Fam := { addr := 0x40006030, lo := 0, w := 8, acc := .rw, s1 := 0x400, n1 := 8 }
/-- PST_x_SLEW.SI (R264). -/
def pstSlewSi : Fam := { addr := 0x40006030, lo := 8, w := 8, acc := .rw, s1 := 0x400, n1 := 8 }
/-- PST_x_K.KV (R264). -/
def pstKKv : Fam := { addr := 0x40006034, lo := 0, w := 16, acc := .rw, s1 := 0x400, n1 := 8 }
/-- PST_x_K.KI (R264). -/
def pstKKi : Fam := { addr := 0x40006034, lo := 16, w := 16, acc := .rw, s1 := 0x400, n1 := 8 }
/-- PST_x_CMDVOUT.VAL (R264). -/
def pstCmdvoutVal : Fam := { addr := 0x40006040, lo := 0, w := 17, acc := .ro, s1 := 0x400, n1 := 8 }
/-- PST_x_CMDVIN.VAL (R264). -/
def pstCmdvinVal : Fam := { addr := 0x40006044, lo := 0, w := 17, acc := .ro, s1 := 0x400, n1 := 8 }
/-- PST_x_CMDILIM.VAL (R264). -/
def pstCmdilimVal : Fam := { addr := 0x40006048, lo := 0, w := 17, acc := .ro, s1 := 0x400, n1 := 8 }
/-- PST_x_CMDVSAFE.VAL (R264). -/
def pstCmdvsafeVal : Fam := { addr := 0x4000604C, lo := 0, w := 17, acc := .ro, s1 := 0x400, n1 := 8 }
/-- PST_x_OCTH.TH0 (R264). -/
def pstOcthTh0 : Fam := { addr := 0x40006050, lo := 0, w := 10, acc := .rw, rst := 0x3FF, s1 := 0x400, n1 := 8 }
/-- PST_x_OCTH.TH1 (R264). -/
def pstOcthTh1 : Fam := { addr := 0x40006050, lo := 16, w := 10, acc := .rw, rst := 0x3FF, s1 := 0x400, n1 := 8 }
/-- PST_x_OCCFG.BLANK (R264). -/
def pstOccfgBlank : Fam := { addr := 0x40006054, lo := 0, w := 6, acc := .rw, rst := 0x10, s1 := 0x400, n1 := 8 }
/-- PST_x_VCMP.OVTH (R264). -/
def pstVcmpOvth : Fam := { addr := 0x40006058, lo := 0, w := 11, acc := .rw, rst := 0x4B0, s1 := 0x400, n1 := 8 }
/-- PST_x_VCMP.UVTH (R264). -/
def pstVcmpUvth : Fam := { addr := 0x40006058, lo := 16, w := 11, acc := .rw, s1 := 0x400, n1 := 8 }
/-- PST_x_PRES.PRON (R264). -/
def pstPresPron : Fam := { addr := 0x4000605C, lo := 0, w := 11, acc := .rw, rst := 0x64, s1 := 0x400, n1 := 8 }
/-- PST_x_PRES.PRT (R264). -/
def pstPresPrt : Fam := { addr := 0x4000605C, lo := 16, w := 8, acc := .rw, resv := .range 1 255, rst := 0x64, s1 := 0x400, n1 := 8 }
/-- PST_x_PRES.UVR (R264). -/
def pstPresUvr : Fam := { addr := 0x4000605C, lo := 24, w := 1, acc := .rw, s1 := 0x400, n1 := 8 }
/-- PST_x_SS.TMAX (R264). -/
def pstSsTmax : Fam := { addr := 0x40006060, lo := 0, w := 8, acc := .rw, resv := .range 1 255, rst := 0x32, s1 := 0x400, n1 := 8 }
/-- PST_x_SS.RATE (R264). -/
def pstSsRate : Fam := { addr := 0x40006060, lo := 8, w := 8, acc := .rw, resv := .range 1 255, rst := 0xA, s1 := 0x400, n1 := 8 }
/-- PST_x_SS.DWELL (R264). -/
def pstSsDwell : Fam := { addr := 0x40006060, lo := 16, w := 8, acc := .rw, rst := 0x64, s1 := 0x400, n1 := 8 }
/-- PST_x_BAL.EN (R264). -/
def pstBalEn : Fam := { addr := 0x40006064, lo := 0, w := 1, acc := .rw, s1 := 0x400, n1 := 8 }
/-- PST_x_BAL.N (R264). -/
def pstBalN : Fam := { addr := 0x40006064, lo := 4, w := 4, acc := .rw, rst := 0x6, s1 := 0x400, n1 := 8 }
/-- PST_x_BAL.DB (R264). -/
def pstBalDb : Fam := { addr := 0x40006064, lo := 8, w := 8, acc := .rw, rst := 0x8, s1 := 0x400, n1 := 8 }
/-- PST_x_BAL.TRIM (R264). -/
def pstBalTrim : Fam := { addr := 0x40006064, lo := 16, w := 6, acc := .ro, s1 := 0x400, n1 := 8 }
/-- PST_x_DB0.DUTY (R264). -/
def pstDb0Duty : Fam := { addr := 0x40006070, lo := 0, w := 16, acc := .ceOnly, s1 := 0x400, n1 := 8 }
/-- PST_x_DK0.DUTY (R264). -/
def pstDk0Duty : Fam := { addr := 0x40006074, lo := 0, w := 16, acc := .ceOnly, s1 := 0x400, n1 := 8 }
/-- PST_x_DB1.DUTY (R264). -/
def pstDb1Duty : Fam := { addr := 0x40006078, lo := 0, w := 16, acc := .ceOnly, s1 := 0x400, n1 := 8 }
/-- PST_x_DK1.DUTY (R264). -/
def pstDk1Duty : Fam := { addr := 0x4000607C, lo := 0, w := 16, acc := .ceOnly, s1 := 0x400, n1 := 8 }
/-- PST_x_STAT.MODE (R264). -/
def pstStatMode : Fam := { addr := 0x40006080, lo := 0, w := 3, acc := .ro, s1 := 0x400, n1 := 8 }
/-- PST_x_STAT.SREG (R264). -/
def pstStatSreg : Fam := { addr := 0x40006080, lo := 3, w := 1, acc := .ro, s1 := 0x400, n1 := 8 }
/-- PST_x_STAT.PRESENT (R264). -/
def pstStatPresent : Fam := { addr := 0x40006080, lo := 4, w := 1, acc := .ro, s1 := 0x400, n1 := 8 }
/-- PST_x_STAT.SSDONE (R264). -/
def pstStatSsdone : Fam := { addr := 0x40006080, lo := 5, w := 1, acc := .ro, s1 := 0x400, n1 := 8 }
/-- PST_x_STAT.SYNCLK (R264). -/
def pstStatSynclk : Fam := { addr := 0x40006080, lo := 6, w := 1, acc := .ro, s1 := 0x400, n1 := 8 }
/-- PST_x_STAT.LOCKOUT (R264). -/
def pstStatLockout : Fam := { addr := 0x40006080, lo := 7, w := 1, acc := .w1c, s1 := 0x400, n1 := 8 }
/-- PST_x_STAT.RESUME (R264). -/
def pstStatResume : Fam := { addr := 0x40006080, lo := 8, w := 3, acc := .ro, s1 := 0x400, n1 := 8 }
/-- PST_x_STAT.OC0 (R264). -/
def pstStatOc0 : Fam := { addr := 0x40006080, lo := 16, w := 1, acc := .w1c, s1 := 0x400, n1 := 8 }
/-- PST_x_STAT.OC1 (R264). -/
def pstStatOc1 : Fam := { addr := 0x40006080, lo := 17, w := 1, acc := .w1c, s1 := 0x400, n1 := 8 }
/-- PST_x_STAT.OV (R264). -/
def pstStatOv : Fam := { addr := 0x40006080, lo := 18, w := 1, acc := .w1c, s1 := 0x400, n1 := 8 }
/-- PST_x_STAT.DRVFLT (R264). -/
def pstStatDrvflt : Fam := { addr := 0x40006080, lo := 19, w := 1, acc := .w1c, s1 := 0x400, n1 := 8 }
/-- PST_x_STAT.SSFAIL (R264). -/
def pstStatSsfail : Fam := { addr := 0x40006080, lo := 20, w := 1, acc := .w1c, s1 := 0x400, n1 := 8 }
/-- PST_x_STAT.UV (R264). -/
def pstStatUv : Fam := { addr := 0x40006080, lo := 24, w := 1, acc := .w1c, s1 := 0x400, n1 := 8 }
/-- PST_x_STAT.REMOVED (R264). -/
def pstStatRemoved : Fam := { addr := 0x40006080, lo := 25, w := 1, acc := .w1c, s1 := 0x400, n1 := 8 }
/-- PST_x_STAT.PRESCHG (R264). -/
def pstStatPreschg : Fam := { addr := 0x40006080, lo := 26, w := 1, acc := .w1c, s1 := 0x400, n1 := 8 }
/-- PST_x_STAT.SYNC_LOST (R264). -/
def pstStatSyncLost : Fam := { addr := 0x40006080, lo := 27, w := 1, acc := .w1c, s1 := 0x400, n1 := 8 }
/-- PST_x_STAT.BAL_LIM (R264). -/
def pstStatBalLim : Fam := { addr := 0x40006080, lo := 28, w := 1, acc := .w1c, s1 := 0x400, n1 := 8 }
/-- PST_x_IEN.IEN (R264). -/
def pstIenIen : Fam := { addr := 0x40006084, lo := 16, w := 13, acc := .rw, s1 := 0x400, n1 := 8 }
/-- PST_x_OCCNT.CNT0 (R264). -/
def pstOccntCnt0 : Fam := { addr := 0x40006088, lo := 0, w := 16, acc := .rc, s1 := 0x400, n1 := 8 }
/-- PST_x_OCCNT.CNT1 (R264). -/
def pstOccntCnt1 : Fam := { addr := 0x40006088, lo := 16, w := 16, acc := .rc, s1 := 0x400, n1 := 8 }
/-- PST_BYP.BYP (R265). -/
def pstBypByp : Fam := { addr := 0x40006380, lo := 0, w := 1, acc := .rw, rst := 0x1 }
/-- PST_BYP.LVL (R265). -/
def pstBypLvl : Fam := { addr := 0x40006380, lo := 1, w := 1, acc := .ro, rst := 0x1 }
/-- PST_FORCE.SAFE (R265). -/
def pstForceSafe : Fam := { addr := 0x40006384, lo := 0, w := 1, acc := .rw }
/-- PST_FORCE.PIN (R265). -/
def pstForcePin : Fam := { addr := 0x40006384, lo := 16, w := 1, acc := .ro }
/-- PST_FORCE.KA (R265). -/
def pstForceKa : Fam := { addr := 0x40006384, lo := 17, w := 1, acc := .ro }
/-- PST_SCALE.KVS (R265). -/
def pstScaleKvs : Fam := { addr := 0x40006388, lo := 0, w := 16, acc := .rw }

/-- Every field family of block PST. -/
def listPst : List Fam :=
  [pstModeMode, pstPerPer, pstPerUpd, pstPerTrg, pstDtDtb, pstDtDtk, pstOffsOffs, pstSyncSrc, pstSyncDiv, pstSyncStn, pstCommitCommit, pstPernowPer, pstVoutMv, pstVinMv, pstIlimMa, pstVsafeMv, pstSlewSv, pstSlewSi, pstKKv, pstKKi, pstCmdvoutVal, pstCmdvinVal, pstCmdilimVal, pstCmdvsafeVal] ++
  [pstOcthTh0, pstOcthTh1, pstOccfgBlank, pstVcmpOvth, pstVcmpUvth, pstPresPron, pstPresPrt, pstPresUvr, pstSsTmax, pstSsRate, pstSsDwell, pstBalEn, pstBalN, pstBalDb, pstBalTrim, pstDb0Duty, pstDk0Duty, pstDb1Duty, pstDk1Duty, pstStatMode, pstStatSreg, pstStatPresent, pstStatSsdone, pstStatSynclk] ++
  [pstStatLockout, pstStatResume, pstStatOc0, pstStatOc1, pstStatOv, pstStatDrvflt, pstStatSsfail, pstStatUv, pstStatRemoved, pstStatPreschg, pstStatSyncLost, pstStatBalLim, pstIenIen, pstOccntCnt0, pstOccntCnt1, pstBypByp, pstBypLvl, pstForceSafe, pstForcePin, pstForceKa, pstScaleKvs]

/-! ### CE -/

/-- CE_COMMIT.COMMIT (R288). -/
def ceCommitCommit : Fam := { addr := 0x40008000, lo := 0, w := 1, acc := .wo }
/-- CE_IADDR.ADDR (R288). -/
def ceIaddrAddr : Fam := { addr := 0x40008004, lo := 0, w := 16, acc := .rw }
/-- CE_IDATA.DATA (R288). -/
def ceIdataData : Fam := { addr := 0x40008008, lo := 0, w := 32, acc := .rw }
/-- CE_SEL.SEL (R288). -/
def ceSelSel : Fam := { addr := 0x4000800C, lo := 0, w := 16, acc := .rw }
/-- CE_STAT.A0OK (R288). -/
def ceStatA0ok : Fam := { addr := 0x40008010, lo := 0, w := 1, acc := .ro, rst := 0x1 }
/-- CE_STAT.A1OK (R288). -/
def ceStatA1ok : Fam := { addr := 0x40008010, lo := 1, w := 1, acc := .ro, rst := 0x1 }
/-- CE_STAT.FOVR (R288). -/
def ceStatFovr : Fam := { addr := 0x40008010, lo := 2, w := 1, acc := .ro }
/-- CE_STAT.HALTED (R288). -/
def ceStatHalted : Fam := { addr := 0x40008010, lo := 3, w := 1, acc := .w1c }
/-- CE_STAT.OVRN (R288). -/
def ceStatOvrn : Fam := { addr := 0x40008010, lo := 8, w := 1, acc := .w1c }
/-- CE_STAT.SUSP (R288). -/
def ceStatSusp : Fam := { addr := 0x40008010, lo := 9, w := 1, acc := .w1c }
/-- CE_STAT.DEGR (R288). -/
def ceStatDegr : Fam := { addr := 0x40008010, lo := 10, w := 1, acc := .w1c }
/-- CE_STAT.AOVF (R288). -/
def ceStatAovf : Fam := { addr := 0x40008010, lo := 11, w := 1, acc := .w1c }
/-- CE_STAT.SATF (R288). -/
def ceStatSatf : Fam := { addr := 0x40008010, lo := 12, w := 1, acc := .w1c }
/-- CE_BUDGET.OK (R288). -/
def ceBudgetOk : Fam := { addr := 0x40008014, lo := 0, w := 1, acc := .ro }
/-- CE_BUDGET.PROG (R288). -/
def ceBudgetProg : Fam := { addr := 0x40008014, lo := 1, w := 5, acc := .ro }
/-- CE_BUDGET.COND (R288). -/
def ceBudgetCond : Fam := { addr := 0x40008014, lo := 6, w := 2, acc := .ro }
/-- CE_BUDGET.SLACK (R288). -/
def ceBudgetSlack : Fam := { addr := 0x40008014, lo := 16, w := 16, acc := .ro }
/-- CE_DEGRj.STEPm (R288). -/
def ceDegrStep (m : Nat) : Fam := { addr := 0x40008018, lo := 0 + 2 * m, w := 2, acc := .ro, s1 := 0x4, n1 := 2 }
/-- CE_SUSPM.SUSP (R288). -/
def ceSuspmSusp : Fam := { addr := 0x40008020, lo := 0, w := 32, acc := .ro }
/-- CE_OVRCNT.COUNT (R288). -/
def ceOvrcntCount : Fam := { addr := 0x40008024, lo := 0, w := 16, acc := .rc }
/-- CE_IEN.IEN (R288). -/
def ceIenIen : Fam := { addr := 0x40008028, lo := 8, w := 5, acc := .rw }
/-- CE_SPk.VAL (R288). -/
def ceSpVal : Fam := { addr := 0x40008040, lo := 0, w := 32, acc := .rw, s1 := 0x4, n1 := 32 }

/-- Every field family of block CE. -/
def listCe : List Fam :=
  [ceCommitCommit, ceIaddrAddr, ceIdataData, ceSelSel, ceStatA0ok, ceStatA1ok, ceStatFovr, ceStatHalted, ceStatOvrn, ceStatSusp, ceStatDegr, ceStatAovf, ceStatSatf, ceBudgetOk, ceBudgetProg, ceBudgetCond, ceBudgetSlack, ceDegrStep 0, ceDegrStep 1, ceDegrStep 2, ceDegrStep 3, ceDegrStep 4, ceDegrStep 5, ceDegrStep 6] ++
  [ceDegrStep 7, ceDegrStep 8, ceDegrStep 9, ceDegrStep 10, ceDegrStep 11, ceDegrStep 12, ceDegrStep 13, ceDegrStep 14, ceDegrStep 15, ceSuspmSusp, ceOvrcntCount, ceIenIen, ceSpVal]

/-! ### TRC -/

/-- TRC_nOWN.OWNER (R289). -/
def trcOwnOwner : Fam := { addr := 0x40013000, lo := 12, w := 4, acc := .ro, s1 := 0x40, n1 := 4 }
/-- TRC_nOWN.HELD (R289). -/
def trcOwnHeld : Fam := { addr := 0x40013000, lo := 16, w := 1, acc := .rw, s1 := 0x40, n1 := 4 }
/-- TRC_nCFG.PRG (R289). -/
def trcCfgPrg : Fam := { addr := 0x40013004, lo := 0, w := 5, acc := .rw, s1 := 0x40, n1 := 4 }
/-- TRC_nCFG.DEC (R289). -/
def trcCfgDec : Fam := { addr := 0x40013004, lo := 5, w := 8, acc := .rw, s1 := 0x40, n1 := 4 }
/-- TRC_nCFG.PRE (R289). -/
def trcCfgPre : Fam := { addr := 0x40013004, lo := 13, w := 7, acc := .rw, s1 := 0x40, n1 := 4 }
/-- TRC_nCFG.TSRC (R289). -/
def trcCfgTsrc : Fam := { addr := 0x40013004, lo := 20, w := 3, acc := .rw, resv := .range 0 4, s1 := 0x40, n1 := 4 }
/-- TRC_nCFG.TTAP (R289). -/
def trcCfgTtap : Fam := { addr := 0x40013004, lo := 23, w := 3, acc := .rw, s1 := 0x40, n1 := 4 }
/-- TRC_nCFG.TCOND (R289). -/
def trcCfgTcond : Fam := { addr := 0x40013004, lo := 26, w := 2, acc := .rw, s1 := 0x40, n1 := 4 }
/-- TRC_nTHR.THR (R289). -/
def trcThrThr : Fam := { addr := 0x40013008, lo := 0, w := 32, acc := .rw, s1 := 0x40, n1 := 4 }
/-- TRC_nTAPj.TAPLO (R289). -/
def trcTapTaplo : Fam := { addr := 0x4001300C, lo := 0, w := 16, acc := .rw, s1 := 0x40, n1 := 4, s2 := 0x4, n2 := 4 }
/-- TRC_nTAPj.TAPHI (R289). -/
def trcTapTaphi : Fam := { addr := 0x4001300C, lo := 16, w := 16, acc := .rw, s1 := 0x40, n1 := 4, s2 := 0x4, n2 := 4 }
/-- TRC_nCTL.ARM (R289). -/
def trcCtlArm : Fam := { addr := 0x4001301C, lo := 0, w := 1, acc := .w1s, s1 := 0x40, n1 := 4 }
/-- TRC_nCTL.FORCE (R289). -/
def trcCtlForce : Fam := { addr := 0x4001301C, lo := 1, w := 1, acc := .w1s, s1 := 0x40, n1 := 4 }
/-- TRC_nCTL.STOP (R289). -/
def trcCtlStop : Fam := { addr := 0x4001301C, lo := 2, w := 1, acc := .w1s, s1 := 0x40, n1 := 4 }
/-- TRC_nSTAT.STATE (R289). -/
def trcStatState : Fam := { addr := 0x40013020, lo := 0, w := 2, acc := .ro, s1 := 0x40, n1 := 4 }
/-- TRC_nSTAT.WPTR (R289). -/
def trcStatWptr : Fam := { addr := 0x40013020, lo := 2, w := 7, acc := .ro, s1 := 0x40, n1 := 4 }
/-- TRC_nSTAT.TRIGIX (R289). -/
def trcStatTrigix : Fam := { addr := 0x40013020, lo := 9, w := 7, acc := .ro, s1 := 0x40, n1 := 4 }
/-- TRC_nSTAT.COUNT (R289). -/
def trcStatCount : Fam := { addr := 0x40013020, lo := 16, w := 8, acc := .ro, s1 := 0x40, n1 := 4 }

/-- Every field family of block TRC. -/
def listTrc : List Fam :=
  [trcOwnOwner, trcOwnHeld, trcCfgPrg, trcCfgDec, trcCfgPre, trcCfgTsrc, trcCfgTtap, trcCfgTcond, trcThrThr, trcTapTaplo, trcTapTaphi, trcCtlArm, trcCtlForce, trcCtlStop, trcStatState, trcStatWptr, trcStatTrigix, trcStatCount]

/-! ### ADC -/

/-- ADC_CTL.RESTORE0 (R310). -/
def adcCtlRestore0 : Fam := { addr := 0x40009000, lo := 0, w := 1, acc := .w1s }
/-- ADC_CTL.RESTORE1 (R310). -/
def adcCtlRestore1 : Fam := { addr := 0x40009000, lo := 1, w := 1, acc := .w1s }
/-- ADC_COMMIT.COMMIT (R310). -/
def adcCommitCommit : Fam := { addr := 0x40009004, lo := 0, w := 1, acc := .wo }
/-- ADC_STAT.OK0 (R310). -/
def adcStatOk0 : Fam := { addr := 0x40009008, lo := 0, w := 1, acc := .ro, rst := 0x1 }
/-- ADC_STAT.OK1 (R310). -/
def adcStatOk1 : Fam := { addr := 0x40009008, lo := 1, w := 1, acc := .ro, rst := 0x1 }
/-- ADC_STAT.FAIL0 (R310). -/
def adcStatFail0 : Fam := { addr := 0x40009008, lo := 8, w := 1, acc := .w1c }
/-- ADC_STAT.FAIL1 (R310). -/
def adcStatFail1 : Fam := { addr := 0x40009008, lo := 9, w := 1, acc := .w1c }
/-- ADC_STAT.CALBAD (R310). -/
def adcStatCalbad : Fam := { addr := 0x40009008, lo := 10, w := 1, acc := .w1c }
/-- ADC_STAT.CHKMISS0 (R310). -/
def adcStatChkmiss0 : Fam := { addr := 0x40009008, lo := 12, w := 1, acc := .w1c }
/-- ADC_STAT.CHKMISS1 (R310). -/
def adcStatChkmiss1 : Fam := { addr := 0x40009008, lo := 13, w := 1, acc := .w1c }
/-- ADC_STAT.FOVF0 (R310). -/
def adcStatFovf0 : Fam := { addr := 0x40009008, lo := 14, w := 1, acc := .w1c }
/-- ADC_STAT.FOVF1 (R310). -/
def adcStatFovf1 : Fam := { addr := 0x40009008, lo := 15, w := 1, acc := .w1c }
/-- ADC_CHK.INT (R310). -/
def adcChkInt : Fam := { addr := 0x4000900C, lo := 0, w := 10, acc := .rw, resv := .range 10 1000, rst := 0x64 }
/-- ADC_CHK.TOL (R310). -/
def adcChkTol : Fam := { addr := 0x4000900C, lo := 12, w := 8, acc := .rw, resv := .range 1 255, rst := 0x10 }
/-- ADC_CHK.N (R310). -/
def adcChkN : Fam := { addr := 0x4000900C, lo := 24, w := 4, acc := .rw, resv := .range 1 15, rst := 0x3 }
/-- ADC_IEN.IEN (R310). -/
def adcIenIen : Fam := { addr := 0x40009010, lo := 8, w := 8, acc := .rw }
/-- ADC_CALCMD.CMD (R310). -/
def adcCalcmdCmd : Fam := { addr := 0x40009020, lo := 0, w := 2, acc := .wo }
/-- ADC_CALCMD.CONV (R310). -/
def adcCalcmdConv : Fam := { addr := 0x40009020, lo := 2, w := 1, acc := .wo }
/-- ADC_CALCMD.CH (R310). -/
def adcCalcmdCh : Fam := { addr := 0x40009020, lo := 3, w := 5, acc := .wo }
/-- ADC_CALCMD.PATH (R310). -/
def adcCalcmdPath : Fam := { addr := 0x40009020, lo := 8, w := 1, acc := .wo }
/-- ADC_CALCMD.AVG (R310). -/
def adcCalcmdAvg : Fam := { addr := 0x40009020, lo := 9, w := 4, acc := .wo }
/-- ADC_CALVAL.VAL (R310). -/
def adcCalvalVal : Fam := { addr := 0x40009024, lo := 0, w := 16, acc := .rw }
/-- ADC_CALOFS.OFS (R310). -/
def adcCalofsOfs : Fam := { addr := 0x40009028, lo := 0, w := 32, acc := .rw }
/-- ADC_CALG.G (R310). -/
def adcCalgG : Fam := { addr := 0x4000902C, lo := 0, w := 32, acc := .rw }
/-- ADC_CALSTAT.CODE (R310). -/
def adcCalstatCode : Fam := { addr := 0x40009030, lo := 0, w := 8, acc := .ro }
/-- ADC_CALSTAT.BUSY (R310). -/
def adcCalstatBusy : Fam := { addr := 0x40009030, lo := 8, w := 1, acc := .ro }
/-- ADC_nNEXT.CH (R310). -/
def adcNextCh : Fam := { addr := 0x40009400, lo := 0, w := 5, acc := .rw, s1 := 0x400, n1 := 2 }
/-- ADC_nNEXT.HOLD (R310). -/
def adcNextHold : Fam := { addr := 0x40009400, lo := 8, w := 1, acc := .rw, s1 := 0x400, n1 := 2 }
/-- ADC_nNEXT.HOFF (R310). -/
def adcNextHoff : Fam := { addr := 0x40009400, lo := 9, w := 1, acc := .wo, s1 := 0x400, n1 := 2 }
/-- ADC_nNEXT.HDIV (R310). -/
def adcNextHdiv : Fam := { addr := 0x40009400, lo := 12, w := 4, acc := .rw, s1 := 0x400, n1 := 2 }
/-- ADC_nNEXT.QLEN (R310). -/
def adcNextQlen : Fam := { addr := 0x40009400, lo := 16, w := 3, acc := .ro, s1 := 0x400, n1 := 2 }
/-- ADC_nFIFO.WORD (R310). -/
def adcFifoWord : Fam := { addr := 0x40009408, lo := 0, w := 32, acc := .ro, s1 := 0x400, n1 := 2 }
/-- ADC_nFSTAT.COUNT (R310). -/
def adcFstatCount : Fam := { addr := 0x4000940C, lo := 0, w := 5, acc := .ro, s1 := 0x400, n1 := 2 }
/-- ADC_nFSTAT.FTHR (R310). -/
def adcFstatFthr : Fam := { addr := 0x4000940C, lo := 8, w := 4, acc := .rw, s1 := 0x400, n1 := 2 }
/-- ADC_nWSTC.CYCLE (R310). -/
def adcWstcCycle : Fam := { addr := 0x40009420, lo := 0, w := 32, acc := .rw, s1 := 0x400, n1 := 2 }
/-- ADC_nWSPC.CYCLE (R310). -/
def adcWspcCycle : Fam := { addr := 0x40009424, lo := 0, w := 32, acc := .rw, s1 := 0x400, n1 := 2 }
/-- ADC_nWPH.START (R310). -/
def adcWphStart : Fam := { addr := 0x40009428, lo := 16, w := 16, acc := .rw, s1 := 0x400, n1 := 2 }
/-- ADC_nWPH.STOP (R310). -/
def adcWphStop : Fam := { addr := 0x40009428, lo := 0, w := 16, acc := .rw, s1 := 0x400, n1 := 2 }
/-- ADC_nWCTL.ARM (R310). -/
def adcWctlArm : Fam := { addr := 0x4000942C, lo := 0, w := 1, acc := .w1s, s1 := 0x400, n1 := 2 }
/-- ADC_nWCTL.STOP (R310). -/
def adcWctlStop : Fam := { addr := 0x4000942C, lo := 1, w := 1, acc := .w1s, s1 := 0x400, n1 := 2 }
/-- ADC_nWCTL.GATE (R310). -/
def adcWctlGate : Fam := { addr := 0x4000942C, lo := 2, w := 1, acc := .rw, s1 := 0x400, n1 := 2 }
/-- ADC_nWCTL.ARMED (R310). -/
def adcWctlArmed : Fam := { addr := 0x4000942C, lo := 8, w := 1, acc := .ro, s1 := 0x400, n1 := 2 }
/-- ADC_nWCTL.OPEN (R310). -/
def adcWctlOpen : Fam := { addr := 0x4000942C, lo := 9, w := 1, acc := .ro, s1 := 0x400, n1 := 2 }
/-- ADC_nWCTL.LATE (R310). -/
def adcWctlLate : Fam := { addr := 0x4000942C, lo := 16, w := 1, acc := .w1c, s1 := 0x400, n1 := 2 }
/-- ADC_nWCTL.WDONE (R310). -/
def adcWctlWdone : Fam := { addr := 0x4000942C, lo := 17, w := 1, acc := .w1c, s1 := 0x400, n1 := 2 }
/-- ADC_nWCTL.ORPHAN (R310). -/
def adcWctlOrphan : Fam := { addr := 0x4000942C, lo := 24, w := 8, acc := .rc, s1 := 0x400, n1 := 2 }
/-- ADC_nCHk.ALIGN (R310). -/
def adcChAlign : Fam := { addr := 0x40009500, lo := 0, w := 1, acc := .rws, s1 := 0x400, n1 := 2, s2 := 0x4, n2 := 32 }
/-- ADC_nCHk.SIGNED (R310). -/
def adcChSigned : Fam := { addr := 0x40009500, lo := 1, w := 1, acc := .rws, s1 := 0x400, n1 := 2, s2 := 0x4, n2 := 32 }
/-- ADC_nCHk.DIFF (R310). -/
def adcChDiff : Fam := { addr := 0x40009500, lo := 8, w := 1, acc := .ro, rule := .adcDiff, s1 := 0x400, n1 := 2, s2 := 0x4, n2 := 32 }
/-- ADC_nLASTk.VALUE (R310). -/
def adcLastValue : Fam := { addr := 0x40009600, lo := 0, w := 32, acc := .ro, s1 := 0x400, n1 := 2, s2 := 0x4, n2 := 32 }

/-- Every field family of block ADC. -/
def listAdc : List Fam :=
  [adcCtlRestore0, adcCtlRestore1, adcCommitCommit, adcStatOk0, adcStatOk1, adcStatFail0, adcStatFail1, adcStatCalbad, adcStatChkmiss0, adcStatChkmiss1, adcStatFovf0, adcStatFovf1, adcChkInt, adcChkTol, adcChkN, adcIenIen, adcCalcmdCmd, adcCalcmdConv, adcCalcmdCh, adcCalcmdPath, adcCalcmdAvg, adcCalvalVal, adcCalofsOfs, adcCalgG] ++
  [adcCalstatCode, adcCalstatBusy, adcNextCh, adcNextHold, adcNextHoff, adcNextHdiv, adcNextQlen, adcFifoWord, adcFstatCount, adcFstatFthr, adcWstcCycle, adcWspcCycle, adcWphStart, adcWphStop, adcWctlArm, adcWctlStop, adcWctlGate, adcWctlArmed, adcWctlOpen, adcWctlLate, adcWctlWdone, adcWctlOrphan, adcChAlign, adcChSigned] ++
  [adcChDiff, adcLastValue]

/-! ### CHG -/

/-- CHG_CFG.CHEM (R348). -/
def chgCfgChem : Fam := { addr := 0x4000B000, lo := 0, w := 2, acc := .rws, kinds := .pb }
/-- CHG_CFG.ICHG (R348). -/
def chgCfgIchg : Fam := { addr := 0x4000B000, lo := 2, w := 5, acc := .rws, kinds := .pb, rst := 0x4 }
/-- CHG_CFG.IPRE (R348). -/
def chgCfgIpre : Fam := { addr := 0x4000B000, lo := 8, w := 4, acc := .rws, kinds := .pb, rst := 0x2 }
/-- CHG_CFG.ITERM (R348). -/
def chgCfgIterm : Fam := { addr := 0x4000B000, lo := 12, w := 5, acc := .rws, kinds := .pb, rst := 0x2 }
/-- CHG_CFG.VRCH (R348). -/
def chgCfgVrch : Fam := { addr := 0x4000B000, lo := 18, w := 2, acc := .rws, kinds := .pb, rst := 0x1 }
/-- CHG_CFG.TOPOFF (R348). -/
def chgCfgTopoff : Fam := { addr := 0x4000B000, lo := 20, w := 6, acc := .rws, kinds := .pb }
/-- CHG_CFG.TFAST (R348). -/
def chgCfgTfast : Fam := { addr := 0x4000B000, lo := 26, w := 4, acc := .rws, kinds := .pb, rst := 0xA }
/-- CHG_CFG.TPRE (R348). -/
def chgCfgTpre : Fam := { addr := 0x4000B000, lo := 30, w := 2, acc := .rws, kinds := .pb, rst := 0x1 }
/-- CHG_COMMIT.COMMIT (R348). -/
def chgCommitCommit : Fam := { addr := 0x4000B004, lo := 0, w := 1, acc := .wo, kinds := .pb }
/-- CHG_CTL.EN (R348). -/
def chgCtlEn : Fam := { addr := 0x4000B008, lo := 0, w := 1, acc := .rw, kinds := .pb }
/-- CHG_CTL.LOCK (R348). -/
def chgCtlLock : Fam := { addr := 0x4000B008, lo := 8, w := 1, acc := .w1c, kinds := .pb }
/-- CHG_STAT.PHASE (R348). -/
def chgStatPhase : Fam := { addr := 0x4000B00C, lo := 0, w := 3, acc := .ro, kinds := .pb }
/-- CHG_STAT.PRESENT (R348). -/
def chgStatPresent : Fam := { addr := 0x4000B00C, lo := 3, w := 1, acc := .ro, kinds := .pb }
/-- CHG_STAT.QUAL (R348). -/
def chgStatQual : Fam := { addr := 0x4000B00C, lo := 4, w := 1, acc := .ro, kinds := .pb }
/-- CHG_STAT.NTCZ (R348). -/
def chgStatNtcz : Fam := { addr := 0x4000B00C, lo := 5, w := 3, acc := .ro, kinds := .pb, rst := 0x7 }
/-- CHG_STAT.PATH (R348). -/
def chgStatPath : Fam := { addr := 0x4000B00C, lo := 8, w := 1, acc := .ro, kinds := .pb }
/-- CHG_STAT.INDPM (R348). -/
def chgStatIndpm : Fam := { addr := 0x4000B00C, lo := 9, w := 1, acc := .ro, kinds := .pb }
/-- CHG_STAT.TREG (R348). -/
def chgStatTreg : Fam := { addr := 0x4000B00C, lo := 10, w := 1, acc := .ro, kinds := .pb }
/-- CHG_STAT.DONE (R348). -/
def chgStatDone : Fam := { addr := 0x4000B00C, lo := 16, w := 1, acc := .rc, kinds := .pb }
/-- CHG_STAT.RECHG (R348). -/
def chgStatRechg : Fam := { addr := 0x4000B00C, lo := 17, w := 1, acc := .rc, kinds := .pb }
/-- CHG_STAT.PHCHG (R348). -/
def chgStatPhchg : Fam := { addr := 0x4000B00C, lo := 18, w := 1, acc := .rc, kinds := .pb }
/-- CHG_STAT.PATHCHG (R348). -/
def chgStatPathchg : Fam := { addr := 0x4000B00C, lo := 19, w := 1, acc := .rc, kinds := .pb }
/-- CHG_FLT.PRETMO (R348). -/
def chgFltPretmo : Fam := { addr := 0x4000B010, lo := 0, w := 1, acc := .rc, kinds := .pb }
/-- CHG_FLT.TMO (R348). -/
def chgFltTmo : Fam := { addr := 0x4000B010, lo := 1, w := 1, acc := .rc, kinds := .pb }
/-- CHG_FLT.BATOV (R348). -/
def chgFltBatov : Fam := { addr := 0x4000B010, lo := 2, w := 1, acc := .rc, kinds := .pb }
/-- CHG_FLT.NTCOPEN (R348). -/
def chgFltNtcopen : Fam := { addr := 0x4000B010, lo := 3, w := 1, acc := .rc, kinds := .pb }
/-- CHG_FLT.NTCSHORT (R348). -/
def chgFltNtcshort : Fam := { addr := 0x4000B010, lo := 4, w := 1, acc := .rc, kinds := .pb }
/-- CHG_FLT.HOTDIS (R348). -/
def chgFltHotdis : Fam := { addr := 0x4000B010, lo := 5, w := 1, acc := .rc, kinds := .pb }
/-- CHG_TIME.FAST (R348). -/
def chgTimeFast : Fam := { addr := 0x4000B014, lo := 0, w := 16, acc := .ro, kinds := .pb }
/-- CHG_TIME.TOPREM (R348). -/
def chgTimeToprem : Fam := { addr := 0x4000B014, lo := 16, w := 8, acc := .ro, kinds := .pb }
/-- CHG_IEN.IEN (R348). -/
def chgIenIen : Fam := { addr := 0x4000B018, lo := 16, w := 4, acc := .rw, kinds := .pb }
/-- CHG_IEN.FIEN (R348). -/
def chgIenFien : Fam := { addr := 0x4000B018, lo := 0, w := 6, acc := .rw, kinds := .pb }

/-- Every field family of block CHG. -/
def listChg : List Fam :=
  [chgCfgChem, chgCfgIchg, chgCfgIpre, chgCfgIterm, chgCfgVrch, chgCfgTopoff, chgCfgTfast, chgCfgTpre, chgCommitCommit, chgCtlEn, chgCtlLock, chgStatPhase, chgStatPresent, chgStatQual, chgStatNtcz, chgStatPath, chgStatIndpm, chgStatTreg, chgStatDone, chgStatRechg, chgStatPhchg, chgStatPathchg, chgFltPretmo, chgFltTmo] ++
  [chgFltBatov, chgFltNtcopen, chgFltNtcshort, chgFltHotdis, chgTimeFast, chgTimeToprem, chgIenIen, chgIenFien]

/-! ### NVS -/

/-- NVS_LADDR.ADDR (R364). -/
def nvsLaddrAddr : Fam := { addr := 0x4000C000, lo := 0, w := 32, acc := .rws }
/-- NVS_COMMIT.COMMIT (R364). -/
def nvsCommitCommit : Fam := { addr := 0x4000C004, lo := 0, w := 1, acc := .wo }
/-- NVS_LDATAk.DATA (R364). -/
def nvsLdataData : Fam := { addr := 0x4000C020, lo := 0, w := 32, acc := .rws, s1 := 0x4, n1 := 8 }
/-- NVS_STAT.INTEG (R364). -/
def nvsStatInteg : Fam := { addr := 0x4000C040, lo := 0, w := 1, acc := .w1c }
/-- NVS_STAT.KEYBAD (R364). -/
def nvsStatKeybad : Fam := { addr := 0x4000C040, lo := 1, w := 1, acc := .ro }
/-- NVS_STAT.WLOCK (R364). -/
def nvsStatWlock : Fam := { addr := 0x4000C040, lo := 2, w := 1, acc := .w1c }
/-- NVS_ICNT.COUNT (R364). -/
def nvsIcntCount : Fam := { addr := 0x4000C044, lo := 0, w := 16, acc := .rc }
/-- NVS_ERRADDR.ADDR (R364). -/
def nvsErraddrAddr : Fam := { addr := 0x4000C048, lo := 0, w := 32, acc := .ro }
/-- NVS_ERRINFO.ID (R364). -/
def nvsErrinfoId : Fam := { addr := 0x4000C04C, lo := 0, w := 4, acc := .ro }
/-- NVS_ERRINFO.KIND (R364). -/
def nvsErrinfoKind : Fam := { addr := 0x4000C04C, lo := 4, w := 2, acc := .ro }
/-- NVS_ERRINFO.PORT (R364). -/
def nvsErrinfoPort : Fam := { addr := 0x4000C04C, lo := 8, w := 2, acc := .ro }
/-- NVS_IEN.IEN (R364). -/
def nvsIenIen : Fam := { addr := 0x4000C050, lo := 0, w := 3, acc := .rw }

/-- Every field family of block NVS. -/
def listNvs : List Fam :=
  [nvsLaddrAddr, nvsCommitCommit, nvsLdataData, nvsStatInteg, nvsStatKeybad, nvsStatWlock, nvsIcntCount, nvsErraddrAddr, nvsErrinfoId, nvsErrinfoKind, nvsErrinfoPort, nvsIenIen]

/-! ### DMA -/

/-- DMA_CHn_SRC.ADDR (R381). -/
def dmaChSrcAddr : Fam := { addr := 0x4000D000, lo := 0, w := 32, acc := .rw, s1 := 0x40, n1 := 32 }
/-- DMA_CHn_DST.ADDR (R381). -/
def dmaChDstAddr : Fam := { addr := 0x4000D004, lo := 0, w := 32, acc := .rw, s1 := 0x40, n1 := 32 }
/-- DMA_CHn_CNT.CNT (R381). -/
def dmaChCntCnt : Fam := { addr := 0x4000D008, lo := 0, w := 20, acc := .rw, s1 := 0x40, n1 := 32 }
/-- DMA_CHn_CFG.MODE (R381). -/
def dmaChCfgMode : Fam := { addr := 0x4000D00C, lo := 0, w := 1, acc := .rw, s1 := 0x40, n1 := 32 }
/-- DMA_CHn_CFG.WIDTH (R381). -/
def dmaChCfgWidth : Fam := { addr := 0x4000D00C, lo := 1, w := 2, acc := .rw, rst := 0x2, s1 := 0x40, n1 := 32 }
/-- DMA_CHn_CFG.SINC (R381). -/
def dmaChCfgSinc : Fam := { addr := 0x4000D00C, lo := 3, w := 1, acc := .rw, s1 := 0x40, n1 := 32 }
/-- DMA_CHn_CFG.DINC (R381). -/
def dmaChCfgDinc : Fam := { addr := 0x4000D00C, lo := 4, w := 1, acc := .rw, s1 := 0x40, n1 := 32 }
/-- DMA_CHn_CFG.CLASS (R381). -/
def dmaChCfgClass : Fam := { addr := 0x4000D00C, lo := 5, w := 1, acc := .rw, s1 := 0x40, n1 := 32 }
/-- DMA_CHn_CFG.PRI (R381). -/
def dmaChCfgPri : Fam := { addr := 0x4000D00C, lo := 6, w := 2, acc := .rw, s1 := 0x40, n1 := 32 }
/-- DMA_CHn_CFG.REQ (R381). -/
def dmaChCfgReq : Fam := { addr := 0x4000D00C, lo := 8, w := 3, acc := .rw, resv := .range 0 2, s1 := 0x40, n1 := 32 }
/-- DMA_CHn_CFG.IE (R381). -/
def dmaChCfgIe : Fam := { addr := 0x4000D00C, lo := 12, w := 1, acc := .rw, s1 := 0x40, n1 := 32 }
/-- DMA_CHn_RBASE.BASE (R381). -/
def dmaChRbaseBase : Fam := { addr := 0x4000D010, lo := 0, w := 32, acc := .rws, s1 := 0x40, n1 := 32 }
/-- DMA_CHn_RSIZE.SIZE (R381). -/
def dmaChRsizeSize : Fam := { addr := 0x4000D014, lo := 0, w := 9, acc := .rws, rst := 0x2, s1 := 0x40, n1 := 32 }
/-- DMA_CHn_CTL.START (R381). -/
def dmaChCtlStart : Fam := { addr := 0x4000D018, lo := 0, w := 1, acc := .w1s, s1 := 0x40, n1 := 32 }
/-- DMA_CHn_CTL.ABORT (R381). -/
def dmaChCtlAbort : Fam := { addr := 0x4000D018, lo := 1, w := 1, acc := .w1s, s1 := 0x40, n1 := 32 }
/-- DMA_CHn_CTL.KICK (R381). -/
def dmaChCtlKick : Fam := { addr := 0x4000D018, lo := 2, w := 1, acc := .w1s, s1 := 0x40, n1 := 32 }
/-- DMA_CHn_CTL.RELEASE (R381). -/
def dmaChCtlRelease : Fam := { addr := 0x4000D018, lo := 3, w := 1, acc := .w1s, s1 := 0x40, n1 := 32 }
/-- DMA_CHn_STAT.STATE (R381). -/
def dmaChStatState : Fam := { addr := 0x4000D01C, lo := 0, w := 2, acc := .ro, s1 := 0x40, n1 := 32 }
/-- DMA_CHn_STAT.KPEND (R381). -/
def dmaChStatKpend : Fam := { addr := 0x4000D01C, lo := 2, w := 1, acc := .ro, s1 := 0x40, n1 := 32 }
/-- DMA_CHn_STAT.OWNER (R381). -/
def dmaChStatOwner : Fam := { addr := 0x4000D01C, lo := 4, w := 4, acc := .ro, s1 := 0x40, n1 := 32 }
/-- DMA_CHn_STAT.OWNV (R381). -/
def dmaChStatOwnv : Fam := { addr := 0x4000D01C, lo := 8, w := 1, acc := .ro, s1 := 0x40, n1 := 32 }
/-- DMA_CHn_STAT.SIDE (R381). -/
def dmaChStatSide : Fam := { addr := 0x4000D01C, lo := 9, w := 1, acc := .ro, s1 := 0x40, n1 := 32 }
/-- DMA_CHn_STAT.ERRPH (R381). -/
def dmaChStatErrph : Fam := { addr := 0x4000D01C, lo := 10, w := 2, acc := .ro, s1 := 0x40, n1 := 32 }
/-- DMA_CHn_STAT.CODE (R381). -/
def dmaChStatCode : Fam := { addr := 0x4000D01C, lo := 16, w := 8, acc := .ro, s1 := 0x40, n1 := 32 }
/-- DMA_CHn_ERRADDR.ADDR (R381). -/
def dmaChErraddrAddr : Fam := { addr := 0x4000D020, lo := 0, w := 32, acc := .ro, s1 := 0x40, n1 := 32 }
/-- DMA_CHn_POS.HEAD (R381). -/
def dmaChPosHead : Fam := { addr := 0x4000D024, lo := 0, w := 8, acc := .ro, s1 := 0x40, n1 := 32 }
/-- DMA_CHn_POS.DONE (R381). -/
def dmaChPosDone : Fam := { addr := 0x4000D024, lo := 8, w := 20, acc := .ro, s1 := 0x40, n1 := 32 }
/-- DMA_COMMIT.COMMIT (R382). -/
def dmaCommitCommit : Fam := { addr := 0x4000D800, lo := 0, w := 1, acc := .wo }
/-- DMA_STAT.ERR (R382). -/
def dmaStatErr : Fam := { addr := 0x4000D804, lo := 0, w := 1, acc := .w1c }
/-- DMA_STAT.LOCK (R382). -/
def dmaStatLock : Fam := { addr := 0x4000D804, lo := 1, w := 1, acc := .w1c }
/-- DMA_EVT.EVT (R382). -/
def dmaEvtEvt : Fam := { addr := 0x4000D808, lo := 0, w := 32, acc := .w1c }
/-- DMA_ERRCH.CH (R382). -/
def dmaErrchCh : Fam := { addr := 0x4000D80C, lo := 0, w := 5, acc := .ro }
/-- DMA_ERRCH.ID (R382). -/
def dmaErrchId : Fam := { addr := 0x4000D80C, lo := 8, w := 4, acc := .ro }

/-- Every field family of block DMA. -/
def listDma : List Fam :=
  [dmaChSrcAddr, dmaChDstAddr, dmaChCntCnt, dmaChCfgMode, dmaChCfgWidth, dmaChCfgSinc, dmaChCfgDinc, dmaChCfgClass, dmaChCfgPri, dmaChCfgReq, dmaChCfgIe, dmaChRbaseBase, dmaChRsizeSize, dmaChCtlStart, dmaChCtlAbort, dmaChCtlKick, dmaChCtlRelease, dmaChStatState, dmaChStatKpend, dmaChStatOwner, dmaChStatOwnv, dmaChStatSide, dmaChStatErrph, dmaChStatCode] ++
  [dmaChErraddrAddr, dmaChPosHead, dmaChPosDone, dmaCommitCommit, dmaStatErr, dmaStatLock, dmaEvtEvt, dmaErrchCh, dmaErrchId]

/-! ### TWB -/

/-- TWB_CFG.ADDR (R400). -/
def twbCfgAddr : Fam := { addr := 0x4000E000, lo := 0, w := 7, acc := .rws, rst := 0x26 }
/-- TWB_CFG.PEC (R400). -/
def twbCfgPec : Fam := { addr := 0x4000E000, lo := 8, w := 1, acc := .rws }
/-- TWB_CFG.TOEN (R400). -/
def twbCfgToen : Fam := { addr := 0x4000E000, lo := 9, w := 1, acc := .rws, rst := 0x1 }
/-- TWB_CFG.WAKE (R400). -/
def twbCfgWake : Fam := { addr := 0x4000E000, lo := 10, w := 1, acc := .rws }
/-- TWB_COMMIT.COMMIT (R400). -/
def twbCommitCommit : Fam := { addr := 0x4000E004, lo := 0, w := 1, acc := .wo }
/-- TWB_STAT.CLTO (R400). -/
def twbStatClto : Fam := { addr := 0x4000E008, lo := 0, w := 1, acc := .w1c }
/-- TWB_STAT.DLTO (R400). -/
def twbStatDlto : Fam := { addr := 0x4000E008, lo := 1, w := 1, acc := .w1c }
/-- TWB_STAT.PECERR (R400). -/
def twbStatPecerr : Fam := { addr := 0x4000E008, lo := 2, w := 1, acc := .w1c }
/-- TWB_STAT.ACCERR (R400). -/
def twbStatAccerr : Fam := { addr := 0x4000E008, lo := 3, w := 1, acc := .w1c }
/-- TWB_STAT.PARTIAL (R400). -/
def twbStatPartial : Fam := { addr := 0x4000E008, lo := 4, w := 1, acc := .w1c }
/-- TWB_STAT.WOKE (R400). -/
def twbStatWoke : Fam := { addr := 0x4000E008, lo := 5, w := 1, acc := .w1c }
/-- TWB_STAT.NACKF (R400). -/
def twbStatNackf : Fam := { addr := 0x4000E008, lo := 6, w := 1, acc := .w1c }
/-- TWB_STAT.BUSBUSY (R400). -/
def twbStatBusbusy : Fam := { addr := 0x4000E008, lo := 8, w := 1, acc := .ro }
/-- TWB_LAST.CODE (R400). -/
def twbLastCode : Fam := { addr := 0x4000E00C, lo := 0, w := 8, acc := .ro }
/-- TWB_LAST.DIR (R400). -/
def twbLastDir : Fam := { addr := 0x4000E00C, lo := 8, w := 1, acc := .ro }
/-- TWB_LASTADDR.ADDR (R400). -/
def twbLastaddrAddr : Fam := { addr := 0x4000E010, lo := 0, w := 32, acc := .ro }
/-- TWB_PTR.PTR (R400). -/
def twbPtrPtr : Fam := { addr := 0x4000E014, lo := 0, w := 32, acc := .ro }
/-- TWB_ALERT.EN (R400). -/
def twbAlertEn : Fam := { addr := 0x4000E020, lo := 0, w := 4, acc := .rw }
/-- TWB_ALERT.SW (R400). -/
def twbAlertSw : Fam := { addr := 0x4000E020, lo := 8, w := 1, acc := .w1s }
/-- TWB_ALERT.PEND (R400). -/
def twbAlertPend : Fam := { addr := 0x4000E020, lo := 16, w := 1, acc := .w1c }
/-- TWB_ALERT.ARA (R400). -/
def twbAlertAra : Fam := { addr := 0x4000E020, lo := 17, w := 1, acc := .w1c }

/-- Every field family of block TWB. -/
def listTwb : List Fam :=
  [twbCfgAddr, twbCfgPec, twbCfgToen, twbCfgWake, twbCommitCommit, twbStatClto, twbStatDlto, twbStatPecerr, twbStatAccerr, twbStatPartial, twbStatWoke, twbStatNackf, twbStatBusbusy, twbLastCode, twbLastDir, twbLastaddrAddr, twbPtrPtr, twbAlertEn, twbAlertSw, twbAlertPend, twbAlertAra]

/-! ### TWB2 -/

/-- TWB2_OWN.OWNER (R401). -/
def twb2OwnOwner : Fam := { addr := 0x4000E800, lo := 12, w := 4, acc := .ro }
/-- TWB2_OWN.HELD (R401). -/
def twb2OwnHeld : Fam := { addr := 0x4000E800, lo := 16, w := 1, acc := .rw }
/-- TWB2_CFG.SPEED (R401). -/
def twb2CfgSpeed : Fam := { addr := 0x4000E804, lo := 0, w := 2, acc := .rw, resv := .range 0 2 }
/-- TWB2_CFG.TOEN (R401). -/
def twb2CfgToen : Fam := { addr := 0x4000E804, lo := 4, w := 1, acc := .rw, rst := 0x1 }
/-- TWB2_CMD.ADDR (R401). -/
def twb2CmdAddr : Fam := { addr := 0x4000E808, lo := 0, w := 7, acc := .rw }
/-- TWB2_CMD.WLEN (R401). -/
def twb2CmdWlen : Fam := { addr := 0x4000E808, lo := 8, w := 5, acc := .rw, resv := .range 0 16 }
/-- TWB2_CMD.RLEN (R401). -/
def twb2CmdRlen : Fam := { addr := 0x4000E808, lo := 16, w := 5, acc := .rw, resv := .range 0 16 }
/-- TWB2_CMD.GO (R401). -/
def twb2CmdGo : Fam := { addr := 0x4000E808, lo := 31, w := 1, acc := .w1s }
/-- TWB2_STAT.STATE (R401). -/
def twb2StatState : Fam := { addr := 0x4000E80C, lo := 0, w := 1, acc := .ro }
/-- TWB2_STAT.CODE (R401). -/
def twb2StatCode : Fam := { addr := 0x4000E80C, lo := 8, w := 8, acc := .ro }
/-- TWB2_STAT.NPOS (R401). -/
def twb2StatNpos : Fam := { addr := 0x4000E80C, lo := 16, w := 5, acc := .ro }
/-- TWB2_STAT.ARBL (R401). -/
def twb2StatArbl : Fam := { addr := 0x4000E80C, lo := 24, w := 1, acc := .ro }
/-- TWB2_TXk.DATA (R401). -/
def twb2TxData : Fam := { addr := 0x4000E810, lo := 0, w := 32, acc := .rw, s1 := 0x4, n1 := 4 }
/-- TWB2_RXk.DATA (R401). -/
def twb2RxData : Fam := { addr := 0x4000E820, lo := 0, w := 32, acc := .ro, s1 := 0x4, n1 := 4 }

/-- Every field family of block TWB2. -/
def listTwb2 : List Fam :=
  [twb2OwnOwner, twb2OwnHeld, twb2CfgSpeed, twb2CfgToen, twb2CmdAddr, twb2CmdWlen, twb2CmdRlen, twb2CmdGo, twb2StatState, twb2StatCode, twb2StatNpos, twb2StatArbl, twb2TxData, twb2RxData]

/-! ### OTP -/

/-- OTP_STAT.BUSY (R423). -/
def otpStatBusy : Fam := { addr := 0x4000F000, lo := 0, w := 1, acc := .ro }
/-- OTP_STAT.MFAIL (R423). -/
def otpStatMfail : Fam := { addr := 0x4000F000, lo := 1, w := 1, acc := .w1c }
/-- OTP_STAT.CODE (R423). -/
def otpStatCode : Fam := { addr := 0x4000F000, lo := 8, w := 8, acc := .ro }
/-- OTP_MFADDR.OFS (R423). -/
def otpMfaddrOfs : Fam := { addr := 0x4000F004, lo := 0, w := 13, acc := .ro }
/-- OTP_WEAK.COUNT (R423). -/
def otpWeakCount : Fam := { addr := 0x4000F008, lo := 0, w := 12, acc := .ro }
/-- OTP_LOCK.LOCKS (R423). -/
def otpLockLocks : Fam := { addr := 0x4000F00C, lo := 0, w := 7, acc := .st, kinds := .por }
/-- OTP_PADDR.OFS (R423). -/
def otpPaddrOfs : Fam := { addr := 0x4000F400, lo := 0, w := 13, acc := .rw }
/-- OTP_PDATA.DATA (R423). -/
def otpPdataData : Fam := { addr := 0x4000F404, lo := 0, w := 32, acc := .wo }
/-- OTP_PCMD.SRC (R423). -/
def otpPcmdSrc : Fam := { addr := 0x4000F408, lo := 0, w := 1, acc := .wo }
/-- OTP_PCMD.KEY (R423). -/
def otpPcmdKey : Fam := { addr := 0x4000F408, lo := 16, w := 16, acc := .wo }
/-- OTP_RBADV.N (R423). -/
def otpRbadvN : Fam := { addr := 0x4000F40C, lo := 0, w := 9, acc := .wo }

/-- Every field family of block OTP. -/
def listOtp : List Fam :=
  [otpStatBusy, otpStatMfail, otpStatCode, otpMfaddrOfs, otpWeakCount, otpLockLocks, otpPaddrOfs, otpPdataData, otpPcmdSrc, otpPcmdKey, otpRbadvN]

/-! ### LCS -/

/-- LCS_STATE.STATE (R423). -/
def lcsStateState : Fam := { addr := 0x4000F800, lo := 0, w := 3, acc := .ro }
/-- LCS_STATE.BUSY (R423). -/
def lcsStateBusy : Fam := { addr := 0x4000F800, lo := 8, w := 1, acc := .ro }
/-- LCS_STATE.CODE (R423). -/
def lcsStateCode : Fam := { addr := 0x4000F800, lo := 16, w := 8, acc := .ro }
/-- LCS_CMD.TARGET (R423). -/
def lcsCmdTarget : Fam := { addr := 0x4000F804, lo := 0, w := 3, acc := .wo }
/-- LCS_CMD.KEY (R423). -/
def lcsCmdKey : Fam := { addr := 0x4000F804, lo := 16, w := 16, acc := .wo }
/-- LCS_RBRUN.RBVER (R423). -/
def lcsRbrunRbver : Fam := { addr := 0x4000F808, lo := 0, w := 9, acc := .ro }
/-- LCS_RBCNT.COUNT (R423). -/
def lcsRbcntCount : Fam := { addr := 0x4000F80C, lo := 0, w := 9, acc := .ro }
/-- LCS_NONCEk.NONCE (R423). -/
def lcsNonceNonce : Fam := { addr := 0x4000FC00, lo := 0, w := 32, acc := .ro, s1 := 0x4, n1 := 4 }
/-- LCS_ACMD.OP (R423). -/
def lcsAcmdOp : Fam := { addr := 0x4000FC10, lo := 0, w := 8, acc := .rw }
/-- LCS_ACMD.ARG (R423). -/
def lcsAcmdArg : Fam := { addr := 0x4000FC10, lo := 8, w := 8, acc := .rw }
/-- LCS_AADDR.ADDR (R423). -/
def lcsAaddrAddr : Fam := { addr := 0x4000FC14, lo := 0, w := 32, acc := .rw }
/-- LCS_ADATA.DATA (R423). -/
def lcsAdataData : Fam := { addr := 0x4000FC18, lo := 0, w := 32, acc := .rw }
/-- LCS_APUBk.WORD (R423). -/
def lcsApubWord : Fam := { addr := 0x4000FC40, lo := 0, w := 32, acc := .rw, s1 := 0x4, n1 := 16 }
/-- LCS_ASIGk.WORD (R423). -/
def lcsAsigWord : Fam := { addr := 0x4000FC80, lo := 0, w := 32, acc := .rw, s1 := 0x4, n1 := 16 }
/-- LCS_AGO.GO (R423). -/
def lcsAgoGo : Fam := { addr := 0x4000FCC0, lo := 0, w := 1, acc := .w1s }
/-- LCS_ASTAT.BUSY (R423). -/
def lcsAstatBusy : Fam := { addr := 0x4000FCC4, lo := 0, w := 1, acc := .ro }
/-- LCS_ASTAT.AFAIL (R423). -/
def lcsAstatAfail : Fam := { addr := 0x4000FCC4, lo := 1, w := 1, acc := .w1c }
/-- LCS_ASTAT.CODE (R423). -/
def lcsAstatCode : Fam := { addr := 0x4000FCC4, lo := 8, w := 8, acc := .ro }

/-- Every field family of block LCS. -/
def listLcs : List Fam :=
  [lcsStateState, lcsStateBusy, lcsStateCode, lcsCmdTarget, lcsCmdKey, lcsRbrunRbver, lcsRbcntCount, lcsNonceNonce, lcsAcmdOp, lcsAcmdArg, lcsAaddrAddr, lcsAdataData, lcsApubWord, lcsAsigWord, lcsAgoGo, lcsAstatBusy, lcsAstatAfail, lcsAstatCode]

/-! ### CRY -/

/-- CRY_CMD.OP (R424). -/
def cryCmdOp : Fam := { addr := 0x40014000, lo := 0, w := 4, acc := .rw }
/-- CRY_CMD.KSEL (R424). -/
def cryCmdKsel : Fam := { addr := 0x40014000, lo := 4, w := 2, acc := .rw }
/-- CRY_CMD.START (R424). -/
def cryCmdStart : Fam := { addr := 0x40014000, lo := 31, w := 1, acc := .w1s }
/-- CRY_SRC.ADDR (R424). -/
def crySrcAddr : Fam := { addr := 0x40014004, lo := 0, w := 32, acc := .rw }
/-- CRY_DST.ADDR (R424). -/
def cryDstAddr : Fam := { addr := 0x40014008, lo := 0, w := 32, acc := .rw }
/-- CRY_LEN.LEN (R424). -/
def cryLenLen : Fam := { addr := 0x4001400C, lo := 0, w := 20, acc := .rw }
/-- CRY_STAT.BUSY (R424). -/
def cryStatBusy : Fam := { addr := 0x40014010, lo := 0, w := 1, acc := .ro }
/-- CRY_STAT.VALID (R424). -/
def cryStatValid : Fam := { addr := 0x40014010, lo := 1, w := 1, acc := .ro }
/-- CRY_STAT.CODE (R424). -/
def cryStatCode : Fam := { addr := 0x40014010, lo := 8, w := 8, acc := .ro }
/-- CRY_STAT.RNGFAIL (R424). -/
def cryStatRngfail : Fam := { addr := 0x40014010, lo := 16, w := 1, acc := .w1c }
/-- CRY_SLOTSTAT.LOADED (R424). -/
def crySlotstatLoaded : Fam := { addr := 0x40014014, lo := 0, w := 4, acc := .ro }
/-- CRY_SLOTSTAT.OWNERk (R424). -/
def crySlotstatOwner (m : Nat) : Fam := { addr := 0x40014014, lo := 16 + 4 * m, w := 4, acc := .ro }
/-- CRY_KEYk.WORD (R424). -/
def cryKeyWord : Fam := { addr := 0x40014020, lo := 0, w := 32, acc := .wo, s1 := 0x4, n1 := 4 }
/-- CRY_KEYLD.SLOT (R424). -/
def cryKeyldSlot : Fam := { addr := 0x40014030, lo := 0, w := 2, acc := .wo }
/-- CRY_KEYLD.LOAD (R424). -/
def cryKeyldLoad : Fam := { addr := 0x40014030, lo := 8, w := 1, acc := .w1s }
/-- CRY_KEYLD.CLR (R424). -/
def cryKeyldClr : Fam := { addr := 0x40014030, lo := 9, w := 1, acc := .w1s }

/-- Every field family of block CRY. -/
def listCry : List Fam :=
  [cryCmdOp, cryCmdKsel, cryCmdStart, crySrcAddr, cryDstAddr, cryLenLen, cryStatBusy, cryStatValid, cryStatCode, cryStatRngfail, crySlotstatLoaded, crySlotstatOwner 0, crySlotstatOwner 1, crySlotstatOwner 2, crySlotstatOwner 3, cryKeyWord, cryKeyldSlot, cryKeyldLoad, cryKeyldClr]

/-! ### FLT -/

/-- FLT_ERRSRC.SRC (R440). -/
def fltErrsrcSrc : Fam := { addr := 0x40010000, lo := 0, w := 32, acc := .ro }
/-- FLT_SEV.SEV (R440). -/
def fltSevSev : Fam := { addr := 0x40010004, lo := 0, w := 32, acc := .w1c }
/-- FLT_STAT.CARRY (R440). -/
def fltStatCarry : Fam := { addr := 0x40010008, lo := 0, w := 1, acc := .w1c }
/-- FLT_STAT.CARRYSRC (R440). -/
def fltStatCarrysrc : Fam := { addr := 0x40010008, lo := 8, w := 5, acc := .ro }
/-- FLT_STAT.ERRLOW (R440). -/
def fltStatErrlow : Fam := { addr := 0x40010008, lo := 16, w := 1, acc := .ro }
/-- FLT_CTL.FORCE (R440). -/
def fltCtlForce : Fam := { addr := 0x4001000C, lo := 0, w := 1, acc := .rw }
/-- FLT_IEN.IEN (R440). -/
def fltIenIen : Fam := { addr := 0x40010010, lo := 0, w := 32, acc := .rw }
/-- FLT_UST.US (R440). -/
def fltUstUs : Fam := { addr := 0x40010014, lo := 0, w := 32, acc := .ro }
/-- FLT_SRCs_CFG.NM1 (R440). -/
def fltSrcCfgNm1 : Fam := { addr := 0x40010400, lo := 0, w := 3, acc := .rw, rst := 0x2, s1 := 0x8, n1 := 24 }
/-- FLT_SRCs_CFG.T (R440). -/
def fltSrcCfgT : Fam := { addr := 0x40010400, lo := 16, w := 16, acc := .rw, resv := .range 1 65535, rst := 0x3E8, s1 := 0x8, n1 := 24 }
/-- FLT_SRCs_STAT.DEPTH (R440). -/
def fltSrcStatDepth : Fam := { addr := 0x40010404, lo := 0, w := 4, acc := .ro, s1 := 0x8, n1 := 24 }
/-- FLT_SRCs_STAT.LASTSEV (R440). -/
def fltSrcStatLastsev : Fam := { addr := 0x40010404, lo := 8, w := 1, acc := .ro, s1 := 0x8, n1 := 24 }
/-- FLT_SRCs_STAT.EVCNT (R440). -/
def fltSrcStatEvcnt : Fam := { addr := 0x40010404, lo := 16, w := 8, acc := .rc, s1 := 0x8, n1 := 24 }
/-- FLT_QSEL.SRC (R440). -/
def fltQselSrc : Fam := { addr := 0x40010800, lo := 0, w := 5, acc := .rw }
/-- FLT_QkUS.US (R440). -/
def fltQusUs : Fam := { addr := 0x40010810, lo := 0, w := 32, acc := .ro, s1 := 0x10, n1 := 8 }
/-- FLT_QkCYC.CYCLE (R440). -/
def fltQcycCycle : Fam := { addr := 0x40010814, lo := 0, w := 32, acc := .ro, s1 := 0x10, n1 := 8 }
/-- FLT_QkPH.PHASE (R440). -/
def fltQphPhase : Fam := { addr := 0x40010818, lo := 16, w := 16, acc := .ro, s1 := 0x10, n1 := 8 }
/-- FLT_SAFECFG.TDISC (R441). -/
def fltSafecfgTdisc : Fam := { addr := 0x40010C00, lo := 0, w := 9, acc := .rwl, kinds := .por, resv := .range 1 500, rst := 0x64 }
/-- FLT_SAFECFG.LOCK (R441). -/
def fltSafecfgLock : Fam := { addr := 0x40010C00, lo := 31, w := 1, acc := .st, kinds := .por }
/-- FLT_SAFESTAT.LVA (R441). -/
def fltSafestatLva : Fam := { addr := 0x40010C04, lo := 0, w := 1, acc := .ro, kinds := .pb }
/-- FLT_SAFESTAT.LVB (R441). -/
def fltSafestatLvb : Fam := { addr := 0x40010C04, lo := 1, w := 1, acc := .ro, kinds := .pb }
/-- FLT_SAFESTAT.DEMA (R441). -/
def fltSafestatDema : Fam := { addr := 0x40010C04, lo := 2, w := 1, acc := .ro, kinds := .pb }
/-- FLT_SAFESTAT.DEMB (R441). -/
def fltSafestatDemb : Fam := { addr := 0x40010C04, lo := 3, w := 1, acc := .ro, kinds := .pb }
/-- FLT_SAFESTAT.DEMAND (R441). -/
def fltSafestatDemand : Fam := { addr := 0x40010C04, lo := 4, w := 1, acc := .ro, kinds := .pb }
/-- FLT_SAFESTAT.DISAG (R441). -/
def fltSafestatDisag : Fam := { addr := 0x40010C04, lo := 5, w := 1, acc := .ro, kinds := .pb }
/-- FLT_SAFESTAT.DISCREPANCY (R441). -/
def fltSafestatDiscrepancy : Fam := { addr := 0x40010C04, lo := 8, w := 1, acc := .w1c, kinds := .pb }
/-- FLT_SAFESTAT.DEMEV (R441). -/
def fltSafestatDemev : Fam := { addr := 0x40010C04, lo := 9, w := 1, acc := .w1c, kinds := .pb }
/-- FLT_SAFECNT.DISAG (R441). -/
def fltSafecntDisag : Fam := { addr := 0x40010C08, lo := 0, w := 16, acc := .rc, kinds := .pb }
/-- FLT_SAFECNT.DEMCNT (R441). -/
def fltSafecntDemcnt : Fam := { addr := 0x40010C08, lo := 16, w := 16, acc := .rc, kinds := .pb }
/-- FLT_SAFECYC.CYCLE (R441). -/
def fltSafecycCycle : Fam := { addr := 0x40010C0C, lo := 0, w := 32, acc := .ro, kinds := .pb }
/-- FLT_SAFEPH.PHASE (R441). -/
def fltSafephPhase : Fam := { addr := 0x40010C10, lo := 16, w := 16, acc := .ro, kinds := .pb }
/-- FLT_SAFEIEN.IEN (R441). -/
def fltSafeienIen : Fam := { addr := 0x40010C14, lo := 8, w := 2, acc := .rw, kinds := .pb }

/-- Every field family of block FLT. -/
def listFlt : List Fam :=
  [fltErrsrcSrc, fltSevSev, fltStatCarry, fltStatCarrysrc, fltStatErrlow, fltCtlForce, fltIenIen, fltUstUs, fltSrcCfgNm1, fltSrcCfgT, fltSrcStatDepth, fltSrcStatLastsev, fltSrcStatEvcnt, fltQselSrc, fltQusUs, fltQcycCycle, fltQphPhase, fltSafecfgTdisc, fltSafecfgLock, fltSafestatLva, fltSafestatLvb, fltSafestatDema, fltSafestatDemb, fltSafestatDemand] ++
  [fltSafestatDisag, fltSafestatDiscrepancy, fltSafestatDemev, fltSafecntDisag, fltSafecntDemcnt, fltSafecycCycle, fltSafephPhase, fltSafeienIen]

/-! ### RTC -/

/-- RTC_SEC.SEC (R455). -/
def rtcSecSec : Fam := { addr := 0x40011000, lo := 0, w := 32, acc := .ro, kinds := .none }
/-- RTC_SUB.SUB (R455). -/
def rtcSubSub : Fam := { addr := 0x40011004, lo := 0, w := 15, acc := .ro, kinds := .none }
/-- RTC_CAL0.SECS (R455). -/
def rtcCal0Secs : Fam := { addr := 0x40011008, lo := 0, w := 6, acc := .ro, kinds := .none }
/-- RTC_CAL0.MIN (R455). -/
def rtcCal0Min : Fam := { addr := 0x40011008, lo := 8, w := 6, acc := .ro, kinds := .none }
/-- RTC_CAL0.HOUR (R455). -/
def rtcCal0Hour : Fam := { addr := 0x40011008, lo := 16, w := 5, acc := .ro, kinds := .none }
/-- RTC_CAL0.WDAY (R455). -/
def rtcCal0Wday : Fam := { addr := 0x40011008, lo := 24, w := 3, acc := .ro, kinds := .none, rst := 0x6 }
/-- RTC_CAL1.DAY (R455). -/
def rtcCal1Day : Fam := { addr := 0x4001100C, lo := 0, w := 5, acc := .ro, kinds := .none, rst := 0x1 }
/-- RTC_CAL1.MON (R455). -/
def rtcCal1Mon : Fam := { addr := 0x4001100C, lo := 8, w := 4, acc := .ro, kinds := .none, rst := 0x1 }
/-- RTC_CAL1.YEAR (R455). -/
def rtcCal1Year : Fam := { addr := 0x4001100C, lo := 16, w := 12, acc := .ro, kinds := .none, rst := 0x7D0 }
/-- RTC_SETSEC.SEC (R455). -/
def rtcSetsecSec : Fam := { addr := 0x40011010, lo := 0, w := 32, acc := .rws, kinds := .none }
/-- RTC_COMMIT.COMMIT (R455). -/
def rtcCommitCommit : Fam := { addr := 0x40011014, lo := 0, w := 1, acc := .wo, kinds := .none }
/-- RTC_TRIM.TRIM (R455). -/
def rtcTrimTrim : Fam := { addr := 0x40011018, lo := 0, w := 16, acc := .rw, kinds := .none }
/-- RTC_TRCTL.START (R455). -/
def rtcTrctlStart : Fam := { addr := 0x40011020, lo := 0, w := 1, acc := .w1s, kinds := .none }
/-- RTC_TRCTL.ABORT (R455). -/
def rtcTrctlAbort : Fam := { addr := 0x40011020, lo := 1, w := 1, acc := .w1s, kinds := .none }
/-- RTC_TRCTL.AUTO (R455). -/
def rtcTrctlAuto : Fam := { addr := 0x40011020, lo := 4, w := 1, acc := .rw, kinds := .none }
/-- RTC_TRCTL.K (R455). -/
def rtcTrctlK : Fam := { addr := 0x40011020, lo := 8, w := 5, acc := .rw, kinds := .none, rst := 0xE }
/-- RTC_TRSTAT.STATE (R455). -/
def rtcTrstatState : Fam := { addr := 0x40011024, lo := 0, w := 2, acc := .ro, kinds := .none }
/-- RTC_TRSTAT.RESULT (R455). -/
def rtcTrstatResult : Fam := { addr := 0x40011024, lo := 4, w := 2, acc := .ro, kinds := .none }
/-- RTC_TRSTAT.REASON (R455). -/
def rtcTrstatReason : Fam := { addr := 0x40011024, lo := 8, w := 3, acc := .ro, kinds := .none }
/-- RTC_TRSTAT.TRSAT (R455). -/
def rtcTrstatTrsat : Fam := { addr := 0x40011024, lo := 12, w := 1, acc := .ro, kinds := .none }
/-- RTC_TRERR.ERR (R455). -/
def rtcTrerrErr : Fam := { addr := 0x40011028, lo := 0, w := 16, acc := .ro, kinds := .none }
/-- RTC_ALMn_TIME.A (R455). -/
def rtcAlmTimeA : Fam := { addr := 0x40011030, lo := 0, w := 32, acc := .rw, kinds := .none, s1 := 0x10, n1 := 2 }
/-- RTC_ALMn_CTL.EN (R455). -/
def rtcAlmCtlEn : Fam := { addr := 0x40011034, lo := 0, w := 1, acc := .rw, kinds := .none, s1 := 0x10, n1 := 2 }
/-- RTC_ALMn_CTL.REPEAT (R455). -/
def rtcAlmCtlRepeat : Fam := { addr := 0x40011034, lo := 8, w := 24, acc := .rw, kinds := .none, s1 := 0x10, n1 := 2 }
/-- RTC_STAT.TVALID (R455). -/
def rtcStatTvalid : Fam := { addr := 0x40011050, lo := 0, w := 1, acc := .ro, kinds := .none }
/-- RTC_STAT.LOCKOUT (R455). -/
def rtcStatLockout : Fam := { addr := 0x40011050, lo := 1, w := 1, acc := .ro, kinds := .none }
/-- RTC_STAT.OSCOK (R455). -/
def rtcStatOscok : Fam := { addr := 0x40011050, lo := 2, w := 1, acc := .ro, kinds := .none }
/-- RTC_STAT.ALMF0 (R455). -/
def rtcStatAlmf0 : Fam := { addr := 0x40011050, lo := 8, w := 1, acc := .w1c, kinds := .none }
/-- RTC_STAT.ALMF1 (R455). -/
def rtcStatAlmf1 : Fam := { addr := 0x40011050, lo := 9, w := 1, acc := .w1c, kinds := .none }
/-- RTC_STAT.LATE0 (R455). -/
def rtcStatLate0 : Fam := { addr := 0x40011050, lo := 10, w := 1, acc := .w1c, kinds := .none }
/-- RTC_STAT.LATE1 (R455). -/
def rtcStatLate1 : Fam := { addr := 0x40011050, lo := 11, w := 1, acc := .w1c, kinds := .none }
/-- RTC_STAT.SWV (R455). -/
def rtcStatSwv : Fam := { addr := 0x40011050, lo := 12, w := 1, acc := .w1c, kinds := .none }
/-- RTC_STAT.TRDONE (R455). -/
def rtcStatTrdone : Fam := { addr := 0x40011050, lo := 13, w := 1, acc := .w1c, kinds := .none }
/-- RTC_STAT.OSCSTOP (R455). -/
def rtcStatOscstop : Fam := { addr := 0x40011050, lo := 14, w := 1, acc := .w1c, kinds := .none }
/-- RTC_IEN.IEN (R455). -/
def rtcIenIen : Fam := { addr := 0x40011054, lo := 8, w := 7, acc := .rw, kinds := .none }
/-- RTC_SWSEC.SEC (R455). -/
def rtcSwsecSec : Fam := { addr := 0x40011058, lo := 0, w := 32, acc := .ro, kinds := .none }
/-- RTC_SWSUB.SUB (R455). -/
def rtcSwsubSub : Fam := { addr := 0x4001105C, lo := 0, w := 15, acc := .ro, kinds := .none }
/-- RTC_SWSUB.STV (R455). -/
def rtcSwsubStv : Fam := { addr := 0x4001105C, lo := 15, w := 1, acc := .ro, kinds := .none }
/-- RTC_SWSUB.COUNT (R455). -/
def rtcSwsubCount : Fam := { addr := 0x4001105C, lo := 16, w := 16, acc := .ro, kinds := .none }
/-- RTC_SWCYC.CYCLE (R455). -/
def rtcSwcycCycle : Fam := { addr := 0x40011060, lo := 0, w := 32, acc := .ro, kinds := .none }
/-- RTC_SWPH.PHASE (R455). -/
def rtcSwphPhase : Fam := { addr := 0x40011064, lo := 16, w := 16, acc := .ro, kinds := .none }

/-- Every field family of block RTC. -/
def listRtc : List Fam :=
  [rtcSecSec, rtcSubSub, rtcCal0Secs, rtcCal0Min, rtcCal0Hour, rtcCal0Wday, rtcCal1Day, rtcCal1Mon, rtcCal1Year, rtcSetsecSec, rtcCommitCommit, rtcTrimTrim, rtcTrctlStart, rtcTrctlAbort, rtcTrctlAuto, rtcTrctlK, rtcTrstatState, rtcTrstatResult, rtcTrstatReason, rtcTrstatTrsat, rtcTrerrErr, rtcAlmTimeA, rtcAlmCtlEn, rtcAlmCtlRepeat] ++
  [rtcStatTvalid, rtcStatLockout, rtcStatOscok, rtcStatAlmf0, rtcStatAlmf1, rtcStatLate0, rtcStatLate1, rtcStatSwv, rtcStatTrdone, rtcStatOscstop, rtcIenIen, rtcSwsecSec, rtcSwsubSub, rtcSwsubStv, rtcSwsubCount, rtcSwcycCycle, rtcSwphPhase]

/-! ### FAN -/

/-- FAN_CTL.MODE (R469). -/
def fanCtlMode : Fam := { addr := 0x40012000, lo := 0, w := 2, acc := .rw }
/-- FAN_CTL.LOCK (R469). -/
def fanCtlLock : Fam := { addr := 0x40012000, lo := 8, w := 1, acc := .w1c }
/-- FAN_CFG.POLES (R469). -/
def fanCfgPoles : Fam := { addr := 0x40012004, lo := 0, w := 4, acc := .rws, rst := 0x2 }
/-- FAN_CFG.FGEN (R469). -/
def fanCfgFgen : Fam := { addr := 0x40012004, lo := 4, w := 1, acc := .rws }
/-- FAN_CFG.PPR (R469). -/
def fanCfgPpr : Fam := { addr := 0x40012004, lo := 5, w := 2, acc := .rws, rst := 0x1 }
/-- FAN_CFG.ILIM (R469). -/
def fanCfgIlim : Fam := { addr := 0x40012004, lo := 8, w := 4, acc := .rws, rst := 0xF }
/-- FAN_START.ALIGNT (R469). -/
def fanStartAlignt : Fam := { addr := 0x40012008, lo := 0, w := 8, acc := .rws, rst := 0xC8 }
/-- FAN_START.ALIGND (R469). -/
def fanStartAlignd : Fam := { addr := 0x40012008, lo := 8, w := 8, acc := .rws, rst := 0x40 }
/-- FAN_START.RAMPT (R469). -/
def fanStartRampt : Fam := { addr := 0x40012008, lo := 16, w := 8, acc := .rws, rst := 0x32 }
/-- FAN_START.BKOFF (R469). -/
def fanStartBkoff : Fam := { addr := 0x40012008, lo := 24, w := 8, acc := .rws, rst := 0x5 }
/-- FAN_SPD.MINSPD (R469). -/
def fanSpdMinspd : Fam := { addr := 0x4001200C, lo := 0, w := 16, acc := .rws, rst := 0x320 }
/-- FAN_SPD.MAXSPD (R469). -/
def fanSpdMaxspd : Fam := { addr := 0x4001200C, lo := 16, w := 16, acc := .rws, rst := 0xFA0 }
/-- FAN_LOOP.TMO (R469). -/
def fanLoopTmo : Fam := { addr := 0x40012010, lo := 0, w := 8, acc := .rws, rst := 0xA }
/-- FAN_LOOP.KI (R469). -/
def fanLoopKi : Fam := { addr := 0x40012010, lo := 8, w := 8, acc := .rws, rst := 0x10 }
/-- FAN_FIX.SPD (R469). -/
def fanFixSpd : Fam := { addr := 0x40012014, lo := 0, w := 16, acc := .rw }
/-- FAN_COMMIT.COMMIT (R469). -/
def fanCommitCommit : Fam := { addr := 0x40012018, lo := 0, w := 1, acc := .wo }
/-- FAN_STAT.STATE (R469). -/
def fanStatState : Fam := { addr := 0x40012020, lo := 0, w := 3, acc := .ro }
/-- FAN_STAT.SRC (R469). -/
def fanStatSrc : Fam := { addr := 0x40012020, lo := 4, w := 1, acc := .ro }
/-- FAN_STAT.TRY (R469). -/
def fanStatTry : Fam := { addr := 0x40012020, lo := 8, w := 3, acc := .ro, rst := 0x1 }
/-- FAN_STAT.FAN_STALL (R469). -/
def fanStatFanStall : Fam := { addr := 0x40012020, lo := 16, w := 1, acc := .w1c }
/-- FAN_STAT.TACH_LOST (R469). -/
def fanStatTachLost : Fam := { addr := 0x40012020, lo := 17, w := 1, acc := .w1c }
/-- FAN_STAT.OC (R469). -/
def fanStatOc : Fam := { addr := 0x40012020, lo := 18, w := 1, acc := .w1c }
/-- FAN_STAT.OT (R469). -/
def fanStatOt : Fam := { addr := 0x40012020, lo := 19, w := 1, acc := .w1c }
/-- FAN_STAT.BEMF_LOST (R469). -/
def fanStatBemfLost : Fam := { addr := 0x40012020, lo := 24, w := 1, acc := .w1c }
/-- FAN_STAT.LOOP_LOST (R469). -/
def fanStatLoopLost : Fam := { addr := 0x40012020, lo := 25, w := 1, acc := .w1c }
/-- FAN_STAT.ZSTALE (R469). -/
def fanStatZstale : Fam := { addr := 0x40012020, lo := 26, w := 1, acc := .w1c }
/-- FAN_STAT.VMUV (R469). -/
def fanStatVmuv : Fam := { addr := 0x40012020, lo := 27, w := 1, acc := .w1c }
/-- FAN_STAT.ILIMACT (R469). -/
def fanStatIlimact : Fam := { addr := 0x40012020, lo := 28, w := 1, acc := .ro }
/-- FAN_SPEED.SPEED (R469). -/
def fanSpeedSpeed : Fam := { addr := 0x40012024, lo := 0, w := 16, acc := .ro }
/-- FAN_SPEED.DEMAND (R469). -/
def fanSpeedDemand : Fam := { addr := 0x40012024, lo := 16, w := 16, acc := .ro }
/-- FAN_DUTY.DUTY (R469). -/
def fanDutyDuty : Fam := { addr := 0x40012028, lo := 0, w := 10, acc := .ro }
/-- FAN_IEN.IEN (R469). -/
def fanIenIen : Fam := { addr := 0x4001202C, lo := 16, w := 12, acc := .rw }
/-- FAN_Zk_SRC.EN (R470). -/
def fanZSrcEn : Fam := { addr := 0x40012100, lo := 0, w := 1, acc := .rws, s1 := 0x20, n1 := 8 }
/-- FAN_Zk_SRC.CONV (R470). -/
def fanZSrcConv : Fam := { addr := 0x40012100, lo := 1, w := 1, acc := .rws, s1 := 0x20, n1 := 8 }
/-- FAN_Zk_SRC.CH (R470). -/
def fanZSrcCh : Fam := { addr := 0x40012100, lo := 2, w := 5, acc := .rws, s1 := 0x20, n1 := 8 }
/-- FAN_Zk_X01.X0 (R470). -/
def fanZX01X0 : Fam := { addr := 0x40012104, lo := 0, w := 16, acc := .rws, s1 := 0x20, n1 := 8 }
/-- FAN_Zk_X01.X1 (R470). -/
def fanZX01X1 : Fam := { addr := 0x40012104, lo := 16, w := 16, acc := .rws, s1 := 0x20, n1 := 8 }
/-- FAN_Zk_X23.X2 (R470). -/
def fanZX23X2 : Fam := { addr := 0x40012108, lo := 0, w := 16, acc := .rws, s1 := 0x20, n1 := 8 }
/-- FAN_Zk_X23.X3 (R470). -/
def fanZX23X3 : Fam := { addr := 0x40012108, lo := 16, w := 16, acc := .rws, s1 := 0x20, n1 := 8 }
/-- FAN_Zk_D01.D0 (R470). -/
def fanZD01D0 : Fam := { addr := 0x4001210C, lo := 0, w := 16, acc := .rws, s1 := 0x20, n1 := 8 }
/-- FAN_Zk_D01.D1 (R470). -/
def fanZD01D1 : Fam := { addr := 0x4001210C, lo := 16, w := 16, acc := .rws, s1 := 0x20, n1 := 8 }
/-- FAN_Zk_D23.D2 (R470). -/
def fanZD23D2 : Fam := { addr := 0x40012110, lo := 0, w := 16, acc := .rws, s1 := 0x20, n1 := 8 }
/-- FAN_Zk_D23.D3 (R470). -/
def fanZD23D3 : Fam := { addr := 0x40012110, lo := 16, w := 16, acc := .rws, s1 := 0x20, n1 := 8 }

/-- Every field family of block FAN. -/
def listFan : List Fam :=
  [fanCtlMode, fanCtlLock, fanCfgPoles, fanCfgFgen, fanCfgPpr, fanCfgIlim, fanStartAlignt, fanStartAlignd, fanStartRampt, fanStartBkoff, fanSpdMinspd, fanSpdMaxspd, fanLoopTmo, fanLoopKi, fanFixSpd, fanCommitCommit, fanStatState, fanStatSrc, fanStatTry, fanStatFanStall, fanStatTachLost, fanStatOc, fanStatOt, fanStatBemfLost] ++
  [fanStatLoopLost, fanStatZstale, fanStatVmuv, fanStatIlimact, fanSpeedSpeed, fanSpeedDemand, fanDutyDuty, fanIenIen, fanZSrcEn, fanZSrcConv, fanZSrcCh, fanZX01X0, fanZX01X1, fanZX23X2, fanZX23X3, fanZD01D0, fanZD01D1, fanZD23D2, fanZD23D3]

/-! ### TMR -/

/-- TMR_nOWN.OWNER (R482). -/
def tmrOwnOwner : Fam := { addr := 0x40015000, lo := 12, w := 4, acc := .ro, s1 := 0x40, n1 := 8 }
/-- TMR_nOWN.HELD (R482). -/
def tmrOwnHeld : Fam := { addr := 0x40015000, lo := 16, w := 1, acc := .rw, s1 := 0x40, n1 := 8 }
/-- TMR_nCFG.EN (R494). -/
def tmrCfgEn : Fam := { addr := 0x40015004, lo := 0, w := 1, acc := .rw, s1 := 0x40, n1 := 8 }
/-- TMR_nCFG.CLK (R494). -/
def tmrCfgClk : Fam := { addr := 0x40015004, lo := 1, w := 1, acc := .rw, s1 := 0x40, n1 := 8 }
/-- TMR_nCFG.MODE (R494). -/
def tmrCfgMode : Fam := { addr := 0x40015004, lo := 2, w := 2, acc := .rw, s1 := 0x40, n1 := 8 }
/-- TMR_nTOP.TOP (R494). -/
def tmrTopTop : Fam := { addr := 0x40015008, lo := 0, w := 32, acc := .rw, rst := 0xFFFFFFFF, s1 := 0x40, n1 := 8 }
/-- TMR_nCMP.CMP (R494). -/
def tmrCmpCmp : Fam := { addr := 0x4001500C, lo := 0, w := 32, acc := .rw, s1 := 0x40, n1 := 8 }
/-- TMR_nCNT.CNT (R494). -/
def tmrCntCnt : Fam := { addr := 0x40015010, lo := 0, w := 32, acc := .rw, s1 := 0x40, n1 := 8 }
/-- TMR_nCAP.CAP (R494). -/
def tmrCapCap : Fam := { addr := 0x40015014, lo := 0, w := 32, acc := .ro, s1 := 0x40, n1 := 8 }
/-- TMR_nSTAT.CMPF (R494). -/
def tmrStatCmpf : Fam := { addr := 0x40015018, lo := 0, w := 1, acc := .w1c, s1 := 0x40, n1 := 8 }
/-- TMR_nSTAT.WRAPF (R494). -/
def tmrStatWrapf : Fam := { addr := 0x40015018, lo := 1, w := 1, acc := .w1c, s1 := 0x40, n1 := 8 }
/-- TMR_nSTAT.CAPF (R494). -/
def tmrStatCapf : Fam := { addr := 0x40015018, lo := 2, w := 1, acc := .w1c, s1 := 0x40, n1 := 8 }
/-- TMR_nSTAT.CAPOVR (R494). -/
def tmrStatCapovr : Fam := { addr := 0x40015018, lo := 3, w := 1, acc := .w1c, s1 := 0x40, n1 := 8 }

/-- Every field family of block TMR. -/
def listTmr : List Fam :=
  [tmrOwnOwner, tmrOwnHeld, tmrCfgEn, tmrCfgClk, tmrCfgMode, tmrTopTop, tmrCmpCmp, tmrCntCnt, tmrCapCap, tmrStatCmpf, tmrStatWrapf, tmrStatCapf, tmrStatCapovr]

end Sys2Proof.Machine.F
end

