-- ==== Sys2Proof/Machine/Tab.lean ====
section
/-! DEFINITION. Sparse tables: lists of key and value in rising key order, the one shape in which State holds memory, the register file and every other sparse collection. -/

namespace Sys2Proof.Machine

/-- A sparse table: keys strictly rising. What an unlisted key stands for is each table's own default. -/
abbrev Tab (α : Type) := List (Nat × α)

/-- The value listed for a key. -/
def Tab.get {α : Type} : Tab α → Nat → Option α
  | [], _ => none
  | (k, v) :: t, q => if q = k then some v else if q < k then none else Tab.get t q

/-- List a value for a key, keeping the keys in rising order. -/
def Tab.set {α : Type} : Tab α → Nat → α → Tab α
  | [], q, x => [(q, x)]
  | (k, v) :: t, q, x =>
    if q < k then (q, x) :: (k, v) :: t
    else if q = k then (q, x) :: t
    else (k, v) :: Tab.set t q x

/-- Drop the entry of a key. -/
def Tab.erase {α : Type} : Tab α → Nat → Tab α
  | [], _ => []
  | (k, v) :: t, q => if q < k then (k, v) :: t else if q = k then t else (k, v) :: Tab.erase t q

/-- Every key of the table lies above `b`, and the keys rise strictly. -/
def Tab.risingFrom {α : Type} : Option Nat → Tab α → Bool
  | _, [] => true
  | none, (k, _) :: t => Tab.risingFrom (some k) t
  | some b, (k, _) :: t => decide (b < k) && Tab.risingFrom (some k) t

/-- The keys rise strictly. -/
def Tab.rising {α : Type} (t : Tab α) : Bool := Tab.risingFrom none t

/-- Set a key to a value, where `d` is what an unlisted key stands for: that value is never listed. -/
def Tab.put {α : Type} [DecidableEq α] (d : α) (t : Tab α) (k : Nat) (v : α) : Tab α :=
  if v = d then Tab.erase t k else Tab.set t k v

/-- The canonical form for default `d`: keys rise strictly and no entry equals the default. -/
def Tab.canon {α : Type} [DecidableEq α] (d : α) (t : Tab α) : Bool :=
  Tab.rising t && t.all (fun e => decide (e.2 ≠ d))

/-- Read a key, where `d` is what an unlisted key stands for. -/
def Tab.val {α : Type} (d : α) (t : Tab α) (k : Nat) : α := (Tab.get t k).getD d

/-- A set of numbers as a rising list without repeats. -/
abbrev NSet := List Nat

/-- Whether a number is in the set. -/
def NSet.has : NSet → Nat → Bool
  | [], _ => false
  | k :: t, q => if q = k then true else if q < k then false else NSet.has t q

/-- Add a number. -/
def NSet.add : NSet → Nat → NSet
  | [], q => [q]
  | k :: t, q => if q < k then q :: k :: t else if q = k then k :: t else k :: NSet.add t q

/-- Remove a number. -/
def NSet.del : NSet → Nat → NSet
  | [], _ => []
  | k :: t, q => if q < k then k :: t else if q = k then t else k :: NSet.del t q

end Sys2Proof.Machine
end

