-- ==== Sys2Proof/Machine/State.lean ====
section
/-! DEFINITION. The state of the block: every register field, memory and FIFO the spec gives the TZE816, and the state behind them that the rules speak of. Plain data. -/

namespace Sys2Proof.Machine

/-- Why a step stops with a fault. The spec names no behaviour that stops the block: every refused access has a completion code (R15), so no meaning raises one. Safe. -/
inductive Fault where
  /-- Raised by no meaning: kept for the host's interface. Safe. -/
  | none
deriving DecidableEq, Repr

/-- Why a step refuses a command. -/
inductive Refusal where
  /-- Raised by an arm of `exec` whose command has no meaning yet. Safe: the machine stops. -/
  | notModelled (mnemonic : String)
deriving DecidableEq, Repr

/-- What the last access answered (R115): the completion code and, for a read, the data. The block's answer port (DESIGN CHOICE, log 3). -/
structure Resp where
  /-- The completion code of the last access (R15, R115). -/
  code : Code := .ok
  /-- The data of the last read (R115). -/
  data : Nat := 0
deriving DecidableEq, Repr

/-- A staged copy (R127): its owner, the initiator whose stage was last discarded, and the staged values by field key. -/
structure Stage where
  /-- The stage owner (R127). -/
  owner : Option Nat := none
  /-- The initiator whose stage was last discarded: its COMMIT completes with TIMEOUT (R127). -/
  gone : Option Nat := none
  /-- The staged values (R128). -/
  vals : Tab Nat := []
deriving DecidableEq, Repr

/-! ### String time -/

/-- The string-time machine behind its registers (R38 to R60). -/
structure Stm where
  /-- The 80-bit accumulator: cycle, phase, fraction of a tick (R38). -/
  acc : BitVec 80 := 0
  /-- SCLK edges counted by the STM (R47). -/
  sclk : Nat := 0
  /-- Step of an acquisition: 0 none, 1 measuring, 3 counting (R48). -/
  acqStep : Nat := 0
  /-- Reference events of step 1 seen so far (R48). -/
  acqN : Nat := 0
  /-- The SCLK count of the first reference instant of step 1 (R48). -/
  acqFirst : Nat := 0
  /-- Consecutive events within LOCK_PH in step 3 (R46). -/
  lockRun : Nat := 0
  /-- Consecutive outliers in LOCKED (R46). -/
  outRun : Nat := 0
  /-- Consecutive missing events in LOCKED (R46). -/
  missRun : Nat := 0
  /-- The SCLK count of the last reference instant that was not discarded (R47). -/
  lastRef : Option Nat := none
  /-- Missing events counted since that instant (R47). -/
  missed : Nat := 0
  /-- SCLK edges for which the accumulator still pauses (R49). -/
  pause : Nat := 0
  /-- The loop's filtered frequency (R51). -/
  incFilt : Nat := 0x08BCF64E
  /-- The phase error that the slew has still to remove, in accumulator units (R49). -/
  slew : Nat := 0
  /-- The SCLK count of the last result tagged SIS (R41, R42). -/
  sis : Option Nat := none
  /-- A pending STM_SETC value (R60). -/
  setc : Option Nat := none
  /-- A beacon's number has been received: its number minus the local one (R43, R48). -/
  bcnDelta : Option Int := none
  /-- Stamps snapshotted by initiator ID (R59). -/
  snap : Tab Nat := []
  /-- SCLK edges since the last microsecond of FLT_UST (R427). -/
  usFrac : Nat := 0
deriving DecidableEq, Repr

/-! ### Resets, boot and power domains -/

/-- Where the block is between resets, boot and running (R86 to R104). -/
inductive Phase where
  /-- A reset is taken; boot has not started. -/
  | inReset (k : ResetKind)
  /-- A BOR is held until its supplies return (R89). -/
  | borHeld
  /-- Boot runs (R92). -/
  | booting
  /-- Boot ended; contexts run (R100). -/
  | running
  /-- Boot ended without releasing user contexts (R96, R98). -/
  | unreleased
  | heldOff
  | asleep
  /-- D0 too is without power (R443). -/
  | dark
deriving DecidableEq, Repr

/-- Reset, boot and power state behind the registers. -/
structure Pow where
  /-- Where the block is between resets, boot and running (R86 to R104). -/
  phase : Phase := .inReset .por
  /-- VHV stands above its power-on threshold, and the pre-regulator runs (R75, R85). -/
  vhv : Bool := true
  /-- VSYS has fallen below its warning threshold and VPRE has not come back (R88). -/
  low : Bool := false
  /-- An SWR, an LCR is scheduled (R104, R414). -/
  swr : Bool := false
  lcr : Bool := false
  /-- HKR_DOMCTL of the entry into sleep: domains that return at wake (R81). -/
  wakeOn : Nat := 0
  /-- Domains switching off, domains still to switch on, in order (R78). -/
  offs : NSet := []
  ons : List Nat := []
  /-- SRAM banks whose retention held since isolation (R80): 2, 3. -/
  kept : NSet := []
  /-- The entry records of the image chosen by boot: context, priority, domain, PC, REC (R153). -/
  entries : List (Nat × Nat × Nat × Nat × Bool) := []
  /-- An image was loaded, so boot releases the contexts (R96, R98). -/
  release : Bool := false
  /-- The kind of the last reset taken (R102). -/
  kind : ResetKind := .por
  /-- The rail of the default sequence whose power good is awaited (R94). -/
  rail : Option Nat := none
  /-- The access-table section of the image chosen: splits and entries (R152). -/
  tables : List Nat := []
  /-- SCLK edges since the watchdog's count restarted (R105). -/
  wdt : Nat := 0
deriving DecidableEq, Repr

/-! ### Frond engine -/

/-- The states of a context (R135). -/
inductive CtxState where
  | halt | ready | run | wait | fault
deriving DecidableEq, Repr

/-- The journal write of a JMARK, JDONE or JFAIL that holds its context in WAIT (R169 to R171). -/
inductive JWrite where
  | mark
  | finish (ok : Bool) (result : Nat)
deriving DecidableEq, Repr

/-- What a context in WAIT waits for (R140, R143, R144, R168, R171), with the register its completion writes. `due`: the SCLK count at which its timeout elapses (R140). -/
inductive WaitFor where
  | event (line : Nat) (latch : Bool) (rd due : Nat)
  | time (stamp : Nat) (rd : Nat)
  | sem (n rd due : Nat)
  | take (cls rd due : Nat)
  | write (anum rd : Nat) (op : JWrite)
deriving DecidableEq, Repr

/-- The interconnect classes (R112), lowest first. -/
inductive Cls where
  | bulk | control | urgent
deriving DecidableEq, Repr

/-- How a load or store delivers its completion (R163). -/
inductive MemOp where
  | load (bytes : Nat) (signed : Bool)
  | loadPair
  | loadChecked
  | store (bytes : Nat) (value : Nat)
  | storeChecked (value : Nat)
deriving DecidableEq, Repr

/-- A load or store issued and not yet completed (R158, R164). -/
structure InFlight where
  /-- The access and how it delivers its completion (R163). -/
  op : MemOp
  /-- The address (R163). -/
  addr : Nat
  /-- The instruction's d register (R163). -/
  rd : Nat
  /-- The class of its request (R112, R113). -/
  cls : Cls
deriving DecidableEq, Repr

/-- One of the 1,024 contexts, but for its general registers (R133). -/
structure Ctx where
  /-- The state (R135). -/
  st : CtxState := .halt
  /-- The program counter (R133). -/
  pc : Nat := 0
  /-- The return stack, innermost first (R133, R166). -/
  stack : List Nat := []
  /-- The base priority (R133, R138). -/
  pri : Nat := 0
  /-- The domain, which gives the initiator ID (R109, R133). -/
  dom : Nat := 0
  /-- Held-rank mask. -/
  held : Nat := 0
  /-- The cause of the last fault (R148, R149). -/
  cause : Nat := 0
  /-- The completion code of the last fault (R148, R149). -/
  code : Nat := 0
  /-- Address of the faulting instruction (R149). -/
  fpc : Nat := 0
  /-- What a context in WAIT waits for (R139 to R145, R168, R171). -/
  wait : Option WaitFor := none
  /-- When the wait began, in the engine's own order (R139, R145). -/
  since : Nat := 0
  /-- Instructions issued at effective priority 3 (R137). -/
  urg : Nat := 0
  /-- The load or store in flight (R158, R164). -/
  infl : Option InFlight := none
  /-- The sequential words already prefetched, by address (R158, R165). -/
  pre : List (Nat × Nat) := []
  /-- A STOP awaits the retirement of the instruction in flight (R135). -/
  stop : Bool := false
  /-- The ANUM of the journal entry leased to the context (R168). -/
  lease : Option Nat := none
deriving DecidableEq, Repr

/-- The frond engine behind its registers (R133 to R150). -/
structure Frond where
  /-- Contexts by number; an unlisted one is as reset leaves it. -/
  ctxs : Tab Ctx := []
  /-- General registers: key 16 c + r; an unlisted one holds 0 (R134). -/
  gregs : Tab Word := []
  /-- Context RAM words whose parity fails (R118). -/
  badPar : NSet := []
  /-- Pending latches of the 256 event lines (R139). -/
  latch : BitVec 256 := 0
  /-- The context that last issued at each priority level (R136). -/
  last : Tab Nat := []
  /-- SEQ_CTXSEL of each initiator ID (R155). -/
  sel : Tab Nat := []
  /-- Waits begun so far, the order of waiters (R139, R145). -/
  waits : Nat := 0
  /-- The initiator last granted at each target (R113). -/
  granted : Tab Nat := []
  /-- The recovery frond the image names (R153). -/
  recov : Option Nat := none
deriving DecidableEq, Repr

/-- What one SCLK edge has done so far: the event lines it raises, once each (R139), and the fault sources it has an event of, with those whose event is severe (R426). The model's own, while an edge is worked out. -/
structure Edge where
  /-- The lines raised on the edge (R139). -/
  lines : NSet := []
  /-- The sources with an event on the edge (R426). -/
  sources : NSet := []
  /-- Those whose event is severe (R428). -/
  severe : NSet := []
deriving DecidableEq, Repr

/-! ### Journal -/

/-- The states of an entry (R178). -/
inductive JState where
  | accepted | started | done | failed
deriving DecidableEq, Repr

/-- A record of the image's command-kind table (R188). -/
structure KindRec where
  /-- The command kind (R188). -/
  kind : Nat
  /-- The recovery class (R188). -/
  rclass : Nat
  /-- The accept priority class (R188). -/
  pri : Nat
  /-- The assurance level (R188). -/
  level : Bool
  /-- The domain that takes the entry (R188). -/
  dom : Nat
  /-- The sources that may send the kind (R188). -/
  srcMask : Nat
  /-- The longest payload in bytes (R188). -/
  lenMax : Nat
deriving DecidableEq, Repr

/-- What the journal holds of a live entry beside its NVS lines (R177, R189 to R196). -/
structure JEntry where
  /-- The acceptance number (R177). -/
  anum : Nat
  /-- The entry's state (R178). -/
  st : JState := .accepted
  /-- SRC of the command (R178). -/
  src : Nat := 0
  /-- The sender's address (R178). -/
  addr : Nat := 0
  /-- The command's SEQ (R178). -/
  seq : Nat := 0
  /-- The command kind (R178, R188). -/
  kind : Nat := 0
  /-- The accept priority class (R188, R189). -/
  cls : Nat := 0
  /-- The recovery class (R188). -/
  rclass : Nat := 0
  /-- The assurance level (R188, R196). -/
  level : Bool := false
  /-- Word 14. -/
  result : Nat := 0
  /-- The context the entry is leased to (R168, R189). -/
  lease : Option Nat := none
  /-- The entry awaits the recovery frond (R190, R193). -/
  awaiting : Bool := false
  /-- The entry is STARTED and stands in its class queue as ACCEPTED, to be replayed from the start (R190, R193). -/
  replay : Bool := false
  /-- Its completion report has been sent (R196). -/
  reported : Bool := false
  /-- The string-time cycle of its completion (R196). -/
  doneAt : Nat := 0
  /-- Found lost (R195). -/
  lost : Bool := false
  /-- Verified at step 4 of R185 and not yet offered (R195). -/
  fresh : Bool := false
  /-- The medium its command arrived on (R218). -/
  pair : Option Bool := none
deriving DecidableEq, Repr

/-- A command request: words 1 to 13 of the entry it would become (R178, R181, R216). -/
structure JReq where
  /-- SRC of the command (R178, R181). -/
  src : Nat
  /-- The sender's address (R178). -/
  addr : Nat
  /-- The command's SEQ (R178). -/
  seq : Nat
  /-- The command kind (R178). -/
  kind : Nat
  /-- The command's payload (R178). -/
  payload : List (BitVec 8)
  /-- Its mailbox load is made, or in the list of loads waiting (R187). -/
  boxed : Bool := false
  /-- The medium the command arrived on (R218). -/
  pair : Bool := false
deriving DecidableEq, Repr

/-- A mailbox load that waits (R187): words 1 to 13, and the entry it delivers again, if any (R193). -/
structure BoxLoad where
  /-- The words the mailbox takes (R187). -/
  words : List Nat
  /-- The entry it delivers again (R193). -/
  again : Option Nat := none
  /-- The request it belongs to: SRC, ADDR and SEQ (R187). -/
  req : Option (Nat × Nat × Nat) := none
deriving DecidableEq, Repr

/-- A slot of the sender table (R179). -/
structure Sender where
  /-- The slot's position (R179). -/
  slot : Nat
  /-- The sender's SRC (R179). -/
  src : Nat
  /-- The sender's address (R179). -/
  addr : Nat
  /-- The sender's high-water mark (R179, R182). -/
  hwm : Nat
deriving DecidableEq, Repr

/-- The journal behind its registers. -/
structure Jnl where
  /-- The command-kind table of the running image (R188). -/
  kinds : List KindRec := []
  /-- Live entries in ANUM order. -/
  live : List JEntry := []
  /-- Requests waiting, in the order they became ready (R181). -/
  reqs : List JReq := []
  /-- The request whose entry is being written, and its ANUM (R185). -/
  writing : Option (JReq × Nat) := none
  /-- Mailbox loads waiting (R187). -/
  boxes : List BoxLoad := []
  /-- The sender table (R179). -/
  senders : List Sender := []
  /-- HEADNUM, NEXT, and the HEADNUM both control-block copies carry (R177, R180, R201). -/
  head : Nat := 0
  next : Nat := 0
  headWritten : Nat := 0
  /-- The generation number of the control block (R180). -/
  gen : Nat := 0
  /-- FULL stands (R197). -/
  full : Bool := false
  /-- Recovery has ended since the last reset (R192). -/
  open_ : Bool := false
  /-- NVS slots that recovery found lost after DONE or FAILED are entries with `lost`. The lost control-block copy is rewritten at the next head advance (R195). -/
  cbStale : Bool := false
deriving DecidableEq, Repr

/-! ### String link -/

/-- What a queued frame is (R214, R218, R223, R231). -/
inductive TxKind where
  | send
  | ack (level : Option Nat)
  | refused
  | complete (anum : Nat)
  | join (slot : Option Nat)
deriving DecidableEq, Repr

/-- A frame of the transmit queue (R172, R223). `med`: 0 either, 1 carrier only, 2 pair only. -/
structure TxFrame where
  /-- The frame's SEQ (R214). -/
  seq : Nat
  /-- What the frame is (R214, R218, R223, R231). -/
  kind : TxKind
  /-- The media it may use (R223). -/
  med : Nat
  /-- DTYPE of its header (R206). -/
  dtype : Nat
  /-- The destination address (R206). -/
  daddr : Nat
  /-- The frame type (R206). -/
  ftype : Nat
  /-- The payload (R206). -/
  payload : List (BitVec 8)
  /-- The stamp before which it is not sent (R172, R223). -/
  notBefore : Option Nat := none
deriving DecidableEq, Repr

/-- A reply that waits for room in the queue (R218): the COMPLETE of an entry. -/
structure Pending where
  /-- The entry completed (R218). -/
  anum : Nat
  /-- The medium the reply takes (R218). -/
  pair : Option Bool
deriving DecidableEq, Repr

/-- An entry of the receive ring (R219). -/
structure RxEntry where
  /-- The frame's source (R219). -/
  src : Nat
  /-- The frame's DTYPE (R219). -/
  dtype : Nat
  /-- The medium it arrived on (R219). -/
  pair : Bool
  /-- The frame type (R219). -/
  ftype : Nat
  /-- The frame's SEQ (R219). -/
  seq : Nat
  /-- The cycle of its reception (R219). -/
  cycle : Nat
  /-- The phase of its reception (R219). -/
  phase : Nat
  /-- The payload (R219). -/
  payload : List (BitVec 8)
deriving DecidableEq, Repr

/-- A sequence window (R213): `fam` 0 gateway, 1 peer, 2 commissioner. -/
structure Window where
  /-- Whose window it is (R213). -/
  fam : Nat
  /-- The sender (R213). -/
  src : Nat
  /-- The highest SEQ accepted (R213). -/
  high : Nat
  /-- The numbers accepted below it (R213). -/
  bitmap : Nat
deriving DecidableEq, Repr

/-- What the link knows of one medium. -/
structure Medium where
  /-- RSSI of the frame the receiver is locked on (R225). -/
  rx : Option Nat := none
  /-- The frame on the air, and whether its transmission has begun (R222). -/
  tx : Option TxFrame := none
  /-- A verified frame was received in this superframe (R229). -/
  seen : Bool := false
  /-- Consecutive superframes without, and with, a verified frame (R229). -/
  silent : Nat := 0
  good : Nat := 0
  /-- In the silent superframes the other medium received (R229). -/
  otherSeen : Bool := false
  /-- Its roles have moved to the other medium (R229). -/
  moved : Bool := false
deriving DecidableEq, Repr

/-- The JOIN schedule of a beacon with OPEN set (R220, R231). -/
structure JoinPlan where
  /-- CFIRST (R220). -/
  first : Nat
  /-- CCOUNT (R220). -/
  count : Nat
  /-- It was heard on the pair, otherwise on the carrier (R231). -/
  pair : Bool
  /-- How far its string time lies ahead of the node's, in accumulator units, for a node that takes CYCLE from it (R220). -/
  ofs : Int
deriving DecidableEq, Repr

/-- The string link behind its registers. -/
structure Link where
  /-- The transmit queue, in the order queued (R223). -/
  txq : List TxFrame := []
  /-- Completion reports that wait for room in the queue (R218). -/
  completes : List Pending := []
  /-- The transmit counter and the end of its reserved block (R214). -/
  txNext : Nat := 0
  txEnd : Nat := 0
  /-- The receive ring by slot; a released slot keeps its words (R219). -/
  ring : Tab RxEntry := []
  /-- The sequence windows (R213). -/
  wins : List Window := []
  /-- The carrier (R205, R229). -/
  car : Medium := {}
  /-- The pair (R205, R229). -/
  pr : Medium := {}
  /-- A keep-alive beacon arrived in this superframe, and since the loss (R227, R228). -/
  kaSeen : Bool := false
  kaSince : Bool := false
  /-- The loss of the present run of missed superframes has been acted on (R227). -/
  kaActed : Bool := false
  /-- The last beacon's JOIN schedule, where OPEN was set (R220, R231). -/
  plan : Option JoinPlan := none
  /-- The superframe of the last JOIN sent (R231). -/
  joinSf : Option Nat := none
  /-- JOIN backoff: superframes left to wait, and the exponent of the next wait (R231). -/
  joinWait : Nat := 0
  joinB : Nat := 1
  /-- Outcome and SEQ of the last ASSIGN or KEYLOAD (R231). -/
  cmCode : Nat := 0
  cmSeq : Nat := 0
deriving DecidableEq, Repr

/-! ### Power stages -/

/-- The period set a phase acts on (R128, R262). -/
structure PerSet where
  /-- The period (R262). -/
  per : Nat := 15360
  /-- The update point (R262). -/
  upd : Nat := 0
  /-- The trigger point (R262). -/
  trg : Nat := 0
  /-- The buck dead time (R262). -/
  dtb : Nat := 123
  /-- The boost dead time (R262). -/
  dtk : Nat := 123
  /-- The phase offset (R262). -/
  offs : Nat := 0
  /-- The reference (R260). -/
  src : Nat := 0
  /-- The reference divider (R260). -/
  div : Nat := 1
  /-- Switching periods per string-time cycle (R260). -/
  stn : Nat := 2000
deriving DecidableEq, Repr

/-- The comparator settings a period acts on (R264: they take effect at the next period start of phase 0). -/
structure CmpSet where
  /-- The trip threshold of phase 0 (R253, R264). -/
  th0 : Nat := 1023
  /-- The trip threshold of phase 1 (R253, R264). -/
  th1 : Nat := 1023
  /-- The blanking time (R253, R264). -/
  blank : Nat := 16
  /-- The overvoltage threshold (R253, R264). -/
  ovth : Nat := 1200
  /-- The undervoltage threshold (R253, R264). -/
  uvth : Nat := 0
deriving DecidableEq, Repr

/-- A load of a phase's compares in its running period: the offset, and the duties until then (R243). -/
structure LoadPt where
  /-- The offset of the update point (R242). -/
  at_ : Nat
  /-- The buck duty before it (R243). -/
  db : Nat
  /-- The boost duty before it (R243). -/
  dk : Nat
deriving DecidableEq, Repr

/-- One input behind its registers (R237 to R263). -/
structure PstIn where
  /-- The period set of phase 0 and of phase 1 (R262). -/
  set0 : PerSet := {}
  set1 : PerSet := {}
  /-- The comparator settings of the running period (R264). -/
  cmp : CmpSet := {}
  /-- Active compares: buck and boost duty of phases 0 and 1 (R242). -/
  db0 : Nat := 0
  dk0 : Nat := 0
  db1 : Nat := 0
  dk1 : Nat := 0
  /-- The load of the running period of a phase (R243). -/
  load0 : Option LoadPt := none
  load1 : Option LoadPt := none
  /-- The period in use of a phase, and the time since the active switches of its buck and boost leg last fell, when its period began (R238, R262). -/
  per0 : Nat := 15360
  per1 : Nat := 15360
  rest0 : Nat × Nat := (0, 0)
  rest1 : Nat × Nat := (0, 0)
  /-- The SCLK count when phase 0's period began (R240). -/
  start : Nat := 0
  /-- The mode of a phase in its period before (R245). -/
  was0 : Nat := 0
  was1 : Nat := 0
  /-- A phase is held low until its next period start (R253). -/
  trip0 : Bool := false
  trip1 : Bool := false
  /-- The mode phase 1 acts on (R245). -/
  m1 : Nat := 0
  /-- A mode that takes effect at each phase's next period start (R245). -/
  next : Option Nat := none
  /-- Soft start runs; it ends in PASS (R251). -/
  ss : Bool := false
  ssPass : Bool := false
  /-- The input went to OFF on presence loss or undervoltage (R252). -/
  restart : Bool := false
  /-- Periods of phase 0 since the last CE duty write (R251). -/
  since : Option Nat := none
  /-- Results and their sums of the balance window, by phase, and its periods (R250). -/
  n0 : Nat := 0
  sum0 : Int := 0
  n1 : Nat := 0
  sum1 : Int := 0
  win : Nat := 0
  /-- SYNCIN edges and SCLK since the last reference (R260). -/
  edges : Nat := 0
  gap : Nat := 0
  /-- Consecutive references missed (R260). -/
  missRun : Nat := 0
  /-- Consecutive references in the window (R260). -/
  goodRun : Nat := 0
  /-- The period the stage moves toward, and whether it is the reference's (R261). -/
  aim : Nat := 15360
  follow : Bool := false
  /-- The phase error left, and by how much this period start moved to close it, in 1/16 SCLK (R261). -/
  phErr : Nat := 0
  shift : Nat := 0
deriving DecidableEq, Repr
/-! ### Control engine -/

/-- A program instance, from its trigger to its release (R267, R274). -/
structure CeInst where
  /-- The program (R266). -/
  prog : Nat
  /-- The lane of its program (R266). -/
  lane : Nat
  /-- The trigger edge: cycle, phase and upper fraction bits (R284). -/
  trig : Nat
  /-- The index space in force at its trigger (R278). -/
  idx : Tab Nat := []
  /-- Sample entries not yet landed (R274). -/
  need : List Nat := []
  /-- The sample registers (R270, R274). -/
  s : Tab (BitVec 32) := []
  /-- The accumulators (R270). -/
  acc : Tab (BitVec 64) := []
  /-- Instructions issued (R267). -/
  pc : Nat := 0
  /-- Port writes held, in order (R267). -/
  held : List (Nat × BitVec 32) := []
  /-- A SAT, SATW or PRE of the run clamped (R285). -/
  clamped : Bool := false
  /-- Update points of its phase since the trigger (R275, R279). -/
  passed : Nat := 0
  /-- Set-point slots that moved since its trigger, with the values it still reads (R281). -/
  old : Tab (BitVec 32) := []
  /-- The x registers of a run whose program a commit has changed (R278). -/
  own : Option (Tab (BitVec 32)) := none
  /-- The SCLK count of the edge on which it became ready (R266). -/
  ready : Nat := 0
deriving DecidableEq, Repr

/-- A trace buffer behind its registers (R284, R285). -/
structure TrcBuf where
  /-- A forced trigger is due (R285). -/
  forced : Bool := false
  /-- The edge trigger has been met (R285). -/
  edge : Bool := false
  /-- The compared tap of the previous record (R285). -/
  prev : Option Int := none
  /-- Releases since the last record (R284). -/
  skip : Nat := 0
  /-- The sequence number of the next record (R284, log 17). -/
  seqn : Nat := 0
  /-- Records still to write after the trigger (R285). -/
  left : Nat := 0
deriving DecidableEq, Repr

/-- The control engine behind its registers (R266 to R287). -/
structure Ce where
  /-- CE_IADDR of each initiator ID (R288). -/
  iaddr : Tab Nat := []
  /-- The committed index space of CE_IDATA: texts, coefficients, descriptors (R288). -/
  idx : Tab Nat := []
  /-- State registers: key 16 n + k (R266). -/
  xs : Tab (BitVec 32) := []
  /-- Programs with FIRST set (R282). -/
  first : NSet := []
  /-- LAST of each port (R282). -/
  last : Tab (BitVec 32) := []
  /-- Pending copies of set-point slots, with the parent whose trigger moves them (R281). -/
  pend : Tab (Nat × BitVec 32) := []
  /-- Triggered instances waiting for samples or for a lane (R266). -/
  queue : List CeInst := []
  /-- The instance that lane 0 runs (R266). -/
  lane0 : Option CeInst := none
  /-- The instance that lane 1 runs (R266). -/
  lane1 : Option CeInst := none
  /-- Instances whose text has issued and whose release is due (R267). -/
  out : List CeInst := []
  /-- Runs of a NEST program's parent since the last one that counted (R274). -/
  nest : Tab Nat := []
  /-- SCLK count of a program's last dispatch (R274). -/
  disp : Tab Nat := []
  /-- Triggers since a divided program last ran (R279). -/
  div : Tab Nat := []
  /-- Member in force of each pair since its last trigger (R283). -/
  sel : Nat := 0
  /-- A re-proof after a converter change is due (R279). -/
  reproof : Bool := false
  /-- Programs whose degradation is reversed at their next trigger, with the step they go to (R279). -/
  back : Tab Nat := []
  /-- Duties of deferred runs: port, value and update points still to pass (R279). -/
  later : Tab (BitVec 32) := []
  /-- The trace buffers (R284). -/
  trc : Tab TrcBuf := []
  /-- Trace RAM words whose parity fails, by number (R118). -/
  trcBad : NSet := []
deriving DecidableEq, Repr

/-! ### Converters -/

/-- A triggered conversion that waits for its slot: program, sample entry, logical converter and channel (R274, R294). -/
structure TrigConv where
  /-- The program (R274). -/
  prog : Nat
  /-- The sample entry (R274). -/
  entry : Nat
  /-- The logical converter (R290). -/
  conv : Nat
  /-- The channel (R290). -/
  ch : Nat
  /-- The SCLK count of the trigger edge (R274). -/
  edge : Nat
deriving DecidableEq, Repr

/-- A calibration entry a converter holds: OFS and G as its line gives them, or the defaults (R300, R301). -/
structure CalEnt where
  /-- The offset (R300). -/
  ofs : Int
  /-- The gain (R300). -/
  gain : Nat
  /-- The entry's line was valid (R300, R301). -/
  cald : Bool
deriving DecidableEq, Repr

/-- A calibration command that runs (R302). -/
structure CalRun where
  /-- The command (R302). -/
  cmd : Nat
  /-- The converter (R302). -/
  conv : Nat
  /-- The channel (R302). -/
  ch : Nat
  /-- The cross entry (R300, R302). -/
  cross : Bool
  /-- The averaging exponent (R302). -/
  avg : Nat
deriving DecidableEq, Repr

/-- One logical converter behind its registers. -/
structure AdcConv where
  /-- One-shots queued, oldest first (R295). -/
  shots : List Nat := []
  /-- FIFO words, oldest first, and the count of results pushed (R298). -/
  fifo : List Nat := []
  seqn : Nat := 0
  /-- The SCLK count at which its DMA request last rose (R298, R375). -/
  reqAt : Nat := 0
  /-- Physical converter: its calibration entries are read (R301). -/
  loaded : Bool := false
  /-- Consecutive check pairs that did not pass, and that passed (R304, R307). -/
  bad : Nat := 0
  good : Nat := 0
  /-- Out of service by a planned change (R308). -/
  planned : Bool := false
  /-- The armed or open capture window: start and stop stamps (R296). -/
  start : Nat := 0
  stop : Nat := 0
deriving DecidableEq, Repr

/-- The ADC block behind its registers. -/
structure Adc where
  /-- Converter 0 (R290). -/
  c0 : AdcConv := {}
  /-- Converter 1 (R290). -/
  c1 : AdcConv := {}
  /-- Triggered conversions in the order of R274. -/
  trig : List TrigConv := []
  /-- Corrected codes of the last results by 32·CONV + CH (R297, R458). -/
  code : Tab Int := []
  /-- Coefficients read from the table, by entry (R300, R301). -/
  cal : Tab CalEnt := []
  /-- Coefficients before the last write of the table, by entry (R303). -/
  calOld : Tab CalEnt := []
  /-- ALIGN + 2·SIGNED before the last commit, by 32·CONV + CH (R299). -/
  fmtOld : Tab Nat := []
  /-- The calibration command that runs (R302). -/
  run : Option CalRun := none
  /-- The pending OFS of a ZERO, with its entry (R302). -/
  zero : Option (Nat × Int) := none
deriving DecidableEq, Repr

/-! ### Housekeeping -/

/-- A rail behind its registers: the commanded voltage moves from `v0` at SCLK count `t0` toward `target` by `num` mV every `den` µs (R314). -/
structure Rail where
  /-- The voltage at `t0` (R314). -/
  v0 : Nat := 0
  /-- The SCLK count at which the move began (R314). -/
  t0 : Nat := 0
  /-- The voltage the rail moves to (R314). -/
  target : Nat := 0
  /-- The numerator of the rate (R314). -/
  num : Nat := 0
  /-- The denominator of the rate (R314). -/
  den : Nat := 1
  /-- PG has been set since the enable (R315). -/
  once : Bool := false
  /-- The strap voltage in mV, in strap mode (R312). -/
  strap : Nat := 0
deriving DecidableEq, Repr

/-- The window a slot holds: start stamp and stop stamp, none for NOW (R319). -/
structure SlotWin where
  /-- The start stamp (R319). -/
  start : Nat
  /-- The stop stamp (R319). -/
  stop : Option Nat
deriving DecidableEq, Repr

/-- The housekeeping block behind its registers. -/
structure Hkr where
  /-- The rails (R311). -/
  rails : Tab Rail := []
  /-- Windows armed, deferred or active: key 2 n for slot A of switch n, 2 n + 1 for slot B. -/
  wins : Tab SlotWin := []
deriving DecidableEq, Repr

/-! ### Charger -/

/-- The charger's timers and filters in ms ticks (R337 to R341). -/
structure Chg where
  /-- The precharge timer (R337). -/
  pre : Nat := 0
  /-- The fast-charge timer (R337). -/
  fast : Nat := 0
  /-- The top-off timer (R337). -/
  top : Nat := 0
  /-- Ticks for which BAT has stayed at the precharge exit, below the re-entry or recharge level, above overvoltage, and the current below ITERM. -/
  up : Nat := 0
  low : Nat := 0
  ov : Nat := 0
  term : Nat := 0
  /-- The phase that SUSPEND interrupted was DONE (R337, R338). -/
  done : Bool := false
deriving DecidableEq, Repr


/-! ### Nonvolatile store -/

/-- What the array stores of a line beside its poison mark (R349, R350). -/
structure NvsLine where
  /-- The 32 bytes of ciphertext (R350). -/
  cipher : List (BitVec 8)
  /-- The 8 bytes of the integrity tag (R350). -/
  tag : List (BitVec 8)
  /-- The write counter (R349). -/
  count : Nat
deriving DecidableEq, Repr

/-- A line operation an initiator has issued through the line buffer (R356, R358). -/
structure NvsOp where
  /-- The initiator (R356). -/
  id : Nat
  /-- The line's address (R358). -/
  addr : Nat
  /-- The line's data (R358). -/
  data : List (BitVec 8)
  /-- The number of its request's class (R112). -/
  cls : Nat
deriving DecidableEq, Repr

/-- The NVS controller behind its registers (R349 to R358). -/
structure Nvs where
  /-- Granted interconnect operations held, oldest first, at most four (R356). -/
  q : List NvsOp := []
  /-- Operations that wait at the target's arbiter while four are held (R356). -/
  wait : List NvsOp := []
  /-- Private-port operations served since the last interconnect operation (R356). -/
  turns : Nat := 0
  /-- Lines written since TEST, as the array stores them (R349, R350); an unlisted one holds zero data under a valid tag (R351). -/
  lines : Tab NvsLine := []
deriving DecidableEq, Repr
/-! ### DMA -/

/-- The access a channel makes next, or has in flight (R369, R371, R372). -/
inductive DmaStep where
  | fetch0 | fetch1 | read | write | word3 | word0
deriving DecidableEq, Repr

/-- A channel behind its registers (R365 to R378). -/
structure DmaChan where
  /-- Where the channel stands in its descriptor (R365, R375). -/
  step : DmaStep := .fetch0
  /-- An access is outstanding (R375). -/
  infl : Bool := false
  /-- The SCLK count at which it was issued (R113). -/
  issued : Nat := 0
  /-- The SCLK count from which its next access is due (R375). -/
  since : Nat := 0
  /-- The channel stops when its access in flight completes (R378). -/
  abort : Bool := false
  /-- Ready for 256 SCLK without issuing (R375). -/
  starved : Bool := false
  /-- The transfer in progress: word 0 as fetched, source, destination, the element read, and a check that failed. -/
  w0 : Nat := 0
  src : Nat := 0
  dst : Nat := 0
  data : Nat := 0
  /-- The code the descriptor's write-back carries, and whether a data error stands behind it (R371, R376). -/
  code : Nat := 0
  failed : Bool := false
deriving DecidableEq, Repr

/-- The DMA block behind its registers. -/
structure Dma where
  /-- The channels (R365). -/
  chans : Tab DmaChan := []
  /-- The channel that issued last in each class and priority: key 4·CLASS + PRI (R375). -/
  last : Tab Nat := []
deriving DecidableEq, Repr


/-! ### Two-wire ports -/

/-- The target configuration the port and the matcher act on, until the next STOP or bus-free point (R400). -/
structure TwbCfg where
  /-- The target address (R400). -/
  addr : Nat := 0x26
  /-- PEC is required (R389, R400). -/
  pec : Bool := false
  /-- The timeout is enabled (R390, R400). -/
  toen : Bool := true
  /-- An address match wakes the node (R400). -/
  wake : Bool := false
deriving DecidableEq, Repr

/-- The two-wire target port behind its registers (R383 to R395), and the second port's lines. -/
structure Twb where
  /-- The configuration in force (R400). -/
  cfg : TwbCfg := {}
  /-- The bus has been seen free (R385). -/
  free : Bool := false
  /-- A transaction is open: it began and no STOP has ended it (R386, R390). -/
  open_ : Bool := false
  /-- The open transaction has written a word (R399). -/
  wrote : Bool := false
  /-- Bytes of the open transaction so far, which the PEC covers (R389). -/
  seen : List (BitVec 8) := []
  /-- Bytes of the write transaction after its address byte, until its end (R386, R389). -/
  body : List (BitVec 8) := []
  /-- A write phase is open, and a word of it was not acknowledged (R388). -/
  writing : Bool := false
  nacked : Bool := false
  /-- The bytes the target sent in the last read transaction, oldest first (R387, R389). -/
  sent : List (BitVec 8) := []
  /-- After an HS-mode controller code the bus is ignored until a STOP (R384). -/
  hs : Bool := false
  /-- The second port's lines have been free for 50 µs (R397). -/
  lines2 : Bool := true
  /-- The number of bytes the second port's running transfer reads (R397). -/
  rlen2 : Nat := 0
deriving DecidableEq, Repr

/-! ### Fuses, life cycle and security -/

/-- What the burn circuit or the life-cycle controller is doing (R407, R412, R414, R415). -/
inductive SecCmd where
  /-- A program command: word index, requested bits, started by the mailbox, and the count OTP_RBADV asks for. -/
  | program (w req : Nat) (mail : Bool) (rb : Option Nat)
  /-- A transition to a state, started by the mailbox or not. -/
  | transition (target : Nat) (mail : Bool)
deriving DecidableEq, Repr

/-- A CRY command that runs (R418, R419). -/
structure CryCmd where
  /-- The operation (R418). -/
  op : Nat
  /-- The key slot (R419). -/
  ksel : Nat
  /-- The initiator (R418). -/
  id : Nat
  /-- The source address (R418). -/
  src : Nat
  /-- The destination address (R418). -/
  dst : Nat
  /-- The length (R418). -/
  len : Nat
deriving DecidableEq, Repr

/-- The TAP instruction in force (R417). -/
inductive TapInst where
  | extest | sample | idcode | debug | vtest | bypass
deriving DecidableEq, Repr

/-- The OTP array, the keys and the TAP behind the registers. -/
structure Sec where
  /-- OTP words as they read at MARGIN_LO and at MARGIN_HI, by word index (R95, R403); an unlisted word is unburned. -/
  lo : Tab Nat := []
  hi : Tab Nat := []
  /-- The device key and the NVS root, each while usable since the last sensing (R350, R404, R406). -/
  dev : Option Nat := none
  root : Option Nat := none
  /-- The OTP or LCS command that runs (R407, R413). -/
  cmd : Option SecCmd := none
  /-- CRY's command, its user key slots and its link key slots: 0 UNI, 1 GRP, 2 BCST, 3 PEER, as 128-bit numbers (R212, R419). -/
  cry : Option CryCmd := none
  keys : Tab Nat := []
  linkKeys : Tab Nat := []
  /-- The TRNG has failed and its start-up test has not passed (R420). -/
  rngOut : Bool := false
  /-- ANALYSIS has opened VTEST (R415). -/
  analysis : Bool := false
  /-- The level on TRST_N at the last TAP command; its pull-down holds it low until then (R65). -/
  trst : Bool := false
  /-- The TAP instruction in force (R417). -/
  tap : TapInst := .idcode
  /-- The boundary register (R417). -/
  bsr : Nat := 0
deriving DecidableEq, Repr

/-! ### Faults and the SAFE input -/

/-- The stamp of a fault event (R427). -/
structure Stamp where
  /-- FLT_UST at the event (R427). -/
  us : Nat
  /-- The cycle (R427). -/
  cycle : Nat
  /-- The phase (R427). -/
  phase : Nat
deriving DecidableEq, Repr

/-- The fault block behind its registers. -/
structure Flt where
  /-- The stamps of each source, newest first, at most eight (R427). -/
  fifo : Tab (List Stamp) := []
  /-- FLT_QSEL of each initiator ID (R440). -/
  qsel : Tab Nat := []
  /-- The synchronised levels of SAFE_A and SAFE_B (R434). -/
  pinA : Bool := true
  pinB : Bool := false
  /-- A demand stood when the channels were last judged (R438, R441). -/
  dem : Bool := false
  /-- FLT_UST at the start of a standing disagreement, with the TDISC in force then (R436). -/
  disag : Option (Nat × Nat) := none
  /-- The condition of R432 on the last three SCLK edges. -/
  err1 : Bool := true
  err2 : Bool := true
  err3 : Bool := true
deriving DecidableEq, Repr
/-! ### Real-time clock -/

/-- The RTC behind its registers (R442 to R455). -/
structure Rtc where
  /-- The trim accumulator (R447). -/
  acc : Int := 0
  /-- SCLK edges since the last crystal tick, in eighths of an edge. -/
  frac : Nat := 0
  /-- A committed time that waits for the next crystal edge (R446). -/
  set : Option Nat := none
  /-- SEC and SUB snapshotted by initiator ID (R445). -/
  snap : Tab (Nat × Nat) := []
  /-- The cycle and K of the open trim window (R448). -/
  opened : Nat := 0
  k : Nat := 0
  /-- Alarms enabled with a target already past (R451). -/
  late : NSet := []
  /-- Raises of RTC_ALARM and RTC_SWITCH that wait for the wake (R451, R454). -/
  oweAlarm : Bool := false
  oweSwitch : Bool := false
deriving DecidableEq, Repr

/-! ### Enclosure fan -/

/-- The fan block behind its registers (R456 to R470). -/
structure Fan where
  /-- The mode in use since the last regulator step (R457). -/
  mode : Nat := 0
  /-- The start attempt is in step 3, not step 0 (R461). -/
  step3 : Bool := false
  /-- The LOOP timer has run out since the last CE write (R460). -/
  lost : Bool := false
  /-- FAN_VM is above its threshold (R465). -/
  vm : Bool := true
  /-- The raw demand of the zones, from the last evaluation (R458). -/
  zraw : Nat := 0
  /-- Stale zones (R459). -/
  stale : NSet := []
deriving DecidableEq, Repr


/-! ### The whole state -/

/-- The state of the block. Field values not listed in `regs` are at their reset value; the reset state is `{}` with every default. -/
structure State where
  /-- Commands waiting, first in, first out. -/
  pending : List Instr := []
  /-- The answer port: what the last access answered (R115, log 3). -/
  resp : Resp := {}
  /-- The register file: field key to value; an unlisted field holds its reset value (R4). -/
  regs : Tab Nat := []
  /-- SRAM bytes, and NVS bytes as they decrypt (R116, R350), in canonical form; an unlisted byte is 0. -/
  mem : List Host.Cell := []
  /-- SRAM 64-bit words that verify; every other word is poisoned (R80, R101, R130). -/
  sramGood : NSet := []
  /-- SRAM words that hold a single-bit error (R130). -/
  sramOne : NSet := []
  /-- NVS lines with the poison mark (R349, R352). -/
  nvsBad : NSet := []
  /-- Staged copies by stage number (R127). -/
  stages : Tab Stage := []
  /-- The model's own counter of free values drawn (not the spec's, log 4). -/
  free : Nat := 0
  /-- The model's own record of the SCLK edge being worked out; none between commands (log 85). -/
  edge : Option Edge := none
  /-- Reset, boot and power (R62 to R108). -/
  pow : Pow := {}
  /-- String time (R35 to R61). -/
  stm : Stm := {}
  /-- The frond engine (R133 to R176). -/
  seq : Frond := {}
  /-- The accepted-work journal (R177 to R201). -/
  jnl : Jnl := {}
  /-- The string link (R202 to R236). -/
  link : Link := {}
  /-- Faults and the SAFE input (R425 to R441). -/
  flt : Flt := {}
  /-- The NVS controller (R349 to R364). -/
  nvs : Nvs := {}
  /-- The panel power stages (R237 to R265). -/
  pst : Tab PstIn := []
  /-- The control engine (R266 to R289). -/
  ce : Ce := {}
  /-- The converters (R290 to R310). -/
  adc : Adc := {}
  /-- The enclosure fan (R456 to R470). -/
  fan : Fan := {}
  /-- Rails and load switches (R311 to R326). -/
  hkr : Hkr := {}
  /-- The backup cell (R327 to R348). -/
  chg : Chg := {}
  /-- The real-time clock (R442 to R455). -/
  rtc : Rtc := {}
  /-- DMA (R365 to R382). -/
  dma : Dma := {}
  /-- The two-wire ports (R383 to R401). -/
  twb : Twb := {}
  /-- Fuses, life cycle, keys, cryptography and the TAP (R402 to R424). -/
  sec : Sec := {}
deriving DecidableEq, Repr

/-- The block right after a power-on reset, before boot starts (R101). -/
def State.reset : State := {}

end Sys2Proof.Machine
end

