-- ==== Sys2Proof/Machine/Ops.lean ====
section
/-! DEFINITION. The named operations over the register file, the stages, memory and the answer port (R4 to R12, R127 to R131, R496). -/

namespace Sys2Proof.Machine

/-- What a command's meaning answers. -/
abbrev Out := Host.Outcome State Fault Refusal

/-! ### Fields -/

/-- The value of field (i, j) of a family. -/
def State.g2 (s : State) (f : Fam) (i j : Nat) : Nat := Tab.val (f.rstAt i j) s.regs (f.key i j)

/-- The value of field i of a family. -/
def State.g1 (s : State) (f : Fam) (i : Nat) : Nat := s.g2 f i 0

/-- The value of a field. -/
def State.g (s : State) (f : Fam) : Nat := s.g2 f 0 0

/-- A flag field read as a Bool. -/
def State.b (s : State) (f : Fam) : Bool := s.g f ≠ 0

/-- Flag field i of a family read as a Bool. -/
def State.b1 (s : State) (f : Fam) (i : Nat) : Bool := s.g1 f i ≠ 0

/-- Set field (i, j) of a family, cut to its width. -/
def State.p2 (s : State) (f : Fam) (i j v : Nat) : State :=
  { s with regs := Tab.put (f.rstAt i j) s.regs (f.key i j) (v % 2 ^ f.w) }

/-- Set field i of a family. -/
def State.p1 (s : State) (f : Fam) (i v : Nat) : State := s.p2 f i 0 v

/-- Set a field. -/
def State.p (s : State) (f : Fam) (v : Nat) : State := s.p2 f 0 0 v

/-- Add to a counter field, saturating at its width (R9). -/
def State.sat1 (s : State) (f : Fam) (i n : Nat) : State := s.p1 f i (min (s.g1 f i + n) (2 ^ f.w - 1))

/-- Add to a counter field, saturating at its width (R9). -/
def State.sat (s : State) (f : Fam) (n : Nat) : State := s.sat1 f 0 n

/-- A field's value. -/
def State.gf (s : State) (x : Fld) : Nat := s.g2 x.fam x.i x.j

/-- Set a field. -/
def State.pf (s : State) (x : Fld) (v : Nat) : State := s.p2 x.fam x.i x.j v

/-- The number of the peripheral block at an address: 0 SYS to 21 TMR (R119). -/
def blockOf (addr : Nat) : Nat := (addr - 0x40000000) / 0x1000

/-- The field families of a peripheral block (R119). -/
def blockFams : Nat → List Fam
  | 0 => F.listSys
  | 1 => F.listStm
  | 2 => F.listAcc
  | 3 => F.listSeq
  | 4 => F.listJnl
  | 5 => F.listSlk
  | 6 => F.listPst
  | 7 => F.listPst
  | 8 => F.listCe
  | 9 => F.listAdc
  | 10 => F.listHkr
  | 11 => F.listChg
  | 12 => F.listNvs
  | 13 => F.listDma
  | 14 => F.listTwb ++ F.listTwb2
  | 15 => F.listOtp ++ F.listLcs
  | 16 => F.listFlt
  | 17 => F.listRtc
  | 18 => F.listFan
  | 19 => F.listTrc
  | 20 => F.listCry
  | 21 => F.listTmr
  | _ => []

/-- The fields of the register at an address; none where no register table defines the offset (R117). -/
def fieldsAt (addr : Nat) : List Fld :=
  if 0x40000000 ≤ addr then (blockFams (blockOf addr)).filterMap (·.at? addr) else []

/-- The field with a given key. -/
def fieldOfKey (key : Nat) : Option Fld := (fieldsAt (key / 32)).find? (fun x => x.fam.lo = key % 32)

/-- Set the field with a given key. -/
def State.pkey (s : State) (key v : Nat) : State :=
  match fieldOfKey key with
  | some x => s.pf x v
  | none => s

/-- Give every listed field that `restores` names its reset value (R4, R80). -/
def State.restore (s : State) (restores : Fld → Bool) : State :=
  { s with regs := s.regs.filter (fun e => match fieldOfKey e.1 with
      | some x => !restores x
      | none => true) }

/-! ### The answer port -/

/-- Record the completion code and data of an access (R115). -/
def State.answer (s : State) (c : Code) (data : Nat := 0) : State := { s with resp := ⟨c, data⟩ }

/-! ### Free values -/

/-- Draw a free value: the counter that names it advances (log 4). -/
def State.draw (s : State) : Nat × State := (s.free, { s with free := s.free + 1 })

/-! ### Stages (R10, R127, R128) -/

/-- The stage of the register block at an address: one per block, one per power-stage input. -/
def stageOf (addr : Nat) : Nat :=
  if 0x40006000 ≤ addr ∧ addr < 0x40008000 then 32 + (addr - 0x40006000) / 0x400 else blockOf addr

/-- The staged copy of a stage. -/
def State.stage (s : State) (k : Nat) : Stage := Tab.val {} s.stages k

/-- Replace the staged copy of a stage. -/
def State.setStage (s : State) (k : Nat) (x : Stage) : State := { s with stages := Tab.put {} s.stages k x }

/-- Whether another initiator owns the stage (R127). -/
def State.stageHeld (s : State) (k id : Nat) : Bool :=
  match (s.stage k).owner with
  | some o => o ≠ id
  | none => false

/-- Stage a value by key for an initiator, taking the stage when it is free (R127). -/
def State.stageKey (s : State) (k id key v : Nat) : State :=
  match (s.stage k).owner with
  | some _ => s.setStage k { s.stage k with vals := Tab.set (s.stage k).vals key v }
  | none => s.setStage k { owner := some id, gone := none, vals := [(key, v)] }

/-- The value a commit would give a field: staged, or else committed (R128). -/
def State.sv2 (s : State) (k : Nat) (f : Fam) (i j : Nat) : Nat :=
  (Tab.get (s.stage k).vals (f.key i j)).getD (s.g2 f i j)

/-- The value a commit would give field i. -/
def State.sv1 (s : State) (k : Nat) (f : Fam) (i : Nat) : Nat := s.sv2 k f i 0

/-- The value a commit would give a field. -/
def State.sv (s : State) (k : Nat) (f : Fam) : Nat := s.sv2 k f 0 0

/-- Release a stage (R127). -/
def State.release (s : State) (k : Nat) : State := s.setStage k {}

/-- Write every staged register value of a stage into the register file (R10). -/
def State.applyStage (s : State) (k : Nat) : State :=
  (s.stage k).vals.foldl (fun t e => t.pkey e.1 e.2) s

/-- Discard a stage left open; its owner's later COMMIT completes with TIMEOUT (R127). -/
def State.discard (s : State) (k : Nat) : State :=
  match (s.stage k).owner with
  | some o => s.setStage k { owner := none, gone := some o, vals := [] }
  | none => s

/-- Discard every stage left open, as sleep entry does (R81). -/
def State.discardAll (s : State) : State :=
  { s with stages := (s.stages.map (fun e => (e.1, match e.2.owner with
      | some o => { owner := none, gone := some o, vals := [] }
      | none => e.2))) }

/-- A write of COMMIT: what R10 and R127 say of it, with the block's own check and its own effect on success. -/
def commitWith (k id : Nat) (check : State → Bool) (apply : State → State) (s : State) : Code × State :=
  match (s.stage k).owner with
  | some o =>
    if o ≠ id then (.busy, s)
    else if check s then (.ok, (apply s).release k)
    else (.stageReject, s.release k)
  | none =>
    if (s.stage k).gone = some id then (.timeout, s.release k) else (.ok, s)

/-! ### Register writes, judged field by field (R6 to R12) -/

/-- The LOCK that guards an RWL field stands (R8, R105, R441). -/
def rwlLocked (s : State) (x : Fld) : Bool :=
  if x.fam.addr = F.sysWdtctlEn.addr then s.b F.sysWdtctlLock
  else if x.fam.addr = F.fltSafecfgTdisc.addr then s.b F.fltSafecfgLock
  else false

/-- One field's part of a register write. -/
structure WriteAcc where
  s : State
  denied : Bool := false
  invalid : Bool := false

/-- One field takes its part of a written word (R6 to R8, R12). `t` is the state before the write. -/
def writeField (t : State) (id v : Nat) (a : WriteAcc) (x : Fld) : WriteAcc :=
  let nv := x.bits v
  let old := t.gf x
  match x.fam.acc with
  | .ro => a
  | .rc => a
  | .wo => a
  | .rw => if x.fam.resv.ok nv then { a with s := a.s.pf x nv } else { a with invalid := true }
  | .w1c => { a with s := a.s.pf x (old &&& (2 ^ x.fam.w - 1 - nv)) }
  | .w1s => { a with s := a.s.pf x (old ||| nv) }
  | .st => { a with s := a.s.pf x (old ||| nv) }
  | .rwl =>
    if rwlLocked t x then if nv = old then a else { a with denied := true }
    else if x.fam.resv.ok nv then { a with s := a.s.pf x nv } else { a with invalid := true }
  | .rws => { a with s := a.s.stageKey (stageOf (x.key / 32)) id x.key nv }
  | .ceOnly => if id = idCe then { a with s := a.s.pf x nv } else { a with denied := true }

/-- A write to the register at an address, with no rule of the block's own (R7, R8, R12, R117, R127). -/
def genWrite (id addr v : Nat) (s : State) : Code × State :=
  let fs := fieldsAt addr
  if fs.isEmpty then (.invalid, s)
  else if fs.all (fun x => x.fam.acc = .ro || x.fam.acc = .rc) then (.denied, s)
  else if fs.any (fun x => x.fam.acc = .rws) && s.stageHeld (stageOf addr) id then (.busy, s)
  else
    let a := fs.foldl (writeField s id v) ⟨s, false, false⟩
    (if a.denied then .denied else if a.invalid then .invalid else .ok, a.s)

/-- The word a read of the register at an address returns: WO and W1S command fields read as they are held (R6, R11). -/
def regWord (addr : Nat) (s : State) : Nat :=
  (fieldsAt addr).foldl (fun w x =>
    if x.fam.acc = .wo then w else w + s.gf x * 2 ^ x.fam.lo) 0

/-- Clear the RC fields of a register, as a read does (R9). -/
def clearRc (addr : Nat) (s : State) : State :=
  (fieldsAt addr).foldl (fun t x => if x.fam.acc = .rc then t.pf x 0 else t) s

/-- A read of the register at an address, with no rule of the block's own (R6, R9, R10, R117). -/
def genRead (addr : Nat) (s : State) : Code × Nat × State :=
  if (fieldsAt addr).isEmpty then (.invalid, 0, s) else (.ok, regWord addr s, clearRc addr s)

/-! ### Memory bytes (R3, R116) -/

/-- Read one byte of SRAM or NVS. -/
def State.byte (s : State) (a : Nat) : BitVec 8 := Tab.val 0 s.mem a

/-- Write one byte of SRAM or NVS. -/
def State.setByte (s : State) (a : Nat) (b : BitVec 8) : State := { s with mem := Tab.put 0 s.mem a b }

/-- Read `n` bytes, little-endian (R3). -/
def State.bytesLE (s : State) (a : Nat) : Nat → Nat
  | 0 => 0
  | n + 1 => (s.byte a).toNat + 256 * s.bytesLE (a + 1) n

/-- Write `n` bytes, little-endian (R3). -/
def State.setBytesLE (s : State) (a : Nat) : Nat → Nat → State
  | 0, _ => s
  | n + 1, v => (s.setByte a (BitVec.ofNat 8 v)).setBytesLE (a + 1) n (v / 256)

/-- Read a 32-bit word (R3). -/
def State.word (s : State) (a : Nat) : Nat := s.bytesLE a 4

/-- Write a 32-bit word (R3). -/
def State.setWord (s : State) (a v : Nat) : State := s.setBytesLE a 4 v

/-- Read bytes in address order. -/
def State.byteList (s : State) (a : Nat) : Nat → List (BitVec 8)
  | 0 => []
  | n + 1 => s.byte a :: s.byteList (a + 1) n

/-- Write bytes in address order. -/
def State.setByteList (s : State) (a : Nat) : List (BitVec 8) → State
  | [] => s
  | b :: t => (s.setByte a b).setByteList (a + 1) t

/-- Every byte of memory in the canonical form. -/
def Memory.wf (m : List Host.Cell) : Bool := Tab.canon 0 m

end Sys2Proof.Machine
end

