-- ==== Sys2Proof/Machine/Events.lean ====
section
/-! DEFINITION. Contexts, effective priority and the event lines (R133, R135 to R141). -/

namespace Sys2Proof.Machine

/-- Context `c` (R133). -/
def State.ctx (s : State) (c : Nat) : Ctx := Tab.val {} s.seq.ctxs c

/-- Replace context `c`. -/
def State.setCtx (s : State) (c : Nat) (x : Ctx) : State :=
  { s with seq := { s.seq with ctxs := Tab.put {} s.seq.ctxs c x } }

/-- General register `r` of context `c` (R133). -/
def State.gr (s : State) (c r : Nat) : Word := Tab.val 0 s.seq.gregs (16 * c + r)

/-- Set a general register; a written word's parity holds (R118). -/
def State.setGr (s : State) (c r : Nat) (v : Word) : State :=
  { s with seq := { s.seq with
      gregs := Tab.put 0 s.seq.gregs (16 * c + r) v, badPar := NSet.del s.seq.badPar (16 * c + r) } }

/-! ### Phases -/

/-- SCLK runs and D1 is powered: blocks of D1 act. -/
def awake (s : State) : Bool :=
  match s.pow.phase with
  | .booting | .running | .unreleased => true
  | _ => false

/-- SCLK runs: the node is awake, or a warm reset holds it, through which SCLK, string time, the SAFE logic and the power controller run on (R37, R78, R101, R438). -/
def clocked (s : State) : Bool :=
  awake s || (match s.pow.phase with
    | .inReset k => !k.deep
    | _ => false)

/-- D1 is held in reset or without power: no event line is raised and no fault event is stamped (R65, R87, R101, log 86). -/
def held (s : State) : Bool :=
  match s.pow.phase with
  | .inReset _ | .borHeld | .heldOff | .dark => true
  | _ => false

/-- The pins take their unpowered behaviour (R65, R87). -/
def unpowered (s : State) : Bool := decide (s.pow.phase = .heldOff) || decide (s.pow.phase = .dark)

/-- What stands on a pin the chip can drive: nothing while unpowered, the boundary register's level in EXTEST, else what its block drives (R65, R87, R417). The model numbers the pins: 0 BYP, 1 ERR_N, 2 SYNCOUT, 3 + n GPn, 27 + 2n LSnA, 28 + 2n LSnB, 100 and up the PWM pins (log 23). -/
def pinUnder (pin : Nat) (own : Option Bool) (s : State) : Option Bool :=
  if unpowered s then none
  else if s.sec.tap = .extest then
    (if Config.extestDrives s.sec.bsr pin then some (Config.extestLevel s.sec.bsr pin) else none)
  else own

/-! ### Classes of requests (R112, R113) -/

/-- The number of a class, higher is granted first (R113). -/
def Cls.num : Cls → Nat
  | .bulk => 0
  | .control => 1
  | .urgent => 2

/-- The class of a request by an initiator that is neither a frond nor a DMA channel nor the urgent dispatch: CE, JNL and BOOT are CONTROL; HOST, the link's and DEBUG are BULK (R112). -/
def idCls (id : Nat) : Cls := if id = idCe ∨ id = idJnl ∨ id = idBoot then .control else .bulk

/-- The urgent dispatch of a verified urgent frame (R112, R114). -/
def urgentCls : Cls := .urgent

/-! ### Waiting -/

/-- The register that the completion of a wait writes. -/
def WaitFor.rd : WaitFor → Nat
  | .event _ _ rd _ => rd
  | .time _ rd => rd
  | .sem _ rd _ => rd
  | .take _ rd _ => rd
  | .write _ rd _ => rd

/-- The SCLK count at which a wait's timeout elapses; a WAITT and a journal write have none (R140, R143, R171). -/
def WaitFor.due? : WaitFor → Option Nat
  | .event _ _ _ due => some due
  | .sem _ _ due => some due
  | .take _ _ due => some due
  | _ => none

/-- The contexts in WAIT whose wait a test accepts. -/
def waitersOn (p : WaitFor → Bool) (s : State) : List (Nat × Ctx) :=
  s.seq.ctxs.filter (fun e => e.2.st = .wait && match e.2.wait with
    | some w => p w
    | none => false)

/-- The one of two waiters that has waited longer; a tie goes to the lower context (R139). -/
def longer (a b : Nat × Ctx) : Nat × Ctx := if b.2.since < a.2.since then b else a

/-- The longest-waiting of a list of waiters (R139). -/
def longest : List (Nat × Ctx) → Option (Nat × Ctx)
  | [] => none
  | a :: t => some (t.foldl longer a)

/-- Whether a context waits on semaphore `n` (R144). -/
def WaitFor.onSem (n : Nat) : WaitFor → Bool
  | .sem m _ _ => m = n
  | _ => false

/-- Effective priority: the base priority, raised to that of every waiter on a semaphore the context holds (R138). Ranks rise along any chain of waits, so sixteen levels suffice (R477). -/
def epriFuel : Nat → State → Nat → Nat
  | 0, s, c => (s.ctx c).pri
  | n + 1, s, c =>
    s.seq.ctxs.foldl (fun p e =>
      match e.2.st, e.2.wait with
      | .wait, some (.sem m _ _) =>
        if s.b1 F.seqSemHeld m && s.g1 F.seqSemOwner m = c then max p (epriFuel n s e.1) else p
      | _, _ => p) (s.ctx c).pri

/-- The effective priority of a context (R138). -/
def epri (s : State) (c : Nat) : Nat := epriFuel 16 s c

/-- Contexts whose effective priority is below 3 lose their count of urgent instructions (R137). -/
def normUrg (s : State) : State :=
  s.seq.ctxs.foldl (fun t e => if e.2.urg ≠ 0 ∧ epri s e.1 < 3 then t.setCtx e.1 { t.ctx e.1 with urg := 0 } else t) s

/-- A context in WAIT completes its instruction: the destination takes `v`, the PC moves on, and the context is READY (R135, R140). -/
def wakeCtx (c : Nat) (v : Word) (s : State) : State :=
  let x := s.ctx c
  match x.wait with
  | some w => ((s.setGr c w.rd v).setCtx c { x with st := .ready, wait := none, since := 0, pc := (x.pc + 4) % 2 ^ 32 })
  | none => s

/-- A context enters WAIT; its count of urgent instructions restarts (R135, R137). -/
def enterWait (c : Nat) (w : WaitFor) (s : State) : State :=
  let s := s.setCtx c { s.ctx c with st := .wait, wait := some w, since := s.seq.waits, urg := 0 }
  { s with seq := { s.seq with waits := s.seq.waits + 1 } }

/-! ### Event lines (R139, R141) -/

/-- Whether a wait is an EDGE wait, or a LATCH wait, on a line. -/
def WaitFor.onLine (line : Nat) (latch : Bool) : WaitFor → Bool
  | .event l m _ _ => l = line && m = latch
  | _ => false

/-- A raise on an event line takes effect: every EDGE waiter, one LATCH waiter, or else the pending latch (R139). -/
def raiseNow (line : Nat) (s : State) : State :=
  let s := (waitersOn (WaitFor.onLine line false) s).foldl (fun t e => wakeCtx e.1 0 t) s
  match longest (waitersOn (WaitFor.onLine line true) s) with
  | some e => wakeCtx e.1 0 s
  | none => { s with seq := { s.seq with latch := s.seq.latch ||| (1#256 <<< line) } }

/-- A raise on an event line; several on one edge count as one (R139). -/
def raiseLine (line : Nat) (s : State) : State :=
  if held s then s
  else match s.edge with
    | some e => { s with edge := some { e with lines := NSet.add e.lines line } }
    | none => raiseNow line s

/-- The edge ends: the lines raised on it take effect (R139). -/
def edgeEnd (s : State) : State :=
  match s.edge with
  | some e => e.lines.foldl (fun u l => raiseLine l u) { s with edge := none }
  | none => s

/-- What happens on one SCLK edge: the lines raised in `f` take effect at its end, once each (R139), and a source has one event (R426). -/
def oneEdge (f : State → State) (s : State) : State :=
  if s.edge.isSome then f s else edgeEnd (f { s with edge := some {} })

/-- An access that has all its effects on one SCLK edge (R139). -/
def oneEdgeOut {α : Type} (f : State → α × State) (s : State) : α × State :=
  if s.edge.isSome then f s
  else
    let r := f { s with edge := some {} }
    (r.1, edgeEnd r.2)

/-- Raise a line when a condition holds. -/
def raiseIf (b : Bool) (line : Nat) (s : State) : State := if b then raiseLine line s else s

/-- Hardware event lines (R141). -/
def lineStmCycle : Nat := 0
/-- STM_SFRAME (R141). -/
def lineStmSframe : Nat := 1
/-- STM_STATE (R141). -/
def lineStmState : Nat := 2
/-- STM_STEP (R141). -/
def lineStmStep : Nat := 3
/-- SUPPLY_WARN (R141). -/
def lineSupplyWarn : Nat := 4
/-- CTX_FAULT (R141). -/
def lineCtxFault : Nat := 5
/-- SEQ_SEVERE (R141). -/
def lineSeqSevere : Nat := 6
/-- JNL_ACC0 to JNL_ACC3 (R141). -/
def lineJnlAcc (cls : Nat) : Nat := 8 + cls
/-- JNL_RECOVER (R141). -/
def lineJnlRecover : Nat := 12
/-- JNL_SPACE (R141). -/
def lineJnlSpace : Nat := 13
/-- SLK_RX (R141). -/
def lineSlkRx : Nat := 14
/-- SLK_TXDONE (R141). -/
def lineSlkTxdone : Nat := 15
/-- SLK_BEACON (R141). -/
def lineSlkBeacon : Nat := 16
/-- SLK_KALOSS (R141). -/
def lineSlkKaloss : Nat := 17
/-- PST_A to PST_H (R141). -/
def linePst (x : Nat) : Nat := 18 + x
/-- ADC_FAILOVER (R141). -/
def lineAdcFailover : Nat := 26
/-- ADC_CAL (R141). -/
def lineAdcCal : Nat := 27
/-- CE_BUDGET (R141). -/
def lineCeBudget : Nat := 28
/-- CE_TRACE (R141). -/
def lineCeTrace : Nat := 29
/-- HKR_RAIL (R141). -/
def lineHkrRail : Nat := 30
/-- HKR_SLOT (R141). -/
def lineHkrSlot : Nat := 31
/-- CHG_STAT (R141). -/
def lineChgStat : Nat := 32
/-- NVS_ERR (R141). -/
def lineNvsErr : Nat := 33
/-- DMA_G0 to DMA_G3 (R141). -/
def lineDma (ch : Nat) : Nat := 34 + ch / 8
/-- TWB_HOST (R141). -/
def lineTwbHost : Nat := 38
/-- TWB2_DONE (R141). -/
def lineTwb2Done : Nat := 39
/-- FLT_SEVERE (R141). -/
def lineFltSevere : Nat := 40
/-- FLT_SAFE (R141). -/
def lineFltSafe : Nat := 41
/-- RTC_ALARM (R141). -/
def lineRtcAlarm : Nat := 42
/-- RTC_SWITCH (R141). -/
def lineRtcSwitch : Nat := 43
/-- FAN_FAULT (R141). -/
def lineFanFault : Nat := 44
/-- CRY_DONE (R141). -/
def lineCryDone : Nat := 45
/-- TM0 to TM7 (R141). -/
def lineTm (n : Nat) : Nat := 46 + n

/-- An alert event of the two-wire bus, when its enable is set (R392). -/
def alertEvent (n : Nat) (s : State) : State :=
  if (s.g F.twbAlertEn).testBit n then s.p F.twbAlertPend 1 else s

/-! ### String time read by every block (R38, R39, R53) -/

/-- The presented stamp: cycle and phase, 48 bits (R38, R53). -/
def stampNow (s : State) : Nat := s.stm.acc.toNat / 2 ^ 32

/-- The presented cycle count. -/
def cycleNow (s : State) : Nat := s.stm.acc.toNat / 2 ^ 48

/-- The presented phase. -/
def phaseNow (s : State) : Nat := stampNow s % 2 ^ 16

/-- Stamp `a` lies in the past at time `t`: (a − t) modulo 2^48 is 2^47 or greater (R39). -/
def stampPast (a t : Nat) : Bool := decide (2 ^ 47 ≤ (a + 2 ^ 48 - t % 2 ^ 48) % 2 ^ 48)

/-- A stamp is due: it is the presented one, or lies in the past (R53, R54). -/
def stampDue (a t : Nat) : Bool := decide (a % 2 ^ 48 = t % 2 ^ 48) || stampPast a t

/-- Lateness in ticks, saturating at 65 535 (R143). -/
def lateness (a t : Nat) : Nat := min ((t + 2 ^ 48 - a % 2 ^ 48) % 2 ^ 48) 65535

end Sys2Proof.Machine
end

