-- ==== Sys2Proof/Machine/FaultCore.lean ====
section
/-! DEFINITION. Fault events: stamping, classification by counting, and the severe bit (R425 to R429). Each block's severe action stands in the block's own file. -/

namespace Sys2Proof.Machine

/-- Source numbers of R425. -/
def srcStm : Nat := 0
/-- SYS (R425). -/
def srcSys : Nat := 1
/-- SEQ (R425). -/
def srcSeq : Nat := 2
/-- JNL (R425). -/
def srcJnl : Nat := 3
/-- SLK (R425). -/
def srcSlk : Nat := 4
/-- PST_A to PST_H (R425). -/
def srcPst (x : Nat) : Nat := 5 + x
/-- CE (R425). -/
def srcCe : Nat := 13
/-- ADC (R425). -/
def srcAdc : Nat := 14
/-- HKR (R425). -/
def srcHkr : Nat := 15
/-- CHG (R425). -/
def srcChg : Nat := 16
/-- NVS (R425). -/
def srcNvs : Nat := 17
/-- DMA (R425). -/
def srcDma : Nat := 18
/-- OTP (R425). -/
def srcOtp : Nat := 19
/-- LCS (R425). -/
def srcLcs : Nat := 20
/-- CRY (R425). -/
def srcCry : Nat := 21
/-- FAN (R425). -/
def srcFan : Nat := 22
/-- FLT (R425). -/
def srcFlt : Nat := 23

/-- Source `k` is SEVERE (R430). -/
def isSevere (k : Nat) (s : State) : Bool := (s.g F.fltSevSev).testBit k

/-- The stamps a source holds, newest first. -/
def fifoOf (k : Nat) (s : State) : List Stamp := Tab.val [] s.flt.fifo k

/-- Whether a FIFO just pushed makes its event severe (R428). -/
def severeBy (n t : Nat) (q : List Stamp) : Bool :=
  match q.head?, q[n - 1]? with
  | some a, some b => decide ((a.us + 2 ^ 32 - b.us) % 2 ^ 32 ≤ 1000 * t)
  | _, _ => false

/-- The stamp of an event on this edge (R427). -/
def stampEvent (s : State) : Stamp := ⟨s.g F.fltUstUs, cycleNow s, phaseNow s⟩

/-- A fault event of source `k` is stamped and judged; a severe one sets FLT_SEV and raises FLT_SEVERE (R427 to R429). Answers whether it was severe. -/
def faultStamp (k : Nat) (s : State) : Bool × State :=
  let q := (stampEvent s :: fifoOf k s).take 8
  let sev := severeBy (s.g1 F.fltSrcCfgNm1 k + 1) (s.g1 F.fltSrcCfgT k) q
  let s := { s with flt := { s.flt with fifo := Tab.put [] s.flt.fifo k q } }
  let s := ((s.p1 F.fltSrcStatDepth k q.length).p1 F.fltSrcStatLastsev k (bit sev)).sat1 F.fltSrcStatEvcnt k 1
  (sev, if sev then raiseLine lineFltSevere (s.p F.fltSevSev (s.g F.fltSevSev ||| 2 ^ k)) else s)

/-- A flag of source `k` is set: an event, but that several flags set on one edge make one event (R426). Answers whether the event is severe. -/
def faultPush (k : Nat) (s : State) : Bool × State :=
  if held s then (false, s)
  else match s.edge with
    | none => faultStamp k s
    | some e =>
      if NSet.has e.sources k then (NSet.has e.severe k, s)
      else
        let (sev, t) := faultStamp k { s with edge := some { e with sources := NSet.add e.sources k } }
        (sev, if sev then { t with edge := t.edge.map (fun d => { d with severe := NSet.add d.severe k }) } else t)

/-- A fault event of a source that has no severe action (R425: STM, SYS, JNL, SLK, ADC restrict, FLT). -/
def faultEvent (k : Nat) (s : State) : State := (faultPush k s).2

end Sys2Proof.Machine
end

