-- ==== Sys2Proof/Machine/Fan.lean ====
section
/-! DEFINITION. The enclosure fan: demand, start sequence, running, protection and staging (R456 to R470). -/

namespace Sys2Proof.Machine

/-- Change the fan's state. -/
def State.modFan (s : State) (f : Fan → Fan) : State := { s with fan := f s.fan }

/-- Fan states of FAN_STAT.STATE (R469). -/
def fanStopped : Nat := 0
/-- ALIGN (R469). -/
def fanAlign : Nat := 1
/-- RAMP (R469). -/
def fanRamp : Nat := 2
/-- DETECT (R469). -/
def fanDetect : Nat := 3
/-- RUN (R469). -/
def fanRun : Nat := 4
/-- BACKOFF (R469). -/
def fanBackoff : Nat := 5
/-- STALLED (R469). -/
def fanStalled : Nat := 6
/-- NOPOWER (R469). -/
def fanNopower : Nat := 7

/-- The bridge has its supply and its domain (R465, R466). -/
def fanPowered (s : State) : Bool := s.fan.vm && (s.g F.hkrDomstatPg).testBit 14

/-- The state the fan reads: NOPOWER while D14 is off or FAN_VM is low (R465, R466). -/
def fanState (s : State) : Nat := if fanPowered s then s.g F.fanStatState else fanNopower

/-- A fault flag of the fan block stands (R467). -/
def fanFaulted (s : State) : Bool :=
  s.b F.fanStatFanStall || s.b F.fanStatTachLost || s.b F.fanStatOc || s.b F.fanStatOt

/-- The fan goes to STOPPED with its bridge off, and TRY returns to 1 (R461, R465). -/
def fanStop (s : State) : State := ((s.p F.fanStatState fanStopped).p F.fanStatTry 1).modFan (fun f => { f with step3 := false })

/-- A fault flag of the block is set: FAN_FAULT, the fault event, and LOCK with the bridge off when it is severe (R467). -/
def fanFault (f : Fam) (s : State) : State :=
  let s := raiseLine lineFanFault (s.p f 1)
  let (sev, s) := faultPush srcFan s
  if sev then fanStop (s.p F.fanCtlLock 1) else s

/-- No start may begin (R465, R467). -/
def fanBarred (s : State) : Bool :=
  s.b F.fanCtlLock || s.b F.fanStatOc || s.b F.fanStatOt || !fanPowered s

/-- A start attempt begins with step 0 (R461). -/
def fanBegin (try_ : Nat) (s : State) : State :=
  ((s.p F.fanStatState fanDetect).p F.fanStatTry try_).modFan (fun f => { f with step3 := false })

/-- The raw demand of the mode in use (R457, R460). -/
def fanRaw (s : State) : Nat :=
  match s.fan.mode with
  | 1 => s.fan.zraw
  | 2 =>
    if s.fan.lost then s.g F.fanSpdMaxspd
    else
      let v := (Tab.val 0 s.ce.last 0x120).toNat
      if v.testBit 31 then 0 else v % 2 ^ 16
  | 3 => s.g F.fanFixSpd
  | _ => 0

/-- The mode in use follows FAN_CTL.MODE at a regulator step; entry to LOOP starts its timer (R457, R460). -/
def fanTakeMode (s : State) : State :=
  let m := s.g F.fanCtlMode
  if m = s.fan.mode then s else s.modFan (fun f => { f with mode := m, lost := false })

/-- Measured speed in rpm from the crossing rate, or from FG (R456). -/
def fanSpeed (fcross ffg : Nat) (s : State) : Nat :=
  if s.b F.fanStatSrc then 60 * ffg / (s.g F.fanCfgPpr + 1) else 10 * fcross / s.g F.fanCfgPoles

/-- The change of duty in one regulator step: truncated toward zero, within ±16 (R463). -/
def dutyStep (demand speed ki : Nat) : Int :=
  max (-16) (min 16 (Int.tdiv (((demand : Int) - speed) * ki) 1024))

/-- RUN regulates the duty (R463). -/
def fanRegulate (s : State) : State :=
  let d := (s.g F.fanDutyDuty : Int) + dutyStep (s.g F.fanSpeedDemand) (s.g F.fanSpeedSpeed) (s.g F.fanLoopKi)
  s.p F.fanDutyDuty (max 0 (min 1023 d)).toNat

/-- The demand in use follows the raw demand (R457, R461). -/
def fanDemand (s : State) : State :=
  let raw := fanRaw s
  let lo := s.g F.fanSpdMinspd
  let hi := s.g F.fanSpdMaxspd
  let st := fanState s
  if st = fanStopped then
    if lo ≤ raw then
      let s := s.p F.fanSpeedDemand (min raw hi)
      if fanBarred s then s else fanBegin 1 s
    else s.p F.fanSpeedDemand 0
  else if raw < lo - lo / 8 then
    let s := s.p F.fanSpeedDemand 0
    if st = fanStalled ∨ st = fanNopower then s else fanStop s
  else
    let s := s.p F.fanSpeedDemand (max lo (min raw hi))
    if st = fanRun then fanRegulate s else s

/-- The 10 ms regulator step, with the crossing rate and FG rate measured in Hz, whether the current limit acts, and whether twelve consecutive valid crossings were seen (R456, R457, R463, R464). -/
def fanStep (fcross ffg : Nat) (ilim crossings : Bool) (s : State) : State :=
  let s := fanTakeMode s
  let s := if crossings then (s.p F.fanStatBemfLost 0).p F.fanStatSrc 0 else s
  let s := (s.p F.fanSpeedSpeed (min (fanSpeed fcross ffg s) 65535)).p F.fanStatIlimact (bit ilim)
  fanDemand s

/-- A 16-bit register value as a signed number. -/
def int16 (v : Nat) : Int := if v < 2 ^ 15 then v else (v : Int) - 2 ^ 16

/-- The demand of a curve at code `c` (R458). -/
def curve (c x0 x1 x2 x3 : Int) (d0 d1 d2 d3 : Nat) : Nat :=
  let seg := fun (xa xb : Int) (da db : Nat) => ((da : Int) + Int.tdiv (((db : Int) - da) * (c - xa)) (xb - xa)).toNat
  if c ≤ x0 then d0
  else if x3 ≤ c then d3
  else if c < x1 then seg x0 x1 d0 d1
  else if c < x2 then seg x1 x2 d1 d2
  else seg x2 x3 d2 d3

/-- The four demands of a zone. -/
def zoneD (k : Nat) (s : State) : List Nat :=
  [s.g1 F.fanZD01D0 k, s.g1 F.fanZD01D1 k, s.g1 F.fanZD23D2 k, s.g1 F.fanZD23D3 k]

/-- The logical channel of a zone, 32·CONV + CH (R470). -/
def zoneChan (k : Nat) (s : State) : Nat := 32 * s.g1 F.fanZSrcConv k + s.g1 F.fanZSrcCh k

/-- One zone's demand: its curve, or the highest of its demands while stale (R458, R459). -/
def zoneDemand (k : Nat) (s : State) : Nat :=
  if NSet.has s.fan.stale k then (zoneD k s).foldl max 0
  else
    curve (Tab.val 0 s.adc.code (zoneChan k s)) (int16 (s.g1 F.fanZX01X0 k)) (int16 (s.g1 F.fanZX01X1 k))
      (int16 (s.g1 F.fanZX23X2 k)) (int16 (s.g1 F.fanZX23X3 k))
      (s.g1 F.fanZD01D0 k) (s.g1 F.fanZD01D1 k) (s.g1 F.fanZD23D2 k) (s.g1 F.fanZD23D3 k)

/-- The 100 ms zone evaluation (R458). -/
def zoneEval (s : State) : State :=
  let d := (List.range 8).foldl (fun m k => if s.b1 F.fanZSrcEn k then max m (zoneDemand k s) else m) 0
  s.modFan (fun f => { f with zraw := d })

/-- An enabled zone's channel has given no result for 1 s (R459). -/
def zoneStale (k : Nat) (s : State) : State :=
  if s.b1 F.fanZSrcEn k then (s.p F.fanStatZstale 1).modFan (fun f => { f with stale := NSet.add f.stale k }) else s

/-- A result ends the staleness of the zones on its channel (R459). -/
def zoneFresh (ch : Nat) (s : State) : State :=
  s.modFan (fun f => { f with stale := f.stale.filter (fun k => zoneChan k s ≠ ch) })

/-- No CE write has reached the fan port for TMO (R460). -/
def loopTimeout (s : State) : State :=
  if s.fan.mode = 2 then (s.p F.fanStatLoopLost 1).modFan (fun f => { f with lost := true }) else s

/-- A control-engine write reaches the fan port (R282, R460). -/
def fanPort (v : BitVec 32) (s : State) : State :=
  { s with ce := { s.ce with last := Tab.set s.ce.last 0x120 v } }.modFan (fun f => { f with lost := false })

/-- A start attempt fails (R462): BACKOFF, or STALLED after the sixth. -/
def fanFail (try_ : Nat) (s : State) : State :=
  if 6 ≤ try_ then fanFault F.fanStatFanStall ((s.p F.fanStatState fanStalled).p F.fanStatTry try_)
  else (s.p F.fanStatState fanBackoff).p F.fanStatTry try_

/-- A start step ends; in DETECT, `good` says that it found the rotation it looks for (R461). -/
def startStepEnd (good : Bool) (s : State) : State :=
  let st := fanState s
  if st = fanDetect then
    if s.fan.step3 then
      if good then
        let (n, s) := s.draw
        (s.p F.fanStatState fanRun).p F.fanDutyDuty (Config.fanRampDuty n).toNat
      else fanFail (s.g F.fanStatTry) s
    else if good then (s.p F.fanStatState fanRun).p F.fanDutyDuty 0
    else s.p F.fanStatState fanAlign
  else if st = fanAlign then s.p F.fanStatState fanRamp
  else if st = fanRamp then (s.p F.fanStatState fanDetect).modFan (fun f => { f with step3 := true })
  else s

/-- The wait after a failed attempt ends (R462). -/
def backoffExpiry (s : State) : State :=
  if fanState s = fanBackoff then fanBegin (s.g F.fanStatTry + 1) s else s

/-- Back-EMF is lost in RUN while FG is valid (R464). -/
def bemfLost (s : State) : State :=
  if fanState s = fanRun ∧ s.b F.fanCfgFgen then (s.p F.fanStatBemfLost 1).p F.fanStatSrc 1 else s

/-- FG is lost in RUN while back-EMF is valid (R464). -/
def tachLost (s : State) : State :=
  if fanState s = fanRun ∧ s.b F.fanCfgFgen then fanFault F.fanStatTachLost (s.p F.fanStatSrc 0) else s

/-- Neither signal is valid in RUN: the failure of attempt 1 (R464). -/
def signalStall (s : State) : State := if fanState s = fanRun then fanFail 1 s else s

/-- Phase current above 2.5 A, or the bridge too hot (R465). -/
def bridgeFault (f : Fam) (s : State) : State := fanFault f (if fanPowered s then fanStop s else s)

/-- FAN_VM falls below 4.5 V (R461, R465). -/
def fanVmLow (s : State) : State := (fanStop (s.p F.fanStatVmuv 1)).modFan (fun f => { f with vm := false })

/-- FAN_VM rises above 5.0 V (R465). -/
def fanVmReturn (s : State) : State :=
  if s.fan.vm then s else (fanStop s).modFan (fun f => { f with vm := true })

/-- D14 comes or goes: the fan starts afresh from STOPPED (R466). -/
def fanDomain (s : State) : State := fanStop s

/-! ### Registers (R467 to R469) -/

/-- A write of FAN_CTL (R467): one that is refused changes nothing (R15). -/
def fanCtlW (v : Nat) (s : State) : Code × State :=
  if s.b F.fanCtlLock ∧ v % 4 ≠ 0 then (.busy, s)
  else
    let t := if v.testBit 8 && !fanFaulted s then s.p F.fanCtlLock 0 else s
    (.ok, t.p F.fanCtlMode (v % 4))

/-- A write of FAN_STAT: clearing FAN_STALL returns a stalled fan to STOPPED (R462). -/
def fanStatW (id addr v : Nat) (s : State) : Code × State :=
  let (c, t) := genWrite id addr v s
  (c, if s.b F.fanStatFanStall && !t.b F.fanStatFanStall && decide (s.g F.fanStatState = fanStalled) then fanStop t else t)

/-- The checks of FAN_COMMIT (R468, R469). -/
def fanCheck (s : State) : Bool :=
  let k := stageOf F.fanCfgPoles.addr
  let v := fun f => s.sv k f
  let idle := decide (fanState s = fanStopped) || decide (fanState s = fanStalled) || decide (fanState s = fanNopower)
  decide (1 ≤ v F.fanCfgPoles) && decide (v F.fanCfgPoles ≤ 8) && decide (v F.fanCfgIlim ≠ 0) &&
    decide (v F.fanStartAlignt ≠ 0) && decide (v F.fanStartRampt ≠ 0) && decide (v F.fanStartBkoff ≠ 0) &&
    decide (v F.fanLoopTmo ≠ 0) && decide (v F.fanSpdMinspd ≠ 0) && decide (v F.fanSpdMinspd ≤ v F.fanSpdMaxspd) &&
    (List.range 8).all (fun z => decide (s.sv1 k F.fanZSrcEn z = 0) ||
      (decide (int16 (s.sv1 k F.fanZX01X0 z) < int16 (s.sv1 k F.fanZX01X1 z)) &&
        decide (int16 (s.sv1 k F.fanZX01X1 z) < int16 (s.sv1 k F.fanZX23X2 z)) &&
        decide (int16 (s.sv1 k F.fanZX23X2 z) < int16 (s.sv1 k F.fanZX23X3 z)))) &&
    (idle || (decide (v F.fanCfgPoles = s.g F.fanCfgPoles) && decide (v F.fanCfgPpr = s.g F.fanCfgPpr) &&
      decide (v F.fanCfgFgen = s.g F.fanCfgFgen)))

/-- A write of FAN_COMMIT (R468). -/
def fanCommit (id : Nat) (s : State) : Code × State :=
  let k := stageOf F.fanCfgPoles.addr
  commitWith k id fanCheck (fun t => t.applyStage k) s

/-- Writes of the FAN block with rules of their own. -/
def fanWrite (id addr v : Nat) (s : State) : Code × State :=
  let off := addr % 0x1000
  if off = 0x000 then fanCtlW v s
  else if off = 0x018 then if v % 2 = 1 then fanCommit id s else (.ok, s)
  else if off = 0x020 then fanStatW id addr v s
  else genWrite id addr v s

/-- Reads of the FAN block: STATE reads NOPOWER without power (R466). -/
def fanRead (addr : Nat) (s : State) : Code × Nat × State :=
  if addr % 0x1000 = 0x020 then genRead addr (s.p F.fanStatState (fanState s)) |> fun r => (r.1, r.2.1, s)
  else genRead addr s

end Sys2Proof.Machine
end

