-- ==== Sys2Proof/Machine/CeCore.lean ====
section
/-! DEFINITION. The control engine's program set: words, descriptors, the commit checks and the cycle-budget proof (R266 to R278), and the FIRST and LAST of a change of mode (R282). -/

namespace Sys2Proof.Machine

/-- Change the control engine's state. -/
def State.modCe (s : State) (f : Ce → Ce) : State := { s with ce := f s.ce }

/-! ### Instruction words (R270, R271) -/

/-- The instructions of R271. -/
inductive CeOp where
  | mac | msu | mul | macr | mulr | ada | lda | cla | asr | sat | satw
  | add | sub | min | max | mov | sel | ldi | rdp | wrp | pre | nop
deriving DecidableEq, Repr

/-- A decoded control-engine word: its operation and every field position of R270. -/
structure CeWord where
  op : CeOp
  a : Nat
  f1 : Nat
  f2 : Nat
  f3 : Nat
  c : Nat
  sh : Nat
  port : Nat
  imm : BitVec 16
deriving DecidableEq, Repr

/-- The operation of an opcode and the bits of the word its row does not name, which must be zero (R270, R271). -/
def ceOp : Nat → Option (CeOp × Nat)
  | 0x01 => some (.mac, 0x000F81FF)
  | 0x02 => some (.msu, 0x000F81FF)
  | 0x03 => some (.mul, 0x000F81FF)
  | 0x04 => some (.macr, 0x00007E0F)
  | 0x05 => some (.mulr, 0x00007E0F)
  | 0x06 => some (.ada, 0x000FFE0F)
  | 0x07 => some (.lda, 0x000FFE0F)
  | 0x08 => some (.cla, 0x01FFFFFF)
  | 0x09 => some (.asr, 0x01FFFE0F)
  | 0x0A => some (.sat, 0x000F81FF)
  | 0x0B => some (.satw, 0x000FFFFF)
  | 0x0C => some (.add, 0x060003FF)
  | 0x0D => some (.sub, 0x060003FF)
  | 0x0E => some (.min, 0x060003FF)
  | 0x0F => some (.max, 0x060003FF)
  | 0x10 => some (.mov, 0x06007FFF)
  | 0x11 => some (.sel, 0x000003FF)
  | 0x12 => some (.ldi, 0x060F0000)
  | 0x13 => some (.rdp, 0x060FF000)
  | 0x14 => some (.wrp, 0x060FF000)
  | 0x15 => some (.pre, 0x000FF000)
  | 0x1F => some (.nop, 0x07FFFFFF)
  | _ => none

/-- Bits [hi:lo] of a word, by low bit and width. -/
def bitsOf (w lo n : Nat) : Nat := w / 2 ^ lo % 2 ^ n

/-- A word under R270; none where the opcode is reserved or a bit that must be zero is not. -/
def ceDecode (w : Nat) : Option CeWord :=
  match ceOp (bitsOf w 27 5) with
  | some (op, z) =>
    if w &&& z = 0 then
      some {
        op := op, a := bitsOf w 25 2, f1 := bitsOf w 20 5, f2 := bitsOf w 15 5, f3 := bitsOf w 10 5
        c := bitsOf w 9 6, sh := bitsOf w 4 5, port := bitsOf w 0 12, imm := BitVec.ofNat 16 w }
    else none
  | none => none

/-! ### Ports (R272) -/

/-- Ports RDP may name (R272). -/
def portReads (p : Nat) : Bool :=
  decide (p < 0x70) || (decide (0x80 ≤ p) && decide (p < 0xA0)) || (decide (0x100 ≤ p) && decide (p ≤ 0x120))

/-- Ports WRP may name (R272). -/
def portWrites (p : Nat) : Bool :=
  (decide (0x80 ≤ p) && decide (p < 0xA0)) || (decide (0x100 ≤ p) && decide (p ≤ 0x120))

/-- Set-point slot ports. -/
def isSpPort (p : Nat) : Bool := decide (0x80 ≤ p) && decide (p < 0xA0)

/-- Duty ports. -/
def isDutyPort (p : Nat) : Bool := decide (0x100 ≤ p) && decide (p < 0x120)

/-! ### Index space (R288) -/

/-- Word `i` of an index space; an unlisted one is 0. -/
def ixGet (t : Tab Nat) (i : Nat) : Nat := Tab.val 0 t i

/-- Instruction `i` of program `n`. -/
def ceText (t : Tab Nat) (n i : Nat) : Nat := ixGet t (256 * n + i)

/-- Coefficient `k` of program `n`, as a signed number. -/
def coefVal (t : Tab Nat) (n k : Nat) : Int := (BitVec.ofNat 32 (ixGet t (0x2000 + 128 * n + 2 * k))).toInt

/-- Its shift. -/
def coefSh (t : Tab Nat) (n k : Nat) : Nat := ixGet t (0x2000 + 128 * n + 2 * k + 1) % 32

/-- Descriptor word `w` of program `n`. -/
def descWord (t : Tab Nat) (n w : Nat) : Nat := ixGet t (0x3000 + 4 * n + w)

/-- The program an index belongs to. -/
def ixProg (i : Nat) : Nat :=
  if i < 0x2000 then i / 256 else if i < 0x3000 then (i - 0x2000) / 128 else (i - 0x3000) / 4

/-- Trigger kinds of R273. -/
inductive Trig where
  | pwm (x y : Nat)
  | stime (k ofs : Nat)
  | result (conv ch mint : Nat)
  | nest (parent n : Nat)
deriving DecidableEq, Repr

/-- A sample entry: logical converter and channel (R273). -/
structure Sample where
  conv : Nat
  ch : Nat
deriving DecidableEq, Repr

/-- EN of program `n`. -/
def progEn (t : Tab Nat) (n : Nat) : Bool := (descWord t n 0).testBit 0

/-- The lane of program `n`. -/
def progLane (t : Tab Nat) (n : Nat) : Nat := bitsOf (descWord t n 0) 4 1

/-- The instruction count of program `n`. -/
def progLen (t : Tab Nat) (n : Nat) : Nat := bitsOf (descWord t n 0) 5 8 + 1

/-- The trigger of program `n`; none for a reserved TRIG (R273). -/
def progTrig (t : Tab Nat) (n : Nat) : Option Trig :=
  let d := descWord t n 0
  let p := descWord t n 2 % 2 ^ 16
  match bitsOf d 1 3 with
  | 1 => some (.pwm (bitsOf d 16 3) (bitsOf d 19 1))
  | 2 => some (.stime (bitsOf d 16 5) p)
  | 3 => some (.result (bitsOf d 21 1) (bitsOf d 16 5) p)
  | 4 => some (.nest (bitsOf d 16 5) (bitsOf d 24 8 + 1))
  | _ => none

/-- Sample `e` of program `n`, where it is valid (R273). -/
def progSample (t : Tab Nat) (n e : Nat) : Option Sample :=
  let b := bitsOf (descWord t n 1) (8 * e) 8
  if b.testBit 7 then some ⟨bitsOf b 5 1, bitsOf b 0 5⟩ else none

/-- The samples of program `n`, with their entries. -/
def progSamples (t : Tab Nat) (n : Nat) : List (Nat × Sample) :=
  (List.range 4).filterMap (fun e => (progSample t n e).map (fun x => (e, x)))

/-- Program `n` belongs to a pair: PAIR stands on its even member (R273, R283). -/
def paired (t : Tab Nat) (n : Nat) : Bool := (descWord t (n / 2 * 2) 0).testBit 13

/-- Program `n` cannot run, and does not count in the proof: a member of a pair whose even member is not enabled (R276, R283). -/
def pairHidden (t : Tab Nat) (n : Nat) : Bool := paired t n && !progEn t (n / 2 * 2)

/-! ### Commit checks (R278) -/

/-- One instruction of program `n` holds no reserved encoding; PRE names a port that keeps LAST (R270 to R272, R282, log 72). -/
def ceWordOk (t : Tab Nat) (n i : Nat) : Bool :=
  match ceDecode (ceText t n i) with
  | none => false
  | some w =>
    match w.op with
    | .sat => decide (w.c ≤ 62) && decide (coefSh t n w.c = 0) && decide (coefSh t n (w.c + 1) = 0) &&
        decide (coefVal t n w.c ≤ coefVal t n (w.c + 1))
    | .pre => decide (16 ≤ w.f1) && portWrites w.port
    | .rdp => portReads w.port
    | .wrp => portWrites w.port
    | _ => true

/-- The text of program `n` holds no reserved encoding; words beyond LEN are ignored (R271). -/
def ceTextOk (t : Tab Nat) (n : Nat) : Bool := (List.range (progLen t n)).all (ceWordOk t n)

/-- Valid samples start at entry 0 and run without a gap (R273). -/
def samplesOk (t : Tab Nat) (n : Nat) : Bool :=
  (List.range 3).all (fun e => (progSample t n e).isSome || (progSample t n (e + 1)).isNone)

/-- The bits no descriptor uses are zero, and PAIR stands on no odd program (R273, log 72). -/
def descOk (t : Tab Nat) (n : Nat) : Bool :=
  decide (bitsOf (descWord t n 0) 14 2 = 0) && !(decide (n % 2 = 1) && (descWord t n 0).testBit 13) &&
    decide (descWord t n 2 < 2 ^ 16) && decide (descWord t n 3 = 0)

/-- The bits TSEL, NM1 and the sample list leave unused are zero: TSEL above its `w` bits, and NM1 where it has no meaning (R273, log 72). -/
def tselOk (t : Tab Nat) (n w : Nat) (nm1 : Bool) : Bool :=
  decide (bitsOf (descWord t n 0) 16 8 < 2 ^ w) && (nm1 || decide (bitsOf (descWord t n 0) 24 8 = 0)) &&
    (List.range 4).all (fun e => !(descWord t n 1).testBit (8 * e + 6))

/-- The trigger and sample list of program `n` are accepted (R273, R278). -/
def ceTrigOk (t : Tab Nat) (n : Nat) : Bool :=
  let param := descWord t n 2
  match progTrig t n with
  | none => false
  | some (.pwm _ _) => tselOk t n 4 false && decide (param = 0) && samplesOk t n
  | some (.stime k _) => tselOk t n 5 false && decide (k ≤ 16) && samplesOk t n
  | some (.result _ _ m) => tselOk t n 6 false && decide (1 ≤ m) && (progSamples t n).isEmpty
  | some (.nest p _) => tselOk t n 5 true && decide (param = 0) && (progSamples t n).isEmpty && decide (p ≠ n) && progEn t p &&
      (match progTrig t p with
        | some (.pwm _ _) => true
        | some (.stime _ _) => true
        | _ => false)

/-- The ports the text of program `n` can write. -/
def progWrites (t : Tab Nat) (n : Nat) : List Nat :=
  (List.range (progLen t n)).filterMap (fun i =>
    match ceDecode (ceText t n i) with
    | some w => if w.op = .wrp then some w.port else none
    | none => none)

/-- The duty ports of phase `y` of input `x` (R272). -/
def dutyPort (x y d : Nat) : Nat := 0x100 + 4 * x + 2 * y + d

/-- Program `n` writes duty ports only of the phase it is bound to (R278). -/
def dutyOk (t : Tab Nat) (n : Nat) : Bool :=
  (progWrites t n).all (fun p =>
    !isDutyPort p ||
      (match progTrig t n with
        | some (.pwm x y) => decide (p = dutyPort x y 0) || decide (p = dutyPort x y 1)
        | _ => false))

/-- Two programs are the members of one pair. -/
def pairMates (t : Tab Nat) (n m : Nat) : Bool := n / 2 = m / 2 && paired t n

/-- No other enabled program writes a duty or set-point port of program `n`, but for its mate (R278). -/
def portsOk (t : Tab Nat) (n : Nat) : Bool :=
  let ps := (progWrites t n).filter (fun p => isDutyPort p || isSpPort p)
  (List.range 32).all (fun m =>
    m = n || !progEn t m || pairMates t n m || (progWrites t m).all (fun p => !ps.contains p))

/-- The members of a pair agree in TRIG, TSEL, LANE and sample list (R278). -/
def matesOk (t : Tab Nat) (n : Nat) : Bool :=
  !paired t n ||
    (let a := n / 2 * 2
     let d := descWord t a 0
     let e := descWord t (a + 1) 0
     decide (bitsOf d 1 4 = bitsOf e 1 4) && decide (bitsOf d 16 8 = bitsOf e 16 8) &&
       decide (descWord t a 1 = descWord t (a + 1) 1))

/-- The whole set passes R278. -/
def ceSetOk (t : Tab Nat) : Bool :=
  (List.range 32).all (fun n =>
    descOk t n && (!progEn t n || (ceTextOk t n && ceTrigOk t n && dutyOk t n && portsOk t n && matesOk t n)))

/-! ### Cycle-budget proof (R276, R277) -/

/-- What the proof takes of an input: P, UPD, TRG and the reference (R276). -/
structure Win where
  per : Nat
  upd : Nat
  trg : Nat
  src : Nat
deriving DecidableEq, Repr

/-- The committed values of an input. -/
def winOf (x : Nat) (s : State) : Win := ⟨s.g1 F.pstPerPer x, s.g1 F.pstPerUpd x, s.g1 F.pstPerTrg x, s.g1 F.pstSyncSrc x⟩

/-- The factor f in hundredths (R276). -/
def Win.f (w : Win) : Nat := if w.src = 1 then 80 else if w.src = 2 then 96 else 100

/-- ⌊f · P/16⌋ SCLK. -/
def Win.period (w : Win) : Nat := w.f * w.per / 1600

/-- ⌊f · W⌋ SCLK (R275, R276). -/
def Win.window (w : Win) : Nat :=
  let d := (w.upd + 256 - w.trg) % 256
  if d = 0 then w.f * w.per / 1600 else w.f * (d * w.per) / 409600

/-- The divisor of a degradation step (R279). -/
def stepDiv (n : Nat) : Nat := if n = 2 then 2 else if n = 3 then 4 else 1

/-- What a proof judges: the set, the inputs, the degradation steps, and the physical converter that serves each logical one. -/
structure ProofIn where
  idx : Tab Nat
  win : Nat → Win
  step : Nat → Nat
  conv : Nat → Nat

/-- The program that stands for a pair in the proof. -/
def repOf (t : Tab Nat) (n : Nat) : Nat := if paired t n then n / 2 * 2 else n

/-- The programs a proof judges: enabled, not suspended, and no NEST under a suspended parent; both members of a pair (R276, R279, R283). -/
def ProofIn.live (p : ProofIn) : List Nat :=
  (List.range 32).filter (fun n =>
    progEn p.idx n && !pairHidden p.idx n && decide (p.step (repOf p.idx n) < 4) &&
      (match progTrig p.idx n with
        | some (.nest q _) => decide (p.step (repOf p.idx q) < 4)
        | _ => true))

/-- B of program `n`: a pair counts once, at its even member, with the larger B of its enabled members (R276). -/
def ProofIn.b (p : ProofIn) (n : Nat) : Nat :=
  let own := max 12 (progLen p.idx n)
  if !paired p.idx n then own
  else if n % 2 = 1 then 0
  else if progEn p.idx (n + 1) then max own (progLen p.idx (n + 1)) else own

/-- T of a program that is not NEST (R276). -/
def ProofIn.t0 (p : ProofIn) (n : Nat) : Nat :=
  match progTrig p.idx n with
  | some (.pwm x _) => stepDiv (p.step (repOf p.idx n)) * (p.win x).period
  | some (.stime k _) => 23 * 2 ^ k
  | some (.result _ _ m) => m
  | _ => 0

/-- T (R276). -/
def ProofIn.t (p : ProofIn) (n : Nat) : Nat :=
  match progTrig p.idx n with
  | some (.nest q m) => m * p.t0 (repOf p.idx q)
  | _ => p.t0 n

/-- The period L4 compares with: T, or the parent's T for NEST (R276). -/
def ProofIn.t4 (p : ProofIn) (n : Nat) : Nat :=
  match progTrig p.idx n with
  | some (.nest q _) => p.t0 (repOf p.idx q)
  | _ => p.t0 n

/-- S of physical converter `c`: the samples of all enabled programs, of both members of a pair (R276). -/
def ProofIn.s (p : ProofIn) (c : Nat) : Nat :=
  p.live.foldl (fun a n => a + ((progSamples p.idx n).filter (fun x => p.conv x.2.conv = c)).length) 0

/-- Whether program `n` samples on physical converter `c`. -/
def ProofIn.on (p : ProofIn) (n c : Nat) : Bool := (progSamples p.idx n).any (fun x => p.conv x.2.conv = c)

/-- A (R276). -/
def ProofIn.a (p : ProofIn) (n : Nat) : Nat :=
  let f := fun c => if p.on n c then 40 + 4 * (p.s c - 1) else 0
  max (f 0) (f 1)

/-- Σ B over a lane (R276). -/
def ProofIn.load (p : ProofIn) (lane : Nat) : Nat :=
  p.live.foldl (fun a n => if progLane p.idx n = lane then a + p.b n else a) 0

/-- F of a program that is not NEST. -/
def ProofIn.f0 (p : ProofIn) (n : Nat) : Nat := p.a n + p.load (progLane p.idx n) + 12

/-- F (R276). -/
def ProofIn.f (p : ProofIn) (n : Nat) : Nat :=
  match progTrig p.idx n with
  | some (.nest q _) => p.f0 (repOf p.idx q) + p.load (progLane p.idx n) + 12
  | _ => p.f0 n

/-- The bound of L3 for a PWM program: W, one period more under deferral (R276, R279). -/
def ProofIn.bound (p : ProofIn) (n : Nat) : Option (Nat × Nat) :=
  match progTrig p.idx n with
  | some (.pwm x _) =>
    let w := (p.win x).window
    some (w, if p.step (repOf p.idx n) = 0 then w else w + (p.win x).period)
  | _ => none

/-- The smallest of a list of numbers, `d` when it is empty. -/
def least (d : Nat) (l : List Nat) : Nat := (l.min?).getD d

/-- The first condition program `n` fails, with its slack (R276, R277). -/
def ProofIn.fails (p : ProofIn) (n : Nat) : Option (Nat × Int) :=
  let lane := progLane p.idx n
  let load := p.load lane
  let tl := least 0 ((p.live.filter (fun m => progLane p.idx m = lane)).map p.t)
  let conv := fun c =>
    if p.on n c ∧ p.t n < 4 * p.s c then
      some ((least 0 ((p.live.filter (fun m => p.on m c)).map p.t) : Int) - (4 * p.s c : Nat))
    else none
  if p.t n < load then some (0, (tl : Int) - load)
  else match conv 0, conv 1 with
    | some d, _ => some (1, d)
    | none, some d => some (1, d)
    | none, none =>
      match p.bound n with
      | some (w, b) =>
        if w < 72 then some (2, (w : Int) - 72)
        else if b < p.f n + 8 then some (2, (b : Int) - (p.f n + 8 : Nat))
        else if p.t4 n < p.f n then some (3, (p.t4 n : Int) - p.f n) else none
      | none => if p.t4 n < p.f n then some (3, (p.t4 n : Int) - p.f n) else none

/-- The outcome of a proof: passed or not, the program, the condition and the slack; none where the spec states no program (R277). -/
structure ProofOut where
  ok : Bool
  rep : Option (Nat × Nat × Int)
deriving DecidableEq, Repr

/-- The smallest slack over the PWM programs, the lower number at a tie (R277). -/
def ProofIn.margin (p : ProofIn) : Option (Nat × Int) :=
  p.live.foldl (fun best n =>
    match p.bound n with
    | some (_, b) =>
      let m := (b : Int) - (p.f n + 8 : Nat)
      match best with
      | some (_, v) => if m < v then some (n, m) else best
      | none => some (n, m)
    | none => best) none

/-- Run the proof (R276, R277). -/
def ProofIn.run (p : ProofIn) : ProofOut :=
  match p.live.filterMap (fun n => (p.fails n).map (fun e => (n, e.1, e.2))) with
  | x :: _ => ⟨false, some x⟩
  | [] => ⟨true, p.margin.map (fun m => (m.1, 2, m.2))⟩

/-- A signed number saturated to 16 bits, as a field value (R288). -/
def sat16 (v : Int) : Nat := ((max (-32768) (min 32767 v) + 65536) % 65536).toNat

/-- CE_BUDGET records a proof (R277). -/
def recordProof (o : ProofOut) (s : State) : State :=
  let s := s.p F.ceBudgetOk (bit o.ok)
  match o.rep with
  | some (n, c, v) => ((s.p F.ceBudgetProg n).p F.ceBudgetCond c).p F.ceBudgetSlack (sat16 v)
  | none =>
    let (k, s) := s.draw
    let w := (Config.ceNoPwm k).toNat
    ((s.p F.ceBudgetProg (w % 32)).p F.ceBudgetCond 2).p F.ceBudgetSlack (w / 32)

/-- The physical converter that serves a logical one: its own, or the survivor (R276, R279). -/
def serverOf (l : Nat) (s : State) : Nat :=
  if l = 0 then if s.b F.ceStatA0ok then 0 else 1 else if s.b F.ceStatA1ok then 1 else 0

/-- The degradation step in force of program `n` (R288). -/
def degrOf (n : Nat) (s : State) : Nat :=
  if (s.g F.ceSuspmSusp).testBit n then 4 else s.g1 (F.ceDegrStep (n % 16)) (n / 16)

/-! ### A change of mode, seen by the control engine (R274, R282) -/

/-- An input raises triggers: BUCK, BOOST, BUCK-BOOST, or SAFE while regulating (R274). -/
def trigRaised (x : Nat) (s : State) : Bool :=
  let m := s.g1 F.pstStatMode x
  (decide (1 ≤ m) && decide (m ≤ 3)) || (decide (m = 5) && s.b1 F.pstStatSreg x)

/-- LAST of the four duty ports of an input. -/
def setDutyLast (x : Nat) (db dk : Nat) (s : State) : State :=
  let upd := fun (l : Tab (BitVec 32)) =>
    (List.range 4).foldl (fun t i => Tab.put 0 t (0x100 + 4 * x + i) (BitVec.ofNat 32 (if i % 2 = 0 then db else dk))) l
  s.modCe (fun c => { c with last := upd c.last })

/-- What follows in the control engine when the mode in force of input `x`, or its SAFE sub-state, has changed since `t` (R282). -/
def ceModeHook (x : Nat) (t s : State) : State :=
  let m := s.g1 F.pstStatMode x
  if t.g1 F.pstStatMode x = m ∧ t.b1 F.pstStatSreg x = s.b1 F.pstStatSreg x then s
  else
    let bound := (List.range 32).filter (fun n =>
      match progTrig s.ce.idx n with
      | some (.pwm a _) => progEn s.ce.idx n && decide (a = x)
      | _ => false)
    let s := if trigRaised x s then s.modCe (fun c => { c with first := bound.foldl NSet.add c.first }) else s
    if m = 0 ∨ (m = 5 ∧ !s.b1 F.pstStatSreg x) then setDutyLast x 0 0 s
    else if m = 4 then setDutyLast x (s.g1 F.pstPernowPer x - 2 * (Tab.val {} s.pst x : PstIn).set0.dtb) 0 s
    else s

end Sys2Proof.Machine
end

