-- ==== Sys2Proof/Machine/Crc.lean ====
section
/-! DEFINITION. The cyclic codes the spec names: CRC-32C of the journal (R178, R179), CRC-16/CCITT of the string link (R207), CRC-8 of the two-wire bus (R389). -/

namespace Sys2Proof.Machine

/-- One bit of a reflected CRC-32C (Castagnoli). -/
def crc32cBit (c : BitVec 32) : BitVec 32 :=
  if c.getLsbD 0 then (c >>> 1) ^^^ 0x82F63B78#32 else c >>> 1

/-- Apply a step n times. -/
def iter {α : Type} : Nat → (α → α) → α → α
  | 0, _, x => x
  | n + 1, f, x => iter n f (f x)

/-- CRC-32C of bytes: reflected, initial and final XOR all ones (PRESUMED, log 13: the named code's standard form). -/
def crc32c (bs : List (BitVec 8)) : Nat :=
  (bs.foldl (fun c b => iter 8 crc32cBit (c ^^^ BitVec.zeroExtend 32 b)) (0xFFFFFFFF#32) ^^^ 0xFFFFFFFF#32).toNat

/-- One bit of CRC-16/CCITT, polynomial 0x1021, most significant bit first (R207). -/
def crc16Bit (c : BitVec 16) : BitVec 16 :=
  if c.getLsbD 15 then (c <<< 1) ^^^ 0x1021#16 else c <<< 1

/-- CRC-16/CCITT with initial value 0xFFFF, no reflection, no final XOR (R207). -/
def crc16 (bs : List (BitVec 8)) : Nat :=
  (bs.foldl (fun c b => iter 8 crc16Bit (c ^^^ BitVec.shiftLeft (BitVec.zeroExtend 16 b) 8)) (0xFFFF#16)).toNat

/-- One bit of CRC-8 with polynomial x^8 + x^2 + x + 1. -/
def crc8Bit (c : BitVec 8) : BitVec 8 :=
  if c.getLsbD 7 then (c <<< 1) ^^^ 0x07#8 else c <<< 1

/-- CRC-8 with initial value 0, the packet error code of the two-wire bus (R389). -/
def crc8 (bs : List (BitVec 8)) : Nat :=
  (bs.foldl (fun c b => iter 8 crc8Bit (c ^^^ b)) 0#8).toNat

end Sys2Proof.Machine
end

