-- ==== Sys2Proof/Machine/Crypto.lean ====
section
/-! DEFINITION. The named cryptographic functions: SHA-256 (FIPS 180-4), AES-128 (FIPS 197), AES-128-CMAC (RFC 4493) and ECDSA over P-256 (FIPS 186-4). The spec names them and gives no algorithm: PRESUMED, log 22. -/

namespace Sys2Proof.Machine

/-! ### AES-128 -/

/-- Multiplication by x in GF(2^8). -/
def xtime (b : BitVec 8) : BitVec 8 := if b.getLsbD 7 then (b <<< 1) ^^^ 0x1B#8 else b <<< 1

/-- Product in GF(2^8), by the bits of the second factor from bit `n` − 1 down. -/
def gmulBits (a b : BitVec 8) : Nat → BitVec 8
  | 0 => 0
  | n + 1 => xtime (gmulBits a (b >>> 1) n) ^^^ (if b.getLsbD 0 then a else 0)

/-- Product in GF(2^8). -/
def gmul (a b : BitVec 8) : BitVec 8 := gmulBits a b 8

/-- a^254: the inverse in GF(2^8), 0 for 0. -/
def ginv (a : BitVec 8) : BitVec 8 :=
  let a2 := gmul a a
  let a4 := gmul a2 a2
  let a8 := gmul a4 a4
  let a16 := gmul a8 a8
  let a32 := gmul a16 a16
  let a64 := gmul a32 a32
  let a128 := gmul a64 a64
  gmul a128 (gmul a64 (gmul a32 (gmul a16 (gmul a8 (gmul a4 a2)))))

/-- The S-box by high nibble: byte `l` of row `h` is the substitute of 16·h + l. `Laws/Crypto.lean` proves it the inverse in GF(2^8) under the affine map. -/
def sboxRows : List Nat :=
  [0x76abd7fe2b670130c56f6bf27b777c63, 0xc072a49cafa2d4adf04759fa7dc982ca,
    0x1531d871f1e5a534ccf73f362693fdb7, 0x75b227ebe28012079a059618c323c704,
    0x842fe329b3d63b52a05a6e1b1a2c8309, 0xcf584c4a39becb6a5bb1fc20ed00d153,
    0xa89f3c507f02f94585334d43fbaaefd0, 0xd2f3ff1021dab6bcf5389d928f40a351] ++
  [0x73195d643d7ea7c41744975fec130ccd, 0xdb0b5ede14b8ee4688902a22dc4f8160,
    0x79e4959162acd3c25c2406490a3a32e0, 0x08ae7a65eaf4566ca94ed58d6d37c8e7,
    0x8a8bbd4b1f74dde8c6b4a61c2e2578ba, 0x9e1dc186b95735610ef6034866b53e70,
    0xdf2855cee9871e9b948ed9691198f8e1, 0x16bb54b00f2d99416842e6bf0d89a18c]

/-- The AES S-box. -/
def sbox (b : BitVec 8) : BitVec 8 := BitVec.ofNat 8 ((sboxRows[b.toNat / 16]?).getD 0 >>> (8 * (b.toNat % 16)))

/-- Bitwise exclusive or of byte lists. -/
def xorBytes (a b : List (BitVec 8)) : List (BitVec 8) := List.zipWith (· ^^^ ·) a b

/-- The four bytes of a key-schedule word after rotation, substitution and round constant. -/
def keyCore (rc : BitVec 8) : List (BitVec 8) → List (BitVec 8)
  | [a, b, c, d] => [sbox b ^^^ rc, sbox c, sbox d, sbox a]
  | l => l

/-- The next round key. -/
def nextKey (rc : BitVec 8) (k : List (BitVec 8)) : List (BitVec 8) :=
  let w0 := xorBytes (k.take 4) (keyCore rc (k.drop 12))
  let w1 := xorBytes ((k.drop 4).take 4) w0
  let w2 := xorBytes ((k.drop 8).take 4) w1
  w0 ++ w1 ++ w2 ++ xorBytes (k.drop 12) w2

/-- ShiftRows on the state in column order. -/
def shiftRows (b : List (BitVec 8)) : List (BitVec 8) :=
  (List.range 16).map (fun i => (b[(i + 4 * (i % 4)) % 16]?).getD 0)

/-- MixColumns on one column. -/
def mixColumn : List (BitVec 8) → List (BitVec 8)
  | a :: b :: c :: d :: t =>
    (xtime a ^^^ (xtime b ^^^ b) ^^^ c ^^^ d) :: (a ^^^ xtime b ^^^ (xtime c ^^^ c) ^^^ d) ::
    (a ^^^ b ^^^ xtime c ^^^ (xtime d ^^^ d)) :: ((xtime a ^^^ a) ^^^ b ^^^ c ^^^ xtime d) :: mixColumn t
  | l => l

/-- AES rounds: `n` rounds left, the last one without MixColumns. -/
def aesRounds : Nat → BitVec 8 → List (BitVec 8) → List (BitVec 8) → List (BitVec 8)
  | 0, _, _, st => st
  | n + 1, rc, key, st =>
    let key := nextKey rc key
    let st := shiftRows (st.map sbox)
    aesRounds n (xtime rc) key (xorBytes (if n = 0 then st else mixColumn st) key)

/-- AES-128 encryption of one 16-byte block. -/
def aes (key block : List (BitVec 8)) : List (BitVec 8) := aesRounds 10 0x01#8 key (xorBytes block key)

/-- The inverse S-box. -/
def sboxInv (b : BitVec 8) : BitVec 8 := ginv (b.rotateLeft 1 ^^^ b.rotateLeft 3 ^^^ b.rotateLeft 6 ^^^ 0x05#8)

/-- Inverse ShiftRows. -/
def unshiftRows (b : List (BitVec 8)) : List (BitVec 8) :=
  (List.range 16).map (fun i => (b[(i + 12 * (i % 4)) % 16]?).getD 0)

/-- Inverse MixColumns: MixColumns three times over. -/
def unmixColumns (b : List (BitVec 8)) : List (BitVec 8) := mixColumn (mixColumn (mixColumn b))

/-- The round keys, last first: `n` still to make. -/
def keySchedule : Nat → BitVec 8 → List (BitVec 8) → List (List (BitVec 8)) → List (List (BitVec 8))
  | 0, _, k, acc => k :: acc
  | n + 1, rc, k, acc => keySchedule n (xtime rc) (nextKey rc k) (k :: acc)

/-- AES-128 decryption of one 16-byte block. -/
def aesInv (key block : List (BitVec 8)) : List (BitVec 8) :=
  match keySchedule 10 0x01#8 key [] with
  | k10 :: ks =>
    (ks.zipIdx).foldl (fun st e =>
      let st := xorBytes ((unshiftRows st).map sboxInv) e.1
      if e.2 = 9 then st else unmixColumns st) (xorBytes block k10)
  | [] => block

/-- The 16 bytes of a 128-bit number, first byte most significant. -/
def bytes16 (n : Nat) : List (BitVec 8) := (List.range 16).map (fun i => BitVec.ofNat 8 (n / 2 ^ (8 * (15 - i))))

/-- The number big-endian bytes spell. -/
def beNum (bs : List (BitVec 8)) : Nat := bs.foldl (fun a b => 256 * a + b.toNat) 0

/-- Doubling in GF(2^128), for the CMAC subkeys. -/
def dbl128 (n : Nat) : Nat := if 2 ^ 127 ≤ n then (2 * n % 2 ^ 128) ^^^ 0x87 else 2 * n

/-- CBC over the full blocks of a message, then its last block: `l` blocks of fuel. -/
def cmacGo : Nat → List (BitVec 8) → Nat → List (BitVec 8) → List (BitVec 8) → List (BitVec 8)
  | 0, _, _, x, _ => x
  | n + 1, key, k1, x, m =>
    if 16 < m.length then cmacGo n key k1 (aes key (xorBytes x (m.take 16))) (m.drop 16)
    else if m.length = 16 then aes key (xorBytes x (xorBytes m (bytes16 k1)))
    else aes key (xorBytes x (xorBytes (m ++ [0x80#8] ++ List.replicate (15 - m.length) 0) (bytes16 (dbl128 k1))))

/-- AES-128-CMAC of a message under a key: 16 bytes. -/
def cmac (key : Nat) (m : List (BitVec 8)) : List (BitVec 8) :=
  let k := bytes16 key
  let zero := List.replicate 16 0#8
  cmacGo (m.length / 16 + 1) k (dbl128 (beNum (aes k zero))) zero m

/-! ### SHA-256 -/

/-- The round constants, rounds 0 to 31. -/
def shaK0 : List (BitVec 32) :=
  [0x428a2f98, 0x71374491, 0xb5c0fbcf, 0xe9b5dba5, 0x3956c25b, 0x59f111f1, 0x923f82a4, 0xab1c5ed5] ++
  [0xd807aa98, 0x12835b01, 0x243185be, 0x550c7dc3, 0x72be5d74, 0x80deb1fe, 0x9bdc06a7, 0xc19bf174] ++
  [0xe49b69c1, 0xefbe4786, 0x0fc19dc6, 0x240ca1cc, 0x2de92c6f, 0x4a7484aa, 0x5cb0a9dc, 0x76f988da] ++
  [0x983e5152, 0xa831c66d, 0xb00327c8, 0xbf597fc7, 0xc6e00bf3, 0xd5a79147, 0x06ca6351, 0x14292967]

/-- The round constants, rounds 32 to 63. -/
def shaK1 : List (BitVec 32) :=
  [0x27b70a85, 0x2e1b2138, 0x4d2c6dfc, 0x53380d13, 0x650a7354, 0x766a0abb, 0x81c2c92e, 0x92722c85] ++
  [0xa2bfe8a1, 0xa81a664b, 0xc24b8b70, 0xc76c51a3, 0xd192e819, 0xd6990624, 0xf40e3585, 0x106aa070] ++
  [0x19a4c116, 0x1e376c08, 0x2748774c, 0x34b0bcb5, 0x391c0cb3, 0x4ed8aa4a, 0x5b9cca4f, 0x682e6ff3] ++
  [0x748f82ee, 0x78a5636f, 0x84c87814, 0x8cc70208, 0x90befffa, 0xa4506ceb, 0xbef9a3f7, 0xc67178f2]

/-- The working variables of SHA-256. -/
structure Sha where
  a : BitVec 32
  b : BitVec 32
  c : BitVec 32
  d : BitVec 32
  e : BitVec 32
  f : BitVec 32
  g : BitVec 32
  h : BitVec 32
deriving DecidableEq, Repr

/-- The initial hash value. -/
def shaInit : Sha :=
  ⟨0x6a09e667, 0xbb67ae85, 0x3c6ef372, 0xa54ff53a, 0x510e527f, 0x9b05688c, 0x1f83d9ab, 0x5be0cd19⟩

/-- One round. -/
def shaRound (x : Sha) (kw : BitVec 32 × BitVec 32) : Sha :=
  let s1 := x.e.rotateRight 6 ^^^ x.e.rotateRight 11 ^^^ x.e.rotateRight 25
  let ch := (x.e &&& x.f) ^^^ (~~~x.e &&& x.g)
  let t1 := x.h + s1 + ch + kw.1 + kw.2
  let s0 := x.a.rotateRight 2 ^^^ x.a.rotateRight 13 ^^^ x.a.rotateRight 22
  let mj := (x.a &&& x.b) ^^^ (x.a &&& x.c) ^^^ (x.b &&& x.c)
  ⟨t1 + (s0 + mj), x.a, x.b, x.c, x.d + t1, x.e, x.f, x.g⟩

/-- Extend a message schedule, newest word first, by `n` words. -/
def shaExtend : Nat → List (BitVec 32) → List (BitVec 32)
  | 0, w => w
  | n + 1, w =>
    let at_ : Nat → BitVec 32 := fun i => (w[i]?).getD 0
    let w15 := at_ 14
    let w2 := at_ 1
    let s0 := w15.rotateRight 7 ^^^ w15.rotateRight 18 ^^^ (w15 >>> 3)
    let s1 := w2.rotateRight 17 ^^^ w2.rotateRight 19 ^^^ (w2 >>> 10)
    shaExtend n ((at_ 15 + s0 + at_ 6 + s1) :: w)

/-- The big-endian words of `n` words of bytes. -/
def beWords : Nat → List (BitVec 8) → List (BitVec 32)
  | 0, _ => []
  | n + 1, bs => BitVec.ofNat 32 (beNum (bs.take 4)) :: beWords n (bs.drop 4)

/-- Compress one 64-byte block. -/
def shaBlock (x : Sha) (block : List (BitVec 8)) : Sha :=
  let w := (shaExtend 48 (beWords 16 block).reverse).reverse
  let y := ((shaK0 ++ shaK1).zip w).foldl shaRound x
  ⟨x.a + y.a, x.b + y.b, x.c + y.c, x.d + y.d, x.e + y.e, x.f + y.f, x.g + y.g, x.h + y.h⟩

/-- Compress `n` blocks. -/
def shaBlocks : Nat → Sha → List (BitVec 8) → Sha
  | 0, x, _ => x
  | n + 1, x, bs => shaBlocks n (shaBlock x (bs.take 64)) (bs.drop 64)

/-- The `n` big-endian bytes of a number. -/
def numBytes (n v : Nat) : List (BitVec 8) := (List.range n).map (fun i => BitVec.ofNat 8 (v / 2 ^ (8 * (n - 1 - i))))

/-- The SHA-256 digest of bytes: 32 bytes. -/
def sha256 (m : List (BitVec 8)) : List (BitVec 8) :=
  let pad := (119 - m.length % 64) % 64
  let p := m ++ [0x80#8] ++ List.replicate pad 0 ++ numBytes 8 (8 * m.length)
  let x := shaBlocks (p.length / 64) shaInit p
  [x.a, x.b, x.c, x.d, x.e, x.f, x.g, x.h].flatMap (fun w => numBytes 4 w.toNat)

/-! ### ECDSA over P-256 -/

/-- The field prime of P-256. -/
def p256 : Nat := 2 ^ 256 - 2 ^ 224 + 2 ^ 192 + 2 ^ 96 - 1
/-- The group order. -/
def n256 : Nat := 0xffffffff00000000ffffffffffffffffbce6faada7179e84f3b9cac2fc632551
/-- The curve constant b. -/
def b256 : Nat := 0x5ac635d8aa3a93e7b3ebbd55769886bc651d06b0cc53b0f63bce3c3e27d2604b
/-- The base point's x. -/
def gx256 : Nat := 0x6b17d1f2e12c4247f8bce6e563a440f277037d812deb33a0f4a13945d898c296
/-- The base point's y. -/
def gy256 : Nat := 0x4fe342e2fe1a7f9b8ee7eb4a7c0f9e162bce33576b315ececbb6406837bf51f5

/-- x^e mod m by the bits of e, `n` of them. -/
def powMod : Nat → Nat → Nat → Nat → Nat
  | 0, _, _, m => 1 % m
  | n + 1, x, e, m =>
    let r := powMod n (x * x % m) (e / 2) m
    if e % 2 = 1 then x * r % m else r

/-- The inverse modulo a prime. -/
def invMod (x m : Nat) : Nat := powMod 256 (x % m) (m - 2) m

/-- A point of the curve in affine coordinates; none is the point at infinity. -/
abbrev Point := Option (Nat × Nat)

/-- The sum of two points. -/
def addPoint (a b : Point) : Point :=
  match a, b with
  | none, q => q
  | q, none => q
  | some (x1, y1), some (x2, y2) =>
    if x1 = x2 ∧ (y1 + y2) % p256 = 0 then none
    else
      let l := if x1 = x2 then (3 * x1 * x1 + p256 - 3) * invMod (2 * y1) p256 % p256
        else (y2 + p256 - y1) * invMod (x2 + p256 - x1) p256 % p256
      let x3 := (l * l + 2 * p256 - x1 - x2) % p256
      some (x3, (l * (x1 + p256 - x3) + p256 - y1) % p256)

/-- k times a point, by the bits of k, `n` of them. -/
def mulPoint : Nat → Nat → Point → Point
  | 0, _, _ => none
  | n + 1, k, p =>
    let r := mulPoint n (k / 2) (addPoint p p)
    if k % 2 = 1 then addPoint p r else r

/-- A point lies on the curve. -/
def onCurve (x y : Nat) : Bool :=
  decide (x < p256) && decide (y < p256) && decide (y * y % p256 = (x * x * x + (p256 - 3) * x + b256) % p256)

/-- The operands of a verification are a point of the curve and two scalars in range (R419). -/
def ecdsaValid (x y r t : Nat) : Bool :=
  onCurve x y && decide (0 < r) && decide (r < n256) && decide (0 < t) && decide (t < n256)

/-- ECDSA P-256 verification of a digest under key (x, y) and signature (r, t). -/
def ecdsaVerify (e x y r t : Nat) : Bool :=
  ecdsaValid x y r t &&
    let w := invMod t n256
    match addPoint (mulPoint 256 (e * w % n256) (some (gx256, gy256))) (mulPoint 256 (r * w % n256) (some (x, y))) with
    | none => false
    | some (x1, _) => decide (x1 % n256 = r)

end Sys2Proof.Machine
end

