-- ==== Sys2Proof/Machine/Nvs.lean ====
section
/-! DEFINITION. The NVS array: line reads, whole-line writes, read-modify-writes, ring records and the private ports (R349 to R363). -/

namespace Sys2Proof.Machine

/-! ### Bytes -/

/-- The bytes of a number, little-endian. -/
def leBytes : Nat → Nat → List (BitVec 8)
  | 0, _ => []
  | n + 1, v => BitVec.ofNat 8 v :: leBytes n (v / 256)

/-- The bytes of a number, big-endian. -/
def beBytes (n v : Nat) : List (BitVec 8) := (leBytes n v).reverse

/-- The number big-endian bytes spell. -/
def ofBe (bs : List (BitVec 8)) : Nat := bs.foldl (fun a b => 256 * a + b.toNat) 0

/-- The number little-endian bytes spell. -/
def ofLe (bs : List (BitVec 8)) : Nat := ofBe bs.reverse

/-- Pad a list of bytes with zeros to a length. -/
def padTo (n : Nat) (bs : List (BitVec 8)) : List (BitVec 8) := (bs ++ List.replicate (n - bs.length) 0).take n

/-! ### Lines (R349, R350) -/

/-- The first address of the array (R349). -/
def nvsBase : Nat := 0x10000000

/-- The line that holds an address (R349). -/
def lineOf (a : Nat) : Nat := (a - nvsBase) / 32

/-- The first address of a line. -/
def lineAddr (l : Nat) : Nat := nvsBase + 32 * l

/-- A key the controller takes from CRY: the encryption of a block that begins with `b` under the NVS root (R350). -/
def nvsKeyOf (b : BitVec 8) (root : Nat) : List (BitVec 8) := aes (bytes16 root) (b :: List.replicate 15 0)

/-- XTS-AES-128 of the 32 bytes of line `l`, the line being the data unit and its number the tweak (R350, log 88). -/
def xtsLine (root l : Nat) (bs : List (BitVec 8)) : List (BitVec 8) :=
  let t0 := aes (nvsKeyOf 0x12#8 root) (leBytes 16 l)
  let t1 := leBytes 16 (dbl128 (ofLe t0))
  let block := fun (t p : List (BitVec 8)) => xorBytes (aes (nvsKeyOf 0x11#8 root) (xorBytes p t)) t
  block t0 (bs.take 16) ++ block t1 ((bs.drop 16).take 16)

/-- The integrity tag of line `l`: the CMAC over its address, counter and ciphertext, cut to 8 bytes (R350, log 88). -/
def nvsTag (root l count : Nat) (cipher : List (BitVec 8)) : List (BitVec 8) :=
  (cmac (beNum (nvsKeyOf 0x13#8 root)) (leBytes 4 (lineAddr l) ++ leBytes 8 count ++ cipher)).take 8

/-- The tag that a line stores is the one its counter and ciphertext ask for (R350 to R352). -/
def tagOk (l : Nat) (s : State) : Bool :=
  match Tab.get s.nvs.lines l, s.sec.root with
  | some x, some root => decide (x.tag = nvsTag root l x.count x.cipher)
  | _, _ => true

/-- Whether the line at an address verifies: it is not poisoned, its tag holds and the NVS key is usable (R351, R352). -/
def lineOk (a : Nat) (s : State) : Bool :=
  !(s.b F.nvsStatKeybad) && !(NSet.has s.nvsBad (lineOf a)) && tagOk (lineOf a) s

/-- Store the line of an address as its bytes now stand: encrypted, under the next counter and a new tag (R350). -/
def storeLine (a : Nat) (s : State) : State :=
  let l := lineOf a
  let root := s.sec.root.getD 0
  let n := ((Tab.get s.nvs.lines l).map (·.count)).getD 0 + 1
  let ct := xtsLine root l (s.byteList (lineAddr l) 32)
  { s with nvs := { s.nvs with lines := Tab.set s.nvs.lines l { cipher := ct, tag := nvsTag root l n ct, count := n } } }

/-- A written line left with contents that fail verification: no bit of its tag is the one they ask for (R353). -/
def tearLine (a : Nat) (s : State) : State :=
  let l := lineOf a
  match Tab.get s.nvs.lines l with
  | some x => { s with nvs := { s.nvs with lines := Tab.set s.nvs.lines l { x with tag := x.tag.map (fun b => ~~~b) } } }
  | none => s

/-- How an INTEGRITY completion came about, as NVS_ERRINFO codes it (R364). -/
inductive NvsKind where
  | read (id : Nat)
  | rmw (id : Nat)
  | port (p : Nat)
  | commit (id : Nat)
deriving DecidableEq, Repr

/-- An INTEGRITY completion of the array: flag, count, record, event, and WLOCK when source NVS turns severe (R352, R363). -/
def nvsInteg (a : Nat) (k : NvsKind) (s : State) : State :=
  let s := ((s.p F.nvsStatInteg 1).sat F.nvsIcntCount 1).p F.nvsErraddrAddr (lineAddr (lineOf a))
  let s := match k with
    | .read id => ((s.p F.nvsErrinfoId id).p F.nvsErrinfoKind 0).p F.nvsErrinfoPort 0
    | .rmw id => ((s.p F.nvsErrinfoId id).p F.nvsErrinfoKind 1).p F.nvsErrinfoPort 0
    | .port p => ((s.p F.nvsErrinfoId 0).p F.nvsErrinfoKind 2).p F.nvsErrinfoPort p
    | .commit id => ((s.p F.nvsErrinfoId id).p F.nvsErrinfoKind 3).p F.nvsErrinfoPort 0
  let s := raiseLine lineNvsErr s
  let (sev, s) := faultPush srcNvs s
  if sev then s.p F.nvsStatWlock 1 else s

/-- A line found not to verify is marked poisoned (R352). -/
def poisonLine (a : Nat) (s : State) : State := { s with nvsBad := NSet.add s.nvsBad (lineOf a) }

/-! ### The controller's operations (R351 to R353, R356) -/

/-- A whole line is replaced: data, counter and tag, and the poison mark is cleared; with the key unusable nothing is written (R351, R353). -/
def replaceLine (a : Nat) (bs : List (BitVec 8)) (k : NvsKind) (s : State) : Bool × State :=
  if s.b F.nvsStatKeybad then (false, nvsInteg a k s)
  else (true, storeLine a { s.setByteList (lineAddr (lineOf a)) (bs.take 32) with nvsBad := NSet.del s.nvsBad (lineOf a) })

/-- Of the operations that wait at the arbiter, the one granted next: the highest class, then the one that came first (R113, R356). -/
def nvsGrant (l : List NvsOp) : Option NvsOp :=
  l.foldl (fun b o => match b with
    | some x => if x.cls < o.cls then some o else some x
    | none => some o) none

/-- The front operation leaves the controller, which then grants the next that waits (R356). -/
def nvsPop (s : State) : State :=
  match nvsGrant s.nvs.wait with
  | some o => { s with nvs := { s.nvs with q := s.nvs.q.drop 1 ++ [o], wait := s.nvs.wait.erase o, turns := 0 } }
  | none => { s with nvs := { s.nvs with q := s.nvs.q.drop 1, turns := 0 } }

/-- The front line operation ends and its code returns (R356, R358). `holds`: the written line verifies (R353). -/
def lineDone (holds : Bool) (s : State) : State :=
  match s.nvs.q with
  | [] => s
  | op :: _ =>
    let (ok, s) := replaceLine op.addr op.data (.commit op.id) (nvsPop s)
    let s := if ok && !holds then tearLine op.addr s else s
    s.answer (if ok then .ok else .integrity)

/-- An operation takes its turn: after four of the private ports in a row one that waits on the interconnect goes first (R356). -/
def takeTurn (k : NvsKind) (s : State) : State :=
  match k with
  | .port _ =>
    let s := if 4 ≤ s.nvs.turns then lineDone true s else s
    { s with nvs := { s.nvs with turns := s.nvs.turns + 1 } }
  | _ => { s with nvs := { s.nvs with turns := 0 } }

/-- Check the line of an address before its bytes are used: OK, or poisoned and INTEGRITY (R352); with the key unusable no line is judged, and no mark is written (R351, log 78). -/
def judgeLine (a : Nat) (k : NvsKind) (s : State) : Bool × State :=
  if lineOk a s then (true, s)
  else (false, nvsInteg a k (if s.b F.nvsStatKeybad then s else poisonLine a s))

/-- A line read (R352, R356). -/
def checkLine (a : Nat) (k : NvsKind) (s : State) : Bool × State := judgeLine a k (takeTurn k s)

/-- A whole-line write (R353, R356). -/
def writeLine (a : Nat) (bs : List (BitVec 8)) (k : NvsKind) (s : State) : Bool × State := replaceLine a bs k (takeTurn k s)

/-- A read-modify-write of `n` bytes in one line (R129, R353, R356). -/
def rmwLine (a n v : Nat) (k : NvsKind) (s : State) : Bool × State :=
  let (ok, s) := judgeLine a k (takeTurn k s)
  if ok then (true, storeLine a (s.setBytesLE a n v)) else (false, s)

/-- The private ports (R354, R356). -/
def portJnl : NvsKind := .port 0
/-- The link's private port. -/
def portLink : NvsKind := .port 1
/-- The ADC's private port. -/
def portAdc : NvsKind := .port 2

/-- An address only a private port may write (R354). -/
def nvsPrivate (a : Nat) : Bool := decide (nvsBase ≤ a) && decide (a < 0x10021400)

/-! ### Ring records (R359 to R361) -/

/-- A valid slot of a ring record: its SEQ, when the line verifies and the format holds (R359). -/
def slotSeq (a rid : Nat) (s : State) : Option Nat :=
  let w := s.word (a + 4)
  if lineOk a s ∧ w / 2 ^ 24 = 0x52 ∧ w / 2 ^ 16 % 256 ≤ 24 ∧ w % 2 ^ 16 = rid then some (s.word a) else none

/-- SEQ a is newer than SEQ b (R360). -/
def seqNewer (a b : Nat) : Bool :=
  let d := (a + 2 ^ 32 - b) % 2 ^ 32
  decide (1 ≤ d) && decide (d ≤ 2 ^ 31 - 1)

/-- The newest valid slot of a ring record: its slot number and SEQ; a tie keeps the lower slot (R360). -/
def newestSlot (base rid n : Nat) (s : State) : Option (Nat × Nat) :=
  (List.range n).foldl (fun best i =>
    match slotSeq (base + 32 * i) rid s, best with
    | some q, some (j, b) => if seqNewer q b then some (i, q) else some (j, b)
    | some q, none => some (i, q)
    | none, b => b) none

/-- Read every slot of a ring record, counting those that fail verification (R360). -/
def scanRing (base n : Nat) (k : NvsKind) (s : State) : State :=
  (List.range n).foldl (fun t i => (checkLine (base + 32 * i) k t).2) s

/-- The newest-valid read: the 24 bytes of DATA, or none when the record is empty (R360). -/
def ringData (base rid n : Nat) (s : State) : Option (List (BitVec 8)) :=
  (newestSlot base rid n s).map (fun p => s.byteList (base + 32 * p.1 + 8) 24)

/-- Update a ring record: the slot after the newest valid one, SEQ one higher (R361). -/
def ringUpdate (base rid n : Nat) (data : List (BitVec 8)) (k : NvsKind) (s : State) : Bool × State :=
  let (i, q) := match newestSlot base rid n s with
    | some (j, b) => ((j + 1) % n, (b + 1) % 2 ^ 32)
    | none => (0, 1)
  writeLine (base + 32 * i)
    (leBytes 4 q ++ leBytes 2 rid ++ [BitVec.ofNat 8 data.length, 0x52] ++ padTo 24 data) k s

end Sys2Proof.Machine
end

