-- ==== Sys2Proof/Machine/SlkCore.lean ====
section
/-! DEFINITION. The string link's transmit counter, transmit queue and replies (R214, R218, R223), and the keep-alive judgement's counters. -/

namespace Sys2Proof.Machine

/-- Replace the link's state. -/
def State.modLink (s : State) (f : Link → Link) : State := { s with link := f s.link }

/-- The medium's state: false the carrier, true the pair. -/
def Link.medium (l : Link) (pair : Bool) : Medium := if pair then l.pr else l.car

/-- Replace one medium's state. -/
def Link.setMedium (l : Link) (pair : Bool) (m : Medium) : Link := if pair then { l with pr := m } else { l with car := m }

/-- The medium has failed (R229). -/
def medFailed (pair : Bool) (s : State) : Bool := if pair then s.b F.slkMedPfail else s.b F.slkMedCfail

/-- The medium's driver reports a fault (R229). -/
def medDrvFault (pair : Bool) (s : State) : Bool := if pair then s.b F.slkMedPtxf else s.b F.slkMedCtxf

/-- A medium is enabled: its enable is 1 and its domain is at power good (R205). -/
def medEnabled (pair : Bool) (s : State) : Bool :=
  if pair then s.b F.slkCfgEnp && (s.g F.hkrDomstatPg).testBit 10
  else s.b F.slkCfgEnc && (s.g F.hkrDomstatPg).testBit 9

/-- A medium has failed, or has not taken back its roles (R229). -/
def medGone (pair : Bool) (s : State) : Bool := medFailed pair s || (s.link.medium pair).moved

/-- The medium of MED 0b00 frames, and of replies whose own medium has failed (R223, R230); none while both drivers report a fault. -/
def mainMedium (s : State) : Option Bool :=
  let p := s.b F.slkCfgPrimary
  if !medGone p s then some p
  else if !medGone (!p) s then some (!p)
  else if !medDrvFault p s then some p
  else if !medDrvFault (!p) s then some (!p)
  else none

/-- Take the next number of the transmit counter, reserving a block of 1 024 in the link area first (R214). -/
def takeTxSeq (s : State) : Nat × State :=
  let s := if s.link.txNext = s.link.txEnd then
      let e := (s.link.txEnd + 1024) % 2 ^ 32
      (ringUpdate 0x10020900 0x0900 8 (leBytes 4 e) portLink s).2.modLink (fun l => { l with txEnd := e })
    else s
  (s.link.txNext, s.modLink (fun l => { l with txNext := (l.txNext + 1) % 2 ^ 32 }))

/-- Whether a queued frame lies in the SEND part of the queue (R223). -/
def TxFrame.isSend (f : TxFrame) : Bool := f.kind = .send

/-- SEND frames queued (R223, R236). -/
def sendUsed (s : State) : Nat := (s.link.txq.filter (·.isSend)).length

/-- Replies and JOIN frames queued (R223, R236). -/
def replyUsed (s : State) : Nat := (s.link.txq.filter (fun f => !f.isSend)).length

/-- Put a frame at the end of the queue under a fresh number (R214, R223). -/
def enqueueTx (f : Nat → TxFrame) (s : State) : State :=
  let (q, s) := takeTxSeq s
  s.modLink (fun l => { l with txq := l.txq ++ [f q] })

/-- The 10-byte payload of a REPLY (R218). -/
def replyPayload (rkind cseq state result : Nat) : List (BitVec 8) :=
  [BitVec.ofNat 8 rkind] ++ beBytes 4 cseq ++ [BitVec.ofNat 8 state] ++ beBytes 4 result

/-- A REPLY frame to a command's sender, under the command's family, on the medium it came by; after a reset no medium is recorded (R218, log 69). -/
def replyFrame (src addr : Nat) (pair : Option Bool) (kind : TxKind) (payload : List (BitVec 8)) (q : Nat) : TxFrame :=
  { seq := q, kind, med := pair.elim 0 (fun p => if p then 2 else 1), dtype := 0, daddr := addr
    ftype := if src = idGateway then 0x03 else 0x83, payload }

/-- Queue an ACK or REFUSED reply; with the reply part full it is dropped and counted (R218). Answers whether it was queued. -/
def sendReply (src addr : Nat) (pair : Option Bool) (kind : TxKind) (payload : List (BitVec 8)) (s : State) : Bool × State :=
  if 8 ≤ replyUsed s then (false, s.p F.slkStatTxdrop 1)
  else (true, enqueueTx (replyFrame src addr pair kind payload) s)

end Sys2Proof.Machine
end

