-- ==== Sys2Proof/Machine/Jnl.lean ====
section
/-! DEFINITION. The accepted-work journal: entries, acceptance, release and leases, transitions, retirement, control block and recovery (R177 to R201). -/

namespace Sys2Proof.Machine

/-- Replace the journal's state. -/
def State.modJnl (s : State) (f : Jnl → Jnl) : State := { s with jnl := f s.jnl }

/-! ### Counts (R197, R201) -/

/-- Free slots: those a new acceptance may take, counted from the HEADNUM last written (R180, R201). -/
def jnlFree (s : State) : Nat := 2048 - (s.jnl.next + 2 ^ 20 - s.jnl.headWritten) % 2 ^ 20

/-- Live entries: the window from HEADNUM to NEXT (R177). -/
def jnlLive (s : State) : Nat := (s.jnl.next + 2 ^ 20 - s.jnl.head) % 2 ^ 20

/-- Bring JNL_COUNT, JNL_HEAD, JNL_NEXT and FULL up to date; a FULL that clears raises JNL_SPACE (R197, R201). -/
def jnlRefresh (s : State) : State :=
  let fr := jnlFree s
  let s := (((s.p F.jnlCountLive (jnlLive s)).p F.jnlCountFree fr).p F.jnlHeadHeadnum s.jnl.head).p F.jnlNextNext s.jnl.next
  if s.jnl.full ∧ s.g F.jnlCfgLowat ≤ fr then
    raiseLine lineJnlSpace ((s.modJnl (fun j => { j with full := false })).p F.jnlStatFull 0)
  else if fr ≤ s.g F.jnlCfgRsv then (s.modJnl (fun j => { j with full := true })).p F.jnlStatFull 1
  else s

/-! ### Entries in the array (R177, R178) -/

/-- The NVS address of the entry with an ANUM (R177). -/
def entryAddr (anum : Nat) : Nat := nvsBase + 64 * (anum % 2048)

/-- The encoding of an entry's state (R178). -/
def JState.num : JState → Nat
  | .accepted => 0x1
  | .started => 0x2
  | .done => 0x4
  | .failed => 0x8

/-- The state an encoding stands for (R178). -/
def JState.ofNum? : Nat → Option JState
  | 0x1 => some .accepted
  | 0x2 => some .started
  | 0x4 => some .done
  | 0x8 => some .failed
  | _ => none

/-- Word 0 of an entry (R178). -/
def entryWord0 (anum st : Nat) : Nat := 0x4A * 2 ^ 24 + st * 2 ^ 20 + anum % 2 ^ 20

/-- The record of a kind in the running image's table (R188). -/
def kindRec (k : Nat) (s : State) : Option KindRec := s.jnl.kinds.find? (fun r => r.kind = k)

/-- Words 1 to 3 of the entry a request becomes (R178, R216). -/
def reqWord3 (r : JReq) (k : KindRec) : Nat :=
  r.kind + r.payload.length * 2 ^ 16 + k.pri * 2 ^ 22 + k.rclass * 2 ^ 24 + bit k.level * 2 ^ 26

/-- Bytes 4 to 55 of an entry: words 1 to 13 (R178). -/
def reqBytes (r : JReq) (k : KindRec) : List (BitVec 8) :=
  leBytes 4 (r.addr + r.src * 2 ^ 16) ++ leBytes 4 r.seq ++ leBytes 4 (reqWord3 r k) ++ padTo 40 r.payload

/-- The CRC-32C of an entry: bytes 0 to 55 with STATE taken as 0 (R178). -/
def entryCrc (anum : Nat) (body : List (BitVec 8)) : Nat := crc32c (leBytes 4 (entryWord0 anum 0) ++ body)

/-- The 64 bytes of the entry a request becomes, in state ACCEPTED (R178). -/
def entryBytes (r : JReq) (anum : Nat) (s : State) : Option (List (BitVec 8)) :=
  (kindRec r.kind s).map (fun k =>
    let body := reqBytes r k
    leBytes 4 (entryWord0 anum 1) ++ body ++ leBytes 4 0 ++ leBytes 4 (entryCrc anum body))

/-- Word 14 as JDONE or JFAIL writes it (R170). -/
def finishWord (done : Bool) (res : Nat) : Nat := if done then res / 256 * 256 else res

/-- Words of a little-endian byte list. -/
def wordsOf : Nat → List (BitVec 8) → List Nat
  | 0, _ => []
  | n + 1, bs => ofLe (bs.take 4) :: wordsOf n (bs.drop 4)

/-- The entry of an ANUM, while it is live. -/
def findEntry (anum : Nat) (s : State) : Option JEntry := s.jnl.live.find? (fun e => e.anum = anum)

/-- Change the entry of an ANUM. -/
def modEntry (anum : Nat) (f : JEntry → JEntry) (s : State) : State :=
  s.modJnl (fun j => { j with live := j.live.map (fun e => if e.anum = anum then f e else e) })

/-- The live entry at an NVS entry address (R168, R169). -/
def entryAt (a : Nat) (s : State) : Option JEntry := s.jnl.live.find? (fun e => entryAddr e.anum = a)

/-- The two lines of an entry verify (R195). -/
def entryLinesOk (anum : Nat) (s : State) : Bool := lineOk (entryAddr anum) s && lineOk (entryAddr anum + 32) s

/-! ### Senders (R179, R183) -/

/-- The sender-table slot of a sender. -/
def findSender (src addr : Nat) (s : State) : Option Sender :=
  s.jnl.senders.find? (fun x => x.src = src ∧ x.addr = addr)

/-- The last accepted number of a sender: the highest of its HWM, its live entries and a request being written (R183). -/
def lastAccepted (src addr : Nat) (s : State) : Option Nat :=
  let a := (findSender src addr s).map (·.hwm)
  let b := (s.jnl.live.filter (fun e => e.src = src ∧ e.addr = addr)).map (·.seq)
  let c := match s.jnl.writing with
    | some (r, _) => if r.src = src ∧ r.addr = addr then [r.seq] else []
    | none => []
  (a.toList ++ b ++ c).max?

/-- The slot of the sender table that a new sender claims: the lowest free one, where the spec names none (R179, R182, log 97). -/
def freeSender (s : State) : Option Nat :=
  (List.range 64).find? (fun k => s.jnl.senders.all (fun x => x.slot ≠ k))

/-- The bytes of a sender-table slot (R179). -/
def senderBytes (x : Sender) : List (BitVec 8) :=
  leBytes 4 (2 ^ 31 + x.src * 2 ^ 16 + x.addr) ++ leBytes 4 x.hwm

/-- The bytes of line `k` of the sender table, four slots (R179). -/
def senderLine (k : Nat) (l : List Sender) : List (BitVec 8) :=
  (List.range 4).flatMap (fun i =>
    match l.find? (fun x => x.slot = 4 * k + i) with
    | some x => senderBytes x
    | none => leBytes 8 0)

/-- The first address of copy A, or of copy B, of the sender table (R179). -/
def senderBase (copyB : Bool) : Nat := if copyB then 0x10020240 else 0x10020040

/-- A line written through the journal's port that does not read back: found, and poisoned (R182, R352). -/
def backFails (a : Nat) (s : State) : State := nvsInteg a portJnl (poisonLine a s)

/-- Write line `k` of a sender table as a whole line, in copy A and then, where that reads back, in copy B (R180, R353); `bad`: the copy that does not read back. A copy that was lost is whole again. -/
def writeSenders (k : Nat) (l : List Sender) (bad : Option (Fin 2)) (s : State) : Bool × State :=
  let one := fun (copyB : Bool) (s : State) =>
    let a := senderBase copyB + 32 * k
    let (ok, s) := writeLine a (senderLine k l) portJnl s
    if ok && bad = some (if copyB then 1 else 0) then (false, backFails a s) else (ok, s)
  let (ok, s) := one false s
  if ok then one true s else (false, s)

/-- Write every line of the sender table that holds a sender; answers whether each was written in both copies (R180). -/
def writeTable (s : State) : Bool × State :=
  ((List.range 16).filter (fun k => s.jnl.senders.any (fun x => x.slot / 4 = k))).foldl (fun p k =>
    let (ok, t) := writeSenders k p.2.jnl.senders none p.2
    (p.1 && ok, t)) (true, s)

/-! ### Replies (R218, R198, R199) -/

/-- The host's outcome shown in JNL_HSTAT (R198); PEND falling is an alert event (R392). -/
def hostOutcome (c : Code) (anum : Nat) (s : State) : State :=
  let s := if s.b F.jnlHstatPend then alertEvent 1 s else s
  ((s.p F.jnlHstatCode c.num).p F.jnlHstatPend 0).p F.jnlHstatAnum anum

/-- A refusal answered to the request's sender (R182, R184, R218). -/
def refuse (r : JReq) (c : Code) (s : State) : State :=
  if r.src = idHost then hostOutcome c 0 s
  else (sendReply r.src r.addr (some r.pair) .refused (replyPayload 0x03 r.seq 0 c.num) s).2

/-- The acknowledgement of an entry to its sender; a LEVEL entry counts as reported when it is dropped (R185, R196, R218). -/
def acknowledge (r : JReq) (e : JEntry) (s : State) : State :=
  if r.src = idHost then hostOutcome .ok e.anum s
  else
    let (q, s) := sendReply r.src r.addr (some r.pair) (.ack (if e.level then some e.anum else none))
      (replyPayload 0x01 r.seq e.st.num e.result) s
    if !q && e.level then modEntry e.anum (fun x => { x with reported := true }) s else s

/-- The COMPLETE of an entry (R218). -/
def completePayload (e : JEntry) : List (BitVec 8) := replyPayload 0x02 e.seq e.st.num e.result

/-- COMPLETE replies that wait enter the queue while its reply part has room (R218). -/
def flushCompletes (s : State) : State :=
  s.link.completes.foldl (fun t p =>
    if replyUsed t < 8 then
      match findEntry p.anum t with
      | some e =>
        enqueueTx (replyFrame e.src e.addr p.pair (.complete e.anum) (completePayload e))
          (t.modLink (fun l => { l with completes := l.completes.filter (fun q => q.anum ≠ p.anum) }))
      | none => t.modLink (fun l => { l with completes := l.completes.filter (fun q => q.anum ≠ p.anum) })
    else t) s

/-- The completion report of an entry that reached DONE or FAILED (R193, R196, R199, R218). -/
def reportDone (anum : Nat) (s : State) : State :=
  match findEntry anum s with
  | none => s
  | some e =>
    if e.src = idHost then (modEntry anum (fun x => { x with reported := true }) s).p F.jnlStatHcomp 1
    else flushCompletes (s.modLink (fun l => { l with completes := l.completes ++ [⟨anum, e.pair⟩] }))

/-! ### Release and leases (R189, R190, R194, R195) -/

/-- The entry is finished (R178). -/
def JEntry.finished (e : JEntry) : Bool := e.st = .done || e.st = .failed

/-- The class queue takes the entry as ACCEPTED: it is, or is to be replayed from the start (R189, R190, R193). -/
def JEntry.standsAccepted (e : JEntry) : Bool := e.st = .accepted || (e.st = .started && e.replay)

/-- An entry lets later entries of its class pass (R189). -/
def JEntry.passes (e : JEntry) (serial : Bool) : Bool :=
  !e.awaiting && (e.finished || (!serial && !e.standsAccepted))

/-- The domain that executes an entry's kind (R188). -/
def entryDom (e : JEntry) (s : State) : Option Nat := (kindRec e.kind s).map (·.dom)

/-- The next entry of class `c` not yet passed: the one a JTAKE may be given (R189). LEVEL entries are in no class queue (R187, log 66). -/
def nextOfClass (c : Nat) (s : State) : Option JEntry :=
  (s.jnl.live.filter (fun e => e.cls = c && !e.level)).find? (fun e => !e.passes ((s.g F.jnlCfgSerial).testBit c))

/-- An entry that may be handed to context `x` of domain `dom`: the recovery frond is given entries awaiting recovery first (R194), others the next of the class (R189). -/
def offer (c ctx dom : Nat) (s : State) : Option JEntry :=
  match (if s.seq.recov = some ctx then s.jnl.live.find? (fun e => e.awaiting && e.lease.isNone) else none) with
  | some e => some e
  | none =>
    match nextOfClass c s with
    | some e =>
      if !e.awaiting && e.lease.isNone && e.standsAccepted && entryDom e s = some dom then some e else none
    | none => none

/-- An entry found lost before release: never executed, reported INTEGRITY when its first line verifies (R195). -/
def loseEntry (anum : Nat) (s : State) : State :=
  let first := lineOk (entryAddr anum) s
  let s := modEntry anum (fun e => { e with
    st := .failed, result := Code.num .integrity, lost := true, lease := none, awaiting := false,
    doneAt := cycleNow s, reported := !first }) s
  let s := faultEvent srcJnl ((s.p F.jnlStatEntLost 1).p F.jnlLostnumAnum anum)
  if first then reportDone anum s else s

/-- Release check before a lease: both lines of an ACCEPTED entry are read back, but for one released on the edge that verified it (R185, R195). -/
def releaseCheck (anum : Nat) (s : State) : Bool × State :=
  match findEntry anum s with
  | some e =>
    if e.fresh || e.st ≠ .accepted then (true, s)
    else
      let (ok1, s) := checkLine (entryAddr anum) portJnl s
      let (ok2, s) := checkLine (entryAddr anum + 32) portJnl s
      if ok1 && ok2 then (true, s) else (false, loseEntry anum s)
  | none => (false, s)

/-- Lease an entry to a context (R168). -/
def leaseTo (anum c : Nat) (s : State) : State :=
  let s := modEntry anum (fun e => { e with lease := some c }) s
  s.setCtx c { s.ctx c with lease := some anum }

/-- Offer entries to one context, passing over those found lost, of which there are at most `n` (R195). -/
def offerFrom : Nat → Nat → Nat → State → Option JEntry × State
  | 0, _, _, s => (none, s)
  | n + 1, cls, c, s =>
    match offer cls c (s.ctx c).dom s with
    | none => (none, s)
    | some e =>
      let (ok, s) := releaseCheck e.anum s
      if ok then (some e, leaseTo e.anum c s) else offerFrom n cls c s

/-- The entry a JTAKE is given now, if the journal releases one (R189, R195). -/
def takeNow (cls c : Nat) (s : State) : Option JEntry × State := offerFrom (s.jnl.live.length + 1) cls c s

/-- The wait of a JTAKE. -/
def WaitFor.isTake : WaitFor → Bool
  | .take _ _ _ => true
  | _ => false

/-- The wait of a JMARK, JDONE or JFAIL for its writes. -/
def WaitFor.isWrite : WaitFor → Bool
  | .write _ _ _ => true
  | _ => false

/-- Insert a waiter behind those that have waited longer. -/
def insertWaiter (a : Nat × Ctx) : List (Nat × Ctx) → List (Nat × Ctx)
  | [] => [a]
  | b :: t => if a.2.since < b.2.since then a :: b :: t else b :: insertWaiter a t

/-- Waiters in the order in which they began to wait. -/
def byWait (l : List (Nat × Ctx)) : List (Nat × Ctx) := l.foldl (fun acc a => insertWaiter a acc) []

/-- Each context waiting in JTAKE, the longest-waiting first, is given what the queue releases to it; of several that an entry could go to, the spec does not say which (R168, R189, log 98). -/
def servePass (s : State) : State :=
  (byWait (waitersOn WaitFor.isTake s)).foldl (fun t e =>
    match (t.ctx e.1).wait with
    | some (.take cls rd _) =>
      let (r, t) := takeNow cls e.1 t
      match r with
      | some x => (wakeCtx e.1 0 t).setGr e.1 (rd + 1) (BitVec.ofNat 32 (entryAddr x.anum))
      | none => t
    | _ => t) s

/-- How many live entries have been found lost. -/
def lostCount (s : State) : Nat := (s.jnl.live.filter (·.lost)).length

/-- Waiting contexts are served until a pass finds no entry lost, since a lost entry is FAILED and lets the next of its class through (R189, R195). -/
def serveFrom : Nat → State → State
  | 0, s => s
  | n + 1, s =>
    let t := servePass s
    if lostCount t = lostCount s then t else serveFrom n t

/-- Contexts waiting in JTAKE are given what the queue now releases (R168, R189). -/
def serveTakes (s : State) : State := serveFrom (s.jnl.live.length + 1) s

/-- A JTAKE tries to take an entry; what it finds lost may release entries to contexts that wait (R189, R195). -/
def tryTake (cls c : Nat) (s : State) : Option JEntry × State :=
  let (r, t) := takeNow cls c s
  (r, if lostCount t = lostCount s then t else serveTakes t)

/-- The lease of one entry ends because its context entered HALT or FAULT (R190). -/
def leaseDrop (e : JEntry) (s : State) : State :=
  let s := modEntry e.anum (fun x => { x with lease := none }) s
  if e.st ≠ .started then serveTakes s
  else if e.rclass = 0 ∧ !e.awaiting then serveTakes (modEntry e.anum (fun x => { x with replay := true }) s)
  else serveTakes (raiseLine lineJnlRecover (modEntry e.anum (fun x => { x with awaiting := true }) s))

/-- Every lease of a context ends because it entered HALT or FAULT (R190). -/
def leaseEnd (c : Nat) (s : State) : State :=
  (s.jnl.live.filter (fun e => e.lease = some c)).foldl (fun t e => leaseDrop e t)
    (s.setCtx c { s.ctx c with lease := none })

/-! ### Acceptance (R181 to R187) -/

/-- Check 1 of R182. -/
def check1 (r : JReq) (s : State) : Bool :=
  match kindRec r.kind s with
  | some k => k.srcMask.testBit r.src && decide (r.payload.length ≤ k.lenMax)
  | none => false

/-- The live entry of a sender that carries a SEQ (R184). -/
def entryOfSeq (src addr seq : Nat) (s : State) : Option JEntry :=
  s.jnl.live.find? (fun e => e.src = src ∧ e.addr = addr ∧ e.seq = seq)

/-- Check 2 of R182: SEQ exceeds the sender's last accepted number (R183). -/
def check2 (r : JReq) (s : State) : Bool :=
  match lastAccepted r.src r.addr s with
  | some n => decide (n < r.seq)
  | none => true

/-- A request repeats the SEQ of the one being written (R183). -/
def repeatsWriting (r : JReq) (s : State) : Bool :=
  match s.jnl.writing with
  | some (w, _) => decide (w.src = r.src ∧ w.addr = r.addr ∧ w.seq = r.seq)
  | none => false

/-- Whether a request's kind is a LEVEL kind. -/
def isLevel (r : JReq) (s : State) : Bool := ((kindRec r.kind s).map (·.level)).getD false

/-- The class of a request; an unknown kind goes with the lowest. -/
def reqClass (r : JReq) (s : State) : Nat := ((kindRec r.kind s).map (·.pri)).getD 0

/-- Words 1 to 13 of a request, as the mailbox holds them (R187). -/
def boxWords (r : JReq) (s : State) : List Nat :=
  match kindRec r.kind s with
  | some k => wordsOf 13 (reqBytes r k)
  | none => []

/-- What checks 1 and 2 answer to a request that fails one (R182, R184). -/
def answer12 (r : JReq) (s : State) : State :=
  if !check1 r s then refuse r .invalid s
  else match entryOfSeq r.src r.addr r.seq s with
    | some e => acknowledge r e (s.p F.jnlStatDup 1)
    | none => refuse r .orderFault (s.p F.jnlStatStale 1)

/-- A LEVEL request has passed checks 1 and 2: its mailbox load is put in line (R187). -/
def boxRequest (r : JReq) (s : State) : JReq × State :=
  ({ r with boxed := true }, s.modJnl (fun j => { j with
    boxes := j.boxes ++ [{ words := boxWords r s, req := some (r.src, r.addr, r.seq) }] }))

/-- Checks 1 and 2 of a LEVEL request, and its mailbox load, run when it becomes ready, unless it repeats the SEQ of the one being written; one that fails them is answered then (R187). None: the request is done with. -/
def judgeLevel (r : JReq) (s : State) : Option JReq × State :=
  if !isLevel r s || r.boxed || repeatsWriting r s then (some r, s)
  else if check1 r s && check2 r s then
    let (r, s) := boxRequest r s
    (some r, s)
  else (none, answer12 r s)

/-- A request becomes ready (R181, R192): before recovery has ended it is held, with no check made. -/
def submit (r : JReq) (s : State) : State :=
  if s.jnl.open_ then
    match judgeLevel r s with
    | (some r, s) => s.modJnl (fun j => { j with reqs := j.reqs ++ [r] })
    | (none, s) => s
  else s.modJnl (fun j => { j with reqs := j.reqs ++ [r] })

/-- The index of the request served next: class 3 first, then the order of becoming ready (R181). -/
def nextReq (s : State) : Option JReq :=
  match s.jnl.reqs.find? (fun r => reqClass r s = 3) with
  | some r => some r
  | none => s.jnl.reqs.head?

/-- Remove the first occurrence of a request from the list of those waiting. -/
def dropReq (r : JReq) (s : State) : State := s.modJnl (fun j => { j with reqs := j.reqs.erase r })

/-- Check 3 of R182: the sender's slot exists, or is claimed in both copies. The HWM of a slot from which nothing has retired is 0, a value the spec does not give: from then on the sender's last accepted number is 0, and its SEQ 0, where checks 4 to 6 refused it, is answered ORDER_FAULT on a retry (R183, log 95). `bad`: the copy of the new slot that does not read back. -/
def claimSender (r : JReq) (bad : Option (Fin 2)) (s : State) : Code × State :=
  match findSender r.src r.addr s with
  | some _ => (.ok, s)
  | none =>
    match freeSender s with
    | none => (.busy, s.p F.jnlStatSndFull 1)
    | some k =>
      let x : Sender := { slot := k, src := r.src, addr := r.addr, hwm := 0 }
      let (ok, s) := writeSenders (k / 4) (s.jnl.senders ++ [x]) bad s
      if ok then (.ok, s.modJnl (fun j => { j with senders := j.senders ++ [x] })) else (.integrity, s)

/-- Checks 4 and 5 of R182. -/
def checkSpace (r : JReq) (s : State) : Bool :=
  let fr := jnlFree s
  let urgent := reqClass r s = 3
  (decide (s.g F.jnlCfgRsv < fr) || (urgent && decide (1 ≤ fr))) && (urgent || !isSevere srcJnl s)

/-- Handle the next request: checks 1 to 5 in order, then reserve its slot and begin its entry (R181 to R186). Not due while an entry is being written or nothing waits. -/
def acceptNext (bad : Option (Fin 2)) (s : State) : State :=
  if s.jnl.writing.isSome ∨ !s.jnl.open_ then s
  else match nextReq s with
    | none => s
    | some r =>
      let s := dropReq r s
      if !check1 r s || !check2 r s then answer12 r s
      else
        let (r, s) := if isLevel r s && !r.boxed then boxRequest r s else (r, s)
        let (c, s) := claimSender r bad s
        if c ≠ .ok then refuse r c s
        else if !checkSpace r s then refuse r .busy s
        else
          let anum := s.jnl.next
          jnlRefresh (s.modJnl (fun j => { j with writing := some (r, anum), next := (anum + 1) % 2 ^ 20 }))

/-- Move a finished entry: word 14, then the state word, each a single-word write (R170, R193). -/
def writeResult (anum st result : Nat) (s : State) : Bool × State :=
  let a := entryAddr anum
  let (ok1, s) := rmwLine (a + 56) 4 result portJnl s
  if ok1 then rmwLine a 4 (entryWord0 anum st) portJnl s else (false, s)

/-- The entry that has just been written enters the class queue; JNL_ACCn is raised when it is the oldest ACCEPTED entry of its class for its domain (R185). -/
def announce (e : JEntry) (s : State) : State :=
  let older := s.jnl.live.any (fun x => x.anum ≠ e.anum && x.cls = e.cls && !x.level && x.standsAccepted
    && entryDom x s = entryDom e s)
  raiseIf (!older) (lineJnlAcc e.cls) s

/-- The mailbox load of a request is still to come (R187). -/
def loadHeld (r : JReq) (s : State) : Bool := s.jnl.boxes.any (fun b => b.req = some (r.src, r.addr, r.seq))

/-- Both lines of the entry being written are written and read back: acknowledged when they verify, refused with INTEGRITY otherwise (R182 check 6, R185, R187). `bad`: the line that does not read back. A LEVEL entry is not acknowledged before its mailbox load, by which it is applied (R23, R187). -/
def entryWriteDone (bad : Option (Fin 2)) (s : State) : State :=
  match s.jnl.writing with
  | none => s
  | some (r, anum) =>
    match kindRec r.kind s, entryBytes r anum s with
    | some k, some bytes =>
      if k.level && loadHeld r s then s
      else
        let s := s.modJnl (fun j => { j with writing := none })
        let (ok1, s) := writeLine (entryAddr anum + 32) (bytes.drop 32) portJnl s
        let (ok2, s) := writeLine (entryAddr anum) (bytes.take 32) portJnl s
        if ok1 && ok2 && bad.isNone then
          let e : JEntry := {
            anum := anum, src := r.src, addr := r.addr, seq := r.seq, kind := r.kind, cls := k.pri,
            rclass := k.rclass, level := k.level, fresh := true, pair := some r.pair }
          let s := s.modJnl (fun j => { j with live := j.live ++ [e] })
          if k.level then
            -- the journal itself moves a LEVEL entry to DONE (R187); no frond takes it
            let s := acknowledge r e s
            let (_, s) := writeResult anum 0x4 0 s
            let s := modEntry anum (fun x => { x with st := .done, doneAt := cycleNow s }) s
            jnlRefresh (if r.src = idHost then reportDone anum s else s)
          else
            let s := serveTakes (announce e (acknowledge r e s))
            jnlRefresh (modEntry anum (fun x => { x with fresh := false }) s)
        else
          -- the slot is left unused: NEXT has passed it, and a slot without an entry never holds HEADNUM back (R182)
          let s := if ok1 && ok2 then backFails (if bad = some 0 then entryAddr anum + 32 else entryAddr anum) s else s
          jnlRefresh (refuse r .integrity s)
    | _, _ => s

/-- Load the mailbox with the next LEVEL request in line and raise JNL_ACC3, not before recovery has ended (R187, R192, R474); a recovered entry is delivered again after release, and then moved to DONE (R193, R196). -/
def urgboxLoad (s : State) : State :=
  match (if s.jnl.open_ then s.jnl.boxes else []) with
  | [] => s
  | b :: rest =>
    if b.again.isSome ∧ s.pow.phase ≠ .running then s else
    let s := s.modJnl (fun j => { j with boxes := rest })
    let s := (b.words.zipIdx).foldl (fun t p => t.p1 F.jnlUrgboxWord p.2 p.1) s
    let s := raiseLine (lineJnlAcc 3) s
    match b.again with
    | none => s
    | some anum =>
      let (ok, s) := writeResult anum 0x4 0 s
      if ok then
        let s := modEntry anum (fun x => { x with st := .done, reported := true, doneAt := cycleNow s }) s
        if (findEntry anum s).any (fun e => e.src = idHost) then s.p F.jnlStatHcomp 1 else s
      else s

/-! ### Transitions by fronds (R169 to R171, R191) -/

/-- What a JMARK, JDONE or JFAIL answers at once, or none when its writes begin (R169, R170). -/
def transitionAtOnce (c a : Nat) (op : JWrite) (s : State) : Option Code :=
  match entryAt a s with
  | none => some .invalid
  | some e =>
    if e.lease ≠ some c then some .invalid
    else match op with
      | .mark =>
        match e.st with
        | .accepted => none
        | .started => some .ok
        | _ => some .invalid
      | .finish okv res =>
        if e.st ≠ .started then some .invalid
        else if !okv && (decide (res % 256 = 0) || decide (0x0B < res % 256) || decide (res % 256 = 7)) then some .invalid
        else none

/-- A JMARK of an entry that is already STARTED ends its stand as ACCEPTED (R169, R190). -/
def replayMarked (a : Nat) (op : JWrite) (s : State) : State :=
  match op, entryAt a s with
  | .mark, some e => if e.replay then serveTakes (modEntry e.anum (fun x => { x with replay := false }) s) else s
  | _, _ => s

/-- A single-word write of an entry that is read back: it fails where the line does not verify, or does not read back (R170, R171). -/
def writeBack (a v : Nat) (bad : Bool) (s : State) : Bool × State :=
  let (ok, s) := rmwLine a 4 v portJnl s
  if ok && bad then (false, backFails a s) else (ok, s)

/-- The writes of a transition complete: its code, and the queue's new state (R169 to R171, R189). `bad`: the write that does not read back; the first of two leaves the state word unchanged, the second leaves the entry STARTED with its new result. -/
def transitionDone (c anum : Nat) (op : JWrite) (bad : Option (Fin 2)) (s : State) : Code × State :=
  let a := entryAddr anum
  match op with
  | .mark =>
    let (ok, s) := writeBack a (entryWord0 anum 0x2) bad.isSome s
    if ok then (.ok, serveTakes (modEntry anum (fun e => { e with st := .started }) s)) else (.integrity, s)
  | .finish okv res =>
    let r := finishWord okv res
    let (ok, s) := writeBack (a + 56) r (bad = some 0) s
    if !ok then (.integrity, s)
    else
      let s := modEntry anum (fun e => { e with result := r }) s
      let (ok, s) := writeBack a (entryWord0 anum (if okv then 0x4 else 0x8)) (bad = some 1) s
      if ok then
        let s := modEntry anum (fun e => { e with
          st := if okv then .done else .failed, lease := none, awaiting := false, doneAt := cycleNow s }) s
        let s := s.setCtx c { s.ctx c with lease := none }
        (.ok, serveTakes (reportDone anum s))
      else (.integrity, s)

/-! ### Retirement and the control block (R180, R196, R197) -/

/-- The conditions of R196 hold for an entry. -/
def mayRetire (e : JEntry) (s : State) : Bool :=
  e.finished && e.reported &&
    decide (4 * s.g F.jnlCfgHold ≤ (cycleNow s + 2 ^ 32 - e.doneAt) % 2 ^ 32)

/-- HEADNUM advances past retired entries and unused slots, in ANUM order (R182, R196). -/
def advanceHead : Nat → State → State
  | 0, s => s
  | n + 1, s =>
    if s.jnl.head = s.jnl.next ∨ (s.jnl.writing.any (fun w => w.2 = s.jnl.head)) then s
    else match findEntry s.jnl.head s with
      | none => advanceHead n (s.modJnl (fun j => { j with head := (j.head + 1) % 2 ^ 20 }))
      | some e =>
        if mayRetire e s then
          advanceHead n (s.modJnl (fun j => { j with
            head := (j.head + 1) % 2 ^ 20
            live := j.live.filter (fun x => x.anum ≠ e.anum)
            senders := j.senders.map (fun x =>
              if x.src = e.src ∧ x.addr = e.addr ∧ x.hwm < e.seq then { x with hwm := e.seq } else x) }))
        else s

/-- Entries that meet R196 retire. -/
def retire (s : State) : State := jnlRefresh (advanceHead 2048 s)

/-- One of the three cases in which the journal writes its control block (R196). -/
def cbDue (s : State) : Bool :=
  let adv := (s.jnl.head + 2 ^ 20 - s.jnl.headWritten) % 2 ^ 20
  decide (32 ≤ adv) || decide (jnlFree s ≤ s.g F.jnlCfgLowat) ||
    (decide (0 < adv) && s.jnl.writing.isNone && s.jnl.reqs.isEmpty && (waitersOn WaitFor.isWrite s).isEmpty)

/-- The bytes of a control-block copy (R179). -/
def cbBytes (gen head : Nat) : List (BitVec 8) :=
  let b := leBytes 4 0x4A434231 ++ leBytes 4 gen ++ leBytes 4 head ++ List.replicate 16 0
  b ++ leBytes 4 (crc32c b)

/-- Write the sender table and then both control-block copies; HEADNUM counts as written only once both carry it, and neither is written before every HWM stands in both copies of the table (R180, R195). -/
def writeControlBlock (s : State) : State :=
  if !cbDue s then s
  else
    let (ok, s) := writeTable s
    if !ok then s else
    let g := (s.jnl.gen + 1) % 2 ^ 32
    let b := cbBytes g s.jnl.head
    let (ok1, s) := writeLine 0x10020000 b portJnl s
    if !ok1 then s
    else
      let (ok2, s) := writeLine 0x10020020 b portJnl s
      if !ok2 then s
      else jnlRefresh (s.modJnl (fun j => { j with gen := g, headWritten := j.head, cbStale := false }))

/-! ### Host query (R198, R199) -/

/-- The host's query of a SEQ (R198, R199, R201). -/
def hostQuery (seq : Nat) (s : State) : State :=
  match entryOfSeq idHost 0 seq s with
  | some e => ((s.p F.jnlHqstCode 0).p F.jnlHqstState e.st.num).p F.jnlHqresResult e.result
  | none =>
    let c := match lastAccepted idHost 0 s with
      | some n => if seq ≤ n then Code.orderFault else Code.invalid
      | none => Code.invalid
    ((s.p F.jnlHqstCode c.num).p F.jnlHqstState 0).p F.jnlHqresResult 0

/-! ### Recovery (R192, R193, R195) -/

/-- A control-block copy that verifies: its GEN and HEADNUM (R179). -/
def readCb (a : Nat) (s : State) : Option (Nat × Nat) × State :=
  let (ok, s) := checkLine a portJnl s
  let bs := s.byteList a 32
  if ok ∧ s.word a = 0x4A434231 ∧ ofLe (bs.drop 28) = crc32c (bs.take 28) then
    (some (s.word (a + 4), s.word (a + 8) % 2 ^ 20), s)
  else (none, s)

/-- Word 14 of an entry whose second line is lost: free, but that CODE is one the entry's state allows: OK of a DONE entry, 0x01 to 0x0B of a FAILED one, and none before that (R15, R170, log 67). -/
def lostResult (st : JState) (k : Nat) : Nat :=
  let r := (Config.jnlLostResult k).toNat
  match st with
  | .done => r / 256 * 256
  | .failed => r / 256 * 256 + 1 + r % 256 % 11
  | _ => 0

/-- The entry a slot holds under the live window that begins at `head`, with whether both lines verify (R178, R192, R195). Answers none where the slot holds no entry. -/
def readSlot (head i : Nat) (s : State) : Option JEntry × State :=
  let a := nvsBase + 64 * i
  let (ok1, s) := checkLine a portJnl s
  let (ok2, s) := checkLine (a + 32) portJnl s
  let w0 := s.word a
  let w1 := s.word (a + 4)
  let w3 := s.word (a + 12)
  let anum := w0 % 2 ^ 20
  let src := w1 / 2 ^ 16 % 16
  let body := s.byteList (a + 4) 52
  let shape := ok1 && decide (w0 / 2 ^ 24 = 0x4A) && decide (anum % 2048 = i) && decide (src < 3)
    && decide ((anum + 2 ^ 20 - head) % 2 ^ 20 < 2048)
    && decide (w3 / 2 ^ 24 % 4 ≠ 3) && decide (w3 / 2 ^ 16 % 64 ≤ 40)
  match JState.ofNum? (w0 / 2 ^ 20 % 16) with
  | none => (none, s)
  | some st =>
    if shape && (!ok2 || decide (s.word (a + 60) = entryCrc anum body)) then
      let (k, s) := if ok2 then (0, s) else s.draw
      (some {
              anum := anum, st := st, src := src, addr := w1 % 2 ^ 12, seq := s.word (a + 8), kind := w3 % 2 ^ 16,
              cls := w3 / 2 ^ 22 % 4, rclass := w3 / 2 ^ 24 % 4, level := decide (w3 / 2 ^ 26 % 2 = 1),
              replay := st = .started && w3 / 2 ^ 24 % 4 = 0
              result := if ok2 then s.word (a + 56) else lostResult st k, lost := !ok2 }, s)
    else (none, s)

/-- Every slot read at recovery, the entries kept in ANUM order (R192). -/
def readSlots (head : Nat) (s : State) : List JEntry × State :=
  let r := (List.range 2048).foldl (fun (p : List JEntry × State) i =>
    let (e, t) := readSlot head ((head + i) % 2048) p.2
    (match e with | some x => x :: p.1 | none => p.1, t)) (([], s) : List JEntry × State)
  (r.1.reverse, r.2)

/-- Move an entry to FAILED at recovery, word 14 first, and report it (R193). -/
def failAtRecovery (anum : Nat) (c : Code) (s : State) : State :=
  let (_, s) := writeResult anum 0x8 c.num s
  let s := modEntry anum (fun e => { e with st := .failed, result := c.num, doneAt := cycleNow s }) s
  reportDone anum s

/-- Recovery settles one entry (R193, R195). A finished entry of the link has its COMPLETE sent again, but a LEVEL entry gets none (R193, R196). -/
def settle (e : JEntry) (s : State) : State :=
  if e.lost then
    if e.finished then
      let s := faultEvent srcJnl ((s.p F.jnlStatEntLost 1).p F.jnlLostnumAnum e.anum)
      modEntry e.anum (fun x => { x with reported := true, doneAt := cycleNow s }) s
    else loseEntry e.anum s
  else match e.st with
    | .done | .failed =>
      let own := e.src = idHost || e.level
      let s := modEntry e.anum (fun x => { x with doneAt := cycleNow s, reported := own }) s
      if own then s else reportDone e.anum s
    | _ =>
      if (kindRec e.kind s).isNone then failAtRecovery e.anum .invalid s
      else if e.rclass = 2 then failAtRecovery e.anum .abortedByReset s
      else if e.rclass = 1 then modEntry e.anum (fun x => { x with awaiting := true }) s
      else if e.level ∧ e.st = .accepted then
        -- delivered again through the mailbox after release (R193)
        let ws := wordsOf 13 (s.byteList (entryAddr e.anum + 4) 52)
        s.modJnl (fun j => { j with boxes := j.boxes ++ [{ words := ws, again := some e.anum }] })
      else s

/-- The sender table rebuilt: per slot, the higher HWM of the copies that verify (R180, R192). -/
def readSenders (s : State) : List Sender × State :=
  let copy := fun (base k : Nat) (s : State) =>
    let a := base + 8 * k
    let ok := lineOk a s
    let w := s.word a
    if ok ∧ 2 ^ 31 ≤ w then some (Sender.mk k (w / 2 ^ 16 % 16) (w % 2 ^ 12) (s.word (a + 4))) else none
  let s := (List.range 16).foldl (fun t i => (checkLine (0x10020040 + 32 * i) portJnl t).2) s
  let s := (List.range 16).foldl (fun t i => (checkLine (0x10020240 + 32 * i) portJnl t).2) s
  ((List.range 64).filterMap (fun k =>
    match copy 0x10020040 k s, copy 0x10020240 k s with
    | some a, some b => some (if a.hwm < b.hwm then b else a)
    | some a, none => some a
    | none, b => b), s)

/-- Journal recovery (R99, R192 to R195). Answers whether both control-block copies were lost: then no entry is recovered, but the senders' numbers are. -/
def jnlRecover (s : State) : Bool × State :=
  let (a, s) := readCb 0x10020000 s
  let (b, s) := readCb 0x10020020 s
  match a, b with
  | none, none =>
    let s := faultEvent srcJnl (s.p F.jnlStatJlost 1)
    let (snd, s) := readSenders s
    (true, jnlRefresh (s.modJnl (fun j => { j with senders := snd })))
  | _, _ =>
    let (g, head) := match a, b with
      | some x, some y => if x.1 < y.1 then y else x
      | some x, none => x
      | none, some y => y
      | none, none => (0, 0)
    let one := a.isNone || b.isNone
    -- the HEADNUM that both copies carry; a lost copy can be taken by no recovery (R180, R201, log 96)
    let both := match a, b with
      | some x, some y => if x.1 < y.1 then x.2 else if y.1 < x.1 then y.2 else x.2
      | _, _ => head
    let s := if one then faultEvent srcJnl (s.p F.jnlStatCbOne 1) else s
    let (snd, s) := readSenders s
    let (es, s) := readSlots head s
    let next := match es.getLast? with
      | some e => (e.anum + 1) % 2 ^ 20
      | none => head
    let s := s.modJnl (fun j => { j with
      live := es, senders := snd, head, headWritten := both, next, gen := g, cbStale := one })
    let s := es.foldl (fun t e => settle e t) s
    (false, jnlRefresh s)

/-- Requests in the order of their senders' initiator IDs, lowest first (R181). -/
def bySrc (l : List JReq) : List JReq := (List.range 3).flatMap (fun i => l.filter (fun r => r.src = i))

/-- Recovery has ended: requests held until now become ready on one edge (R181, R192). -/
def jnlOpen (s : State) : State :=
  let held := bySrc s.jnl.reqs
  let s := s.modJnl (fun j => { j with open_ := true, reqs := [] })
  held.foldl (fun t r => submit r t) s

end Sys2Proof.Machine
end

