-- ==== Sys2Proof/Machine/SeqCore.lean ====
section
/-! DEFINITION. Context commands, context faults and ranked semaphores (R135, R144 to R150, R155). -/

namespace Sys2Proof.Machine

/-- The journal writes that a stopped context waits for go on and complete (R135, R171, log 51). -/
def finishWrites (c : Nat) (s : State) : State :=
  match (s.ctx c).st, (s.ctx c).wait with
  | .wait, some (.write anum _ op) => (transitionDone c anum op none s).2
  | _, _ => s

/-- A context enters HALT: its wait is cancelled and its lease ends (R135, R190); what it has prefetched stays until it next takes a transfer (R165). -/
def haltCtx (c : Nat) (s : State) : State :=
  let s := finishWrites c s
  let s := s.setCtx c { s.ctx c with st := .halt, wait := none, since := 0, urg := 0, infl := none, stop := false }
  normUrg (leaseEnd c s)

/-- The contexts of a domain below base priority 3 halt, one in RUN when it retires (R150). -/
def seqHaltDomain (dom : Nat) (s : State) : State :=
  s.seq.ctxs.foldl (fun t e =>
    let x := t.ctx e.1
    if x.dom = dom ∧ x.pri < 3 then
      match x.st with
      | .ready | .wait => haltCtx e.1 t
      | .run => t.setCtx e.1 { x with stop := true }
      | _ => t
    else t) s

/-- The severe action of source SEQ for the domain of a context that faulted on the event's edge; SEQ_SEVERE is raised (R150). -/
def seqSevere (dom : Nat) (s : State) : State := raiseLine lineSeqSevere (seqHaltDomain dom s)

/-- The causes of R148. -/
def causeIllegal : Nat := 0x01
/-- FETCH (R148). -/
def causeFetch : Nat := 0x02
/-- DATA (R148). -/
def causeData : Nat := 0x03
/-- STACK_OVER (R148). -/
def causeStackOver : Nat := 0x04
/-- STACK_UNDER (R148). -/
def causeStackUnder : Nat := 0x05
/-- SEM_ORDER (R148). -/
def causeSemOrder : Nat := 0x06
/-- TRAP (R148). -/
def causeTrap : Nat := 0x07
/-- URG_OVERRUN (R148). -/
def causeUrgOverrun : Nat := 0x08
/-- PARITY (R148). -/
def causeParity : Nat := 0x09

/-- A context takes a fault: its record, SEQ_FLTCTX, SEQ_STAT.FAULT, CTX_FAULT, the event of source SEQ and the end of its lease (R148 to R150, R190). -/
def ctxFault (c cause code : Nat) (s : State) : State :=
  let x := s.ctx c
  let s := s.setCtx c { x with
    st := .fault, cause := cause, code := code, fpc := x.pc, wait := none, since := 0, infl := none, stop := false }
  let s := ((s.p F.seqFltctxCtx c).p F.seqFltctxCause cause).p F.seqFltctxCode code
  let s := s.p F.seqStatFault 1
  let s := if cause = causeSemOrder then s.p F.seqStatOrder 1 else s
  let s := raiseLine lineCtxFault s
  let (sev, s) := faultPush srcSeq s
  let s := if sev then seqSevere x.dom s else s
  normUrg (leaseEnd c s)

/-- SEQ_CTXCMD START (R135). -/
def ctxStart (c : Nat) (s : State) : Code × State :=
  if (s.ctx c).st = .halt then (.ok, s.setCtx c { s.ctx c with st := .ready, urg := 0 }) else (.busy, s)

/-- SEQ_CTXCMD STOP (R135): a context in RUN halts when its instruction retires. -/
def ctxStop (c : Nat) (s : State) : Code × State :=
  match (s.ctx c).st with
  | .ready | .wait => (.ok, haltCtx c s)
  | .run => (.ok, s.setCtx c { s.ctx c with stop := true })
  | _ => (.busy, s)

/-- SEQ_CTXCMD CLEAR (R135). -/
def ctxClear (c : Nat) (s : State) : Code × State :=
  if (s.ctx c).st = .fault then (.ok, s.setCtx c { s.ctx c with st := .halt, urg := 0 }) else (.busy, s)

/-- SEQ_CTXCMD's value picks the command (R155). -/
def ctxCommand (cmd c : Nat) (s : State) : Code × State :=
  match cmd with
  | 1 => ctxStart c s
  | 2 => ctxStop c s
  | 3 => ctxClear c s
  | _ => (.invalid, s)

/-- The context an initiator has selected (R155). -/
def selOf (id : Nat) (s : State) : Nat := Tab.val 0 s.seq.sel id

/-- A frond-domain initiator that has selected a context of another domain (R155). -/
def selForeign (id : Nat) (s : State) : Bool :=
  decide (6 ≤ id) && decide (id ≤ 13) && decide ((s.ctx (selOf id s)).dom ≠ id - 6)

/-- A write of SEQ_CTXCMD (R155). -/
def seqCtxcmdW (id v : Nat) (s : State) : Code × State :=
  if selForeign id s then (.denied, s) else ctxCommand (v % 8) (selOf id s) s

/-! ### Semaphores (R144 to R147) -/

/-- The rank bit of semaphore `n`. -/
def rankBit (n : Nat) (s : State) : Nat := 2 ^ s.g1 F.seqSemRank n

/-- Context `c` takes semaphore `n` (R144). -/
def semTake (c n : Nat) (s : State) : State :=
  let s := (s.p1 F.seqSemHeld n 1).p1 F.seqSemOwner n c
  normUrg (s.setCtx c { s.ctx c with held := (s.ctx c).held ||| rankBit n s })

/-- The better of two waiters: higher effective priority, then the longer wait (R145). -/
def betterWaiter (s : State) (a b : Nat × Ctx) : Nat × Ctx :=
  if epri s a.1 < epri s b.1 then b else if epri s b.1 < epri s a.1 then a else longer a b

/-- Semaphore `n` is freed and handed to its best waiter (R145, R146). -/
def semFree (n : Nat) (s : State) : State :=
  let o := s.g1 F.seqSemOwner n
  let x := s.ctx o
  let s := s.setCtx o { x with held := x.held &&& (0xFFFF - rankBit n s) }
  let s := (s.p1 F.seqSemHeld n 0).p1 F.seqSemOwner n 0
  match waitersOn (WaitFor.onSem n) s with
  | [] => normUrg s
  | a :: t =>
    let w := t.foldl (betterWaiter s) a
    semTake w.1 n (wakeCtx w.1 0 s)

/-- A write of SEQ_SEMn: RANK and FREL (R146, R147). -/
def seqSemW (n v : Nat) (s : State) : Code × State :=
  let rank := v % 16
  if s.b1 F.seqSemHeld n then
    if rank ≠ s.g1 F.seqSemRank n then (.busy, s)
    else (.ok, if v.testBit 31 then semFree n s else s)
  else (.ok, s.p1 F.seqSemRank n rank)

/-- A write of SEQ_SIGNAL (R139, R142). -/
def seqSignalW (line : Nat) (s : State) : Code × State :=
  if line % 256 < 64 then (.invalid, s) else (.ok, raiseLine (line % 256) s)

/-- A write of SEQ_CTXCFG or SEQ_CTXPC is refused outside HALT and FAULT (R155). -/
def ctxEditable (c : Nat) (s : State) : Bool := (s.ctx c).st = .halt || (s.ctx c).st = .fault

/-- The encoding of a context's state in SEQ_CTXSTAT (R155). -/
def CtxState.num : CtxState → Nat
  | .halt => 0
  | .ready => 1
  | .run => 2
  | .wait => 3
  | .fault => 4

/-- KIND and OBJ of SEQ_CTXWAIT (R155); OBJ of a string-time or journal wait, for which the spec gives none, reads 0 (log 91). -/
def WaitFor.view : WaitFor → Nat × Nat
  | .event l _ _ _ => (0, l)
  | .time _ _ => (1, 0)
  | .sem n _ _ => (2, n)
  | .take _ _ _ => (3, 0)
  | .write _ _ _ => (3, 0)

/-- Writes of the SEQ block that have rules of their own (R155). -/
def seqWrite (id addr v : Nat) (s : State) : Code × State :=
  let off := addr % 0x1000
  let c := selOf id s
  if off = 0x010 then (.ok, { s with seq := { s.seq with sel := Tab.put 0 s.seq.sel id (v % 1024) } })
  else if off = 0x014 then seqCtxcmdW id v s
  else if off = 0x018 then
    if selForeign id s then (.denied, s)
    else if !ctxEditable c s then (.busy, s)
    else (.ok, normUrg (s.setCtx c { s.ctx c with dom := v % 8, pri := v / 16 % 4 }))
  else if off = 0x01C then
    if selForeign id s then (.denied, s)
    else if !ctxEditable c s then (.busy, s)
    else (.ok, s.setCtx c { s.ctx c with pc := v % 2 ^ 32 / 4 * 4 })
  else if 0x400 ≤ off ∧ off < 0x500 ∧ off % 4 = 0 then seqSemW ((off - 0x400) / 4) v s
  else if off = 0x800 then seqSignalW v s
  else genWrite id addr v s

/-- Reads of the SEQ block that show a view (R155); SEQ_CTXWAIT of a context that is not in WAIT reads 0 (log 91). -/
def seqRead (id addr : Nat) (s : State) : Code × Nat × State :=
  let off := addr % 0x1000
  let x := s.ctx (selOf id s)
  if off = 0x010 then (.ok, selOf id s, s)
  else if off = 0x018 then (.ok, x.dom + x.pri * 16, s)
  else if off = 0x01C then (.ok, x.pc / 4 * 4, s)
  else if off = 0x020 then
    (.ok, x.st.num + epri s (selOf id s) * 16 + x.stack.length * 256 + x.cause * 2 ^ 16 + x.code * 2 ^ 24, s)
  else if off = 0x024 then (.ok, x.held, s)
  else if off = 0x028 then
    match x.wait with
    | some w => (.ok, w.view.1 + w.view.2 * 256, s)
    | none => (.ok, 0, s)
  else if 0x808 ≤ off ∧ off < 0x820 ∧ off % 4 = 0 then
    (.ok, (s.seq.latch.toNat / 2 ^ (64 + 8 * (off - 0x808))) % 2 ^ 32, s)
  else genRead addr s

end Sys2Proof.Machine
end

