-- ==== Sys2Proof/Machine/Pst.lean ====
section
/-! DEFINITION. The panel power stages: modes, outputs, targets, presence, soft start, protection, bypass, forced SAFE, synchronisation and staging (R237 to R265). -/

namespace Sys2Proof.Machine

/-- Mode encodings of PST_x_MODE (R264). -/
def modeOff : Nat := 0
/-- BUCK. -/
def modeBuck : Nat := 1
/-- BOOST. -/
def modeBoost : Nat := 2
/-- BUCK-BOOST. -/
def modeBuckBoost : Nat := 3
/-- PASS. -/
def modePass : Nat := 4
/-- SAFE. -/
def modeSafe : Nat := 5

/-- Input `x` behind its registers. -/
def State.pin (s : State) (x : Nat) : PstIn := Tab.val {} s.pst x

/-- Change input `x` behind its registers. -/
def State.modPin (s : State) (x : Nat) (f : PstIn → PstIn) : State :=
  { s with pst := Tab.put {} s.pst x (f (s.pin x)) }

/-- The mode in force of input `x` (R264). -/
def pstMode (x : Nat) (s : State) : Nat := s.g1 F.pstStatMode x

/-- The fault flags of an input (R255). -/
def pstFaulted (x : Nat) (s : State) : Bool :=
  s.b1 F.pstStatOc0 x || s.b1 F.pstStatOc1 x || s.b1 F.pstStatOv x || s.b1 F.pstStatDrvflt x || s.b1 F.pstStatSsfail x

/-! ### Outputs (R237 to R241) -/

/-- The four output levels of a phase. -/
structure Legs where
  bh : Bool
  bl : Bool
  kh : Bool
  kl : Bool
deriving DecidableEq, Repr

/-- Active high time of a switching leg (R239). -/
def highTime (d p dt : Nat) : Nat := min d (p - 2 * dt)

/-- The least time between one switch of a leg going low and the other going high: the dead time, and a whole SCLK in any case, so that no SCLK cycle sees both high (R238, log 100). -/
def deadTime (dt : Nat) : Nat := max dt 16

/-- The offsets of a leg's four edges in one period; none for one that does not come (R239, R243). -/
structure LegPlan where
  /-- The complement falls, the active switch rises. -/
  low : Option Nat
  rise : Option Nat
  /-- The active switch falls, the complement rises. -/
  fall : Option Nat
  high : Option Nat
deriving DecidableEq, Repr

/-- The edges of a period of `p` units whose high time is `h0` up to a load at offset `u` and `h1` from there (R239, R243): an overdue fall comes one SCLK after the load, an overdue rise not at all, and every rise keeps its dead time. -/
def legPlan (h0 h1 u p dt : Nat) : LegPlan :=
  let g := deadTime dt
  let low := if u = 0 then (if h1 = 0 then none else some 0)
    else if h0 ≠ 0 then some 0 else if h1 ≠ 0 then some (u + 16) else none
  let rise := match low with
    | some c => if (if u ≤ g then h1 else h0) = 0 then none else some (c + g)
    | none => none
  let fall := rise.map (fun a => if u ≤ dt + h0 ∨ u ≤ a then (if u ≤ dt + h1 then dt + h1 else u + 16) else dt + h0)
  let due := if 2 * dt + h0 < u then (if h0 = p - 2 * dt then none else some (2 * dt + h0))
    else if h1 = p - 2 * dt ∨ 2 * dt + h1 < u then none else some (2 * dt + h1)
  { low, rise, fall, high := due.map (fun r => max r ((fall.map (· + g)).getD 0)) }

/-- The active switch of a leg at offset `t` (R239). -/
def LegPlan.active (l : LegPlan) (t : Nat) : Bool :=
  match l.rise, l.fall with
  | some a, some f => decide (a ≤ t) && decide (t < f)
  | _, _ => false

/-- The complement of a leg at offset `t`, `rest` units of the time before the period with the active switch low: up to its fall, and from its rise (R238, R239). -/
def LegPlan.complement (l : LegPlan) (dt rest t : Nat) : Bool :=
  (l.low.all (fun c => decide (t < c)) && decide (deadTime dt ≤ t + rest)) || l.high.any (fun r => decide (r ≤ t))

/-- The period set of a phase. -/
def phaseSet (y : Nat) (p : PstIn) : PerSet := if y = 0 then p.set0 else p.set1

/-- The period in use of a phase (R261, R262). -/
def phasePer (y : Nat) (p : PstIn) : Nat := if y = 0 then p.per0 else p.per1

/-- The plan of the buck leg of phase `y` in its running period. -/
def buckPlan (y : Nat) (p : PstIn) : LegPlan :=
  let per := phasePer y p
  let dt := (phaseSet y p).dtb
  let d := if y = 0 then p.db0 else p.db1
  match (if y = 0 then p.load0 else p.load1) with
  | some l => legPlan (highTime l.db per dt) (highTime d per dt) l.at_ per dt
  | none => legPlan (highTime d per dt) (highTime d per dt) 0 per dt

/-- The plan of the boost leg of phase `y` in its running period. -/
def boostPlan (y : Nat) (p : PstIn) : LegPlan :=
  let per := phasePer y p
  let dt := (phaseSet y p).dtk
  let d := if y = 0 then p.dk0 else p.dk1
  match (if y = 0 then p.load0 else p.load1) with
  | some l => legPlan (highTime l.dk per dt) (highTime d per dt) l.at_ per dt
  | none => legPlan (highTime d per dt) (highTime d per dt) 0 per dt

/-- The mode a phase acts on: phase 1 follows phase 0 at its own period starts (R245). -/
def phaseMode (x y : Nat) (s : State) : Nat := if y = 0 then pstMode x s else (s.pin x).m1

/-- What the stage commands on the four outputs of phase `y` of input `x` at offset `t` of its period (R237, R238, R241). -/
def outputs (x y t : Nat) (s : State) : Legs :=
  let p := s.pin x
  let st := phaseSet y p
  let m := phaseMode x y s
  let rest := if y = 0 then p.rest0 else p.rest1
  let sync := s.b1 F.pstStatSsdone x
  let buck := buckPlan y p
  let boost := boostPlan y p
  let on := fun dt => decide ((if y = 0 then p.was0 else p.was1) = m) || decide (deadTime dt ≤ t)
  let bh := buck.active t
  let bl := sync && buck.complement st.dtb rest.1 t
  let kl := boost.active t
  let kh := boost.complement st.dtk rest.2 t
  if (if y = 0 then p.trip0 else p.trip1) then ⟨false, false, false, false⟩
  else if m = 1 then ⟨bh, bl, on st.dtk, false⟩
  else if m = 2 then ⟨on st.dtb, false, kh, kl⟩
  else if m = 3 then ⟨bh, bl, sync && kh, kl⟩
  else if m = 4 then ⟨on st.dtb, false, on st.dtk, false⟩
  else if m = 5 ∧ s.b1 F.pstStatSreg x then ⟨bh, bl, on st.dtk, false⟩
  else ⟨false, false, false, false⟩

/-- The levels on a phase's PWM pins, in the order BH, BL, KH, KL: high impedance while the TZE816 is unpowered (R65, R67, R87, R417). -/
def pwmPins (x y t : Nat) (s : State) : List (Option Bool) :=
  let o := outputs x y t s
  let pin := 100 + 8 * x + 4 * y
  [pinUnder pin (some o.bh) s, pinUnder (pin + 1) (some o.bl) s, pinUnder (pin + 2) (some o.kh) s, pinUnder (pin + 3) (some o.kl) s]

/-! ### Hardware changes of mode (R246, R251, R257, R263) -/

/-- A flag of PST_x_STAT is set by hardware: PST_x is raised (R263). -/
def pstFlag (f : Fam) (x : Nat) (s : State) : State := raiseLine (linePst x) (s.p1 f x 1)

/-- The mode in force and the MODE register take a value at once, at both phases, whose outputs are low until their next period starts (R239, R245, log 101). -/
def pstEnter (x m : Nat) (s : State) : State :=
  ((s.p1 F.pstStatMode x m).p1 F.pstModeMode x m).modPin x (fun p => { p with
    m1 := m, next := none, ss := false, ssPass := false, trip0 := true, trip1 := true })

/-- Input `x` goes to OFF: its eight outputs are low, TRIM is 0 (R245, R250). -/
def pstOff (x : Nat) (s : State) : State :=
  ceModeHook x s ((((pstEnter x 0 s).p1 F.pstStatSreg x 0).p1 F.pstStatSsdone x 0).p1 F.pstBalTrim x 0)

/-- Hardware takes input `x` to OFF; PST_x is raised (R263). -/
def pstTripOff (x : Nat) (s : State) : State :=
  if pstMode x s = 0 then s else raiseLine (linePst x) (pstOff x s)

/-- Forced entry to SAFE of one input that is not OFF; one already in SAFE stays as it is (R257, R258). -/
def forceSafe (x : Nat) (s : State) : State :=
  if pstMode x s = 0 ∨ pstMode x s = 5 then s
  else raiseLine (linePst x) (ceModeHook x s (((pstEnter x 5 s).p1 F.pstStatSreg x 0).p1 F.pstStatSsdone x 0))

/-- Forced entry to SAFE of every input that is not OFF (R257). -/
def forceSafeAll (s : State) : State := (List.range 8).foldl (fun t x => forceSafe x t) s

/-- A pin demand also returns regulating inputs to the low sub-state (R258). -/
def pinDemandAll (s : State) : State :=
  (List.range 8).foldl (fun t x =>
    let t := forceSafe x t
    if pstMode x t = 5 ∧ t.b1 F.pstStatSreg x then
      ceModeHook x t (((t.p1 F.pstStatSreg x 0).p1 F.pstStatSsdone x 0).modPin x (fun p => { p with ss := false }))
    else t) s

/-- A pin demand stands (R434). -/
def safeDemand (s : State) : Bool := !s.flt.pinA || s.flt.pinB

/-- The SAFE hold of R245: a demand or DISCREPANCY, KALOSS, or PST_FORCE.SAFE (R257). -/
def safeHold (s : State) : Bool :=
  safeDemand s || s.b F.fltSafestatDiscrepancy || s.b F.slkStatKaloss || s.b F.pstForceSafe

/-- A fault event of source PST_x; a severe one takes the input to OFF and sets LOCKOUT (R255). -/
def pstFault (x : Nat) (s : State) : State :=
  let (sev, s) := faultPush (srcPst x) s
  if sev then raiseLine (linePst x) ((pstOff x s).p1 F.pstStatLockout x 1) else s

/-! ### MODE writes (R245 to R247) -/

/-- Soft start begins in mode `m` (R248, R251): commanded VIN and VOUT at their targets when coming from OFF, commanded ILIM at 0; PASS soft-starts in BUCK. -/
def softStart (x m : Nat) (s : State) : State :=
  let s := if pstMode x s = 0 then
      (s.p1 F.pstCmdvinVal x (s.g1 F.pstVinMv x)).p1 F.pstCmdvoutVal x (s.g1 F.pstVoutMv x) else s
  let r := if m = 4 then 1 else m
  let s := ceModeHook x s (((((pstEnter x r s).p1 F.pstModeMode x m).p1 F.pstCmdilimVal x 0).p1 F.pstStatSsdone x 0).p1 F.pstStatSreg x 0)
  (s.p1 F.pstStatResume x m).modPin x (fun p => { p with ss := true, ssPass := decide (m = 4), restart := false })

/-- A MODE write of OFF (R245); it cancels the automatic restart (R252). -/
def modeWriteOff (x : Nat) (s : State) : Code × State :=
  (.ok, (pstOff x s).modPin x (fun p => { p with restart := false }))

/-- A MODE write of SAFE (R245, R257). -/
def modeWriteSafe (x : Nat) (s : State) : Code × State :=
  if s.b1 F.pstStatLockout x then (.busy, s) else (.ok, forceSafe x s)

/-- A run mode written while the input runs: nothing changes where MODE already holds it; otherwise it takes effect at each phase's next period start, during soft start too (R245, log 71). -/
def modeChange (x m : Nat) (s : State) : State :=
  let same := s.g1 F.pstModeMode x = m
  let s := (s.p1 F.pstModeMode x m).p1 F.pstStatResume x m
  if same then s else s.modPin x (fun p => { p with next := some m, ssPass := false })

/-- A MODE write of BUCK, BOOST, BUCK-BOOST or PASS (R245, R247, R255). -/
def modeWriteRun (x m : Nat) (s : State) : Code × State :=
  if s.b1 F.pstStatLockout x then (.busy, s)
  else if pstMode x s = 0 ∨ pstMode x s = 5 then
    if s.b1 F.pstStatPresent x && !safeHold s then (.ok, softStart x m s) else (.busy, s)
  else (.ok, modeChange x m s)

/-- A write of PST_x_MODE (R245). -/
def modeWrite (x m : Nat) (s : State) : Code × State :=
  match m with
  | 0 => modeWriteOff x s
  | 1 => modeWriteRun x 1 s
  | 2 => modeWriteRun x 2 s
  | 3 => modeWriteRun x 3 s
  | 4 => modeWriteRun x 4 s
  | 5 => modeWriteSafe x s
  | _ => (.invalid, s)

/-! ### Commanded targets and soft start (R248, R251) -/

/-- Move a value toward a target by at most `r`; a rate of 0 goes there at once (R248). -/
def approach (v t r : Nat) : Nat :=
  if r = 0 then t else if v < t then min (v + r) t else max (v - r) t

/-- A 1 µs step of one input's commanded values, with soft start's completion (R248, R251). -/
def slewStep (x : Nat) (s : State) : State :=
  if pstMode x s = 0 then s
  else
    let sv := s.g1 F.pstSlewSv x
    let p := s.pin x
    let ri := if p.ss then s.g1 F.pstSsRate x else s.g1 F.pstSlewSi x
    let s := s.p1 F.pstCmdvoutVal x (approach (s.g1 F.pstCmdvoutVal x) (s.g1 F.pstVoutMv x) sv)
    let s := s.p1 F.pstCmdvinVal x (approach (s.g1 F.pstCmdvinVal x) (s.g1 F.pstVinMv x) sv)
    let s := s.p1 F.pstCmdvsafeVal x (approach (s.g1 F.pstCmdvsafeVal x) (s.g1 F.pstVsafeMv x) sv)
    let s := s.p1 F.pstCmdilimVal x (approach (s.g1 F.pstCmdilimVal x) (s.g1 F.pstIlimMa x) ri)
    if p.ss ∧ s.g1 F.pstCmdilimVal x = s.g1 F.pstIlimMa x ∧ p.since.any (fun n => n ≤ 16) then
      let s := s.modPin x (fun q => { q with ss := false, next := if q.ssPass then some 4 else q.next, ssPass := false })
      raiseLine (linePst x) (s.p1 F.pstStatSsdone x 1)
    else s

/-- The set-point a commanded value presents to the control engine (R249): 0 VIN, 1 VOUT, 2 ILIM, 3 VSAFE. -/
def setPoint (x which : Nat) (s : State) : Nat :=
  match which with
  | 0 => s.g1 F.pstCmdvinVal x * s.g1 F.pstKKv x / 2 ^ 16
  | 1 => s.g1 F.pstCmdvoutVal x * s.g F.pstScaleKvs / 2 ^ 16
  | 2 => s.g1 F.pstCmdilimVal x * s.g1 F.pstKKi x / 2 ^ 16
  | _ => s.g1 F.pstCmdvsafeVal x * s.g F.pstScaleKvs / 2 ^ 16

/-- Soft start has not completed within TMAX (R251). -/
def softStartTimeout (x : Nat) : State → State := oneEdge fun s =>
  if (s.pin x).ss then pstFault x (pstFlag F.pstStatSsfail x (pstTripOff x s)) else s

/-- Presence detection (R251), and the automatic restart it allows, judged as PRESENT returns (R252, log 71). -/
def presenceDetected (x : Nat) : State → State := oneEdge fun s =>
  if s.b1 F.pstStatPresent x then s
  else
    let s := pstFlag F.pstStatPreschg x (s.p1 F.pstStatPresent x 1)
    if (s.pin x).restart ∧ s.b1 F.pstPresUvr x ∧ !s.b1 F.pstStatLockout x ∧ !safeHold s ∧ pstMode x s = 0
        ∧ 1 ≤ s.g1 F.pstStatResume x ∧ s.g1 F.pstStatResume x ≤ 4 then
      raiseLine (linePst x) (softStart x (s.g1 F.pstStatResume x) s)
    else if (s.pin x).restart then s.modPin x (fun p => { p with restart := false })
    else s

/-- Presence lost (R251, R252). -/
def presenceLost (x : Nat) : State → State := oneEdge fun s =>
  if !s.b1 F.pstStatPresent x then s
  else
    let running := pstMode x s ≠ 0
    let ss := (s.pin x).ss
    let s := pstFlag F.pstStatPreschg x (s.p1 F.pstStatPresent x 0)
    if running then
      let s := (pstFlag F.pstStatRemoved x (pstTripOff x s)).modPin x (fun p => { p with restart := true })
      if ss then pstFault x (pstFlag F.pstStatSsfail x s) else s
    else s

/-! ### Protection (R253 to R255) -/

/-- An overcurrent trip of phase `y` outside blanking, in any mode (R253, R254). -/
def overcurrent (x y : Nat) : State → State := oneEdge fun s =>
  if y = 0 then
    let s := s.modPin x (fun p => { p with trip0 := true })
    pstFault x ((pstFlag F.pstStatOc0 x s).sat1 F.pstOccntCnt0 x 1)
  else
    let s := s.modPin x (fun p => { p with trip1 := true })
    pstFault x ((pstFlag F.pstStatOc1 x s).sat1 F.pstOccntCnt1 x 1)

/-- An overvoltage trip, by VINS_x or by OVP_EXT (R253). -/
def overvoltage (x : Nat) : State → State := oneEdge fun s => pstFault x (pstFlag F.pstStatOv x (pstTripOff x s))

/-- An undervoltage trip of a running input (R252, R253). -/
def undervoltage (x : Nat) : State → State := oneEdge fun s =>
  if pstMode x s = 0 then s
  else (pstFlag F.pstStatUv x (pstTripOff x s)).modPin x (fun p => { p with restart := true })

/-- FLT_x low for 2 SCLK (R253). -/
def driverFault (x : Nat) : State → State := oneEdge fun s => pstFault x (pstFlag F.pstStatDrvflt x (pstTripOff x s))

/-- A write of PST_x_STAT: W1C flags, then LOCKOUT while every fault flag is clear after them (R255, R496). -/
def pstStatW (id addr v x : Nat) (s : State) : Code × State :=
  let lk := s.g1 F.pstStatLockout x
  let (c, t) := genWrite id addr v s
  (c, if pstFaulted x t then t.p1 F.pstStatLockout x lk else t)

/-! ### Bypass and forced SAFE (R256, R257) -/

/-- The conditions for leaving bypass (R106). -/
def mayLeaveBypass (s : State) : Bool :=
  s.b F.sysBootstatDone && !safeDemand s && !s.b F.fltSafestatDiscrepancy && !s.b F.sysSupstatWarn &&
    (List.range 8).any (fun x => s.b1 F.pstStatSsdone x && decide (1 ≤ pstMode x s) && decide (pstMode x s ≤ 4))

/-- A write of PST_BYP (R256). -/
def pstBypW (v : Nat) (s : State) : Code × State :=
  if v % 2 = 1 then (.ok, s.p F.pstBypByp 1)
  else if mayLeaveBypass s then (.ok, s.p F.pstBypByp 0) else (.busy, s)

/-- BYP is commanded high: by the register, and while D7 and D8 are both off (R79, R256). -/
def bypHigh (s : State) : Bool :=
  s.b F.pstBypByp || (!(s.g F.hkrDomstatPg).testBit 7 && !(s.g F.hkrDomstatPg).testBit 8)

/-- The level on BYP: high impedance while the TZE816 is unpowered (R65, R68, R87, R417). -/
def bypLevel (s : State) : Option Bool := pinUnder 0 (some (bypHigh s)) s

/-- A write of PST_FORCE (R257). -/
def pstForceW (v : Nat) (s : State) : Code × State :=
  let s := s.p F.pstForceSafe (v % 2)
  (.ok, if v % 2 = 1 then forceSafeAll s else s)

/-- DWELL has passed: an input in SAFE with VSAFE set and no pin demand regulates, with soft start (R258). -/
def safeDwell (x : Nat) (s : State) : State :=
  if pstMode x s = 5 ∧ !s.b1 F.pstStatSreg x ∧ s.g1 F.pstVsafeMv x ≠ 0 ∧ !safeDemand s then
    ceModeHook x s ((((s.p1 F.pstStatSreg x 1).p1 F.pstCmdilimVal x 0).p1 F.pstStatSsdone x 0).modPin x
      (fun p => { p with ss := true, ssPass := false, trip0 := true, trip1 := true }))
  else s

/-! ### Periods, updates and balance (R240, R242, R250) -/

/-- The committed period set of an input (R262). -/
def committedSet (x : Nat) (s : State) : PerSet :=
  { per := s.g1 F.pstPerPer x, upd := s.g1 F.pstPerUpd x, trg := s.g1 F.pstPerTrg x, dtb := s.g1 F.pstDtDtb x
    dtk := s.g1 F.pstDtDtk x, offs := s.g1 F.pstOffsOffs x, src := s.g1 F.pstSyncSrc x, div := s.g1 F.pstSyncDiv x
    stn := s.g1 F.pstSyncStn x }

/-- The comparator settings written to the registers (R264). -/
def writtenCmp (x : Nat) (s : State) : CmpSet :=
  { th0 := s.g1 F.pstOcthTh0 x, th1 := s.g1 F.pstOcthTh1 x, blank := s.g1 F.pstOccfgBlank x
    ovth := s.g1 F.pstVcmpOvth x, uvth := s.g1 F.pstVcmpUvth x }

/-- The period string time asks of an input, in 1/16 SCLK: STN periods per cycle (R260). -/
def stringPeriod (stn : Nat) (s : State) : Nat :=
  if stn = 0 ∨ s.g F.stmIncInc = 0 then 0 else 2 ^ 48 * 16 / (s.g F.stmIncInc * stn)

/-- The third missing edge in a row: SYNC_LOST, and the committed period is the aim again; the first two hold the period (R261). -/
def syncMiss (x : Nat) (s : State) : State :=
  let s := s.modPin x (fun p => { p with missRun := p.missRun + 1, goodRun := 0 })
  if (s.pin x).missRun = 3 then
    (pstFlag F.pstStatSyncLost x (s.p1 F.pstStatSynclk x 0)).modPin x (fun p => { p with aim := p.set0.per, follow := false })
  else s

/-- A good reference edge with the phase error it shows: the fourth in a row makes the reference the aim, and an input already locked keeps to it (R261). -/
def syncGood (x ref phErr : Nat) (s : State) : State :=
  let s := s.modPin x (fun p => { p with missRun := 0, goodRun := min (p.goodRun + 1) 4, phErr := phErr })
  if !(s.pin x).follow ∧ (s.pin x).goodRun < 4 then s
  else
    let s := s.modPin x (fun p => { p with aim := ref, follow := true })
    if s.b1 F.pstStatSynclk x then s.p1 F.pstPernowPer x ref else s

/-- A reference period of an input: one more than 20 % off the committed period counts as missing (R260). -/
def syncEdge (x ref phErr : Nat) (s : State) : State :=
  let per := (s.pin x).set0.per
  if 5 * (max ref per - min ref per) ≤ per then syncGood x ref phErr s else syncMiss x s

/-- The period in use at a period start of phase 0: the committed one under the internal reference; under string time the start is a reference edge, `phErr` off (R260, R261). -/
def followRef (x phErr : Nat) (s : State) : State :=
  let p := s.pin x
  if p.set0.src = 0 then
    (s.p1 F.pstPernowPer x p.set0.per).p1 F.pstStatSynclk x 0 |>.modPin x (fun q => { q with aim := p.set0.per, follow := false, phErr := 0 })
  else if p.set0.src = 2 then syncEdge x (stringPeriod p.set0.stn s) phErr s
  else s

/-- Once the period is the reference's, the start moves by at most P/256 to close the phase error, and with none left the input is locked (R261). -/
def closePhase (x : Nat) (s : State) : State :=
  let p := s.pin x
  let d := if p.follow ∧ s.g1 F.pstPernowPer x = p.aim then min p.phErr (s.g1 F.pstPernowPer x / 256) else 0
  let s := s.modPin x (fun q => { q with phErr := q.phErr - d, shift := d })
  if p.follow ∧ s.g1 F.pstPernowPer x = p.aim ∧ p.phErr = d then s.p1 F.pstStatSynclk x 1 else s

/-- A newly accepted set of an input takes effect: a change of reference begins anew, and a new committed period is in use at once while no reference is followed (R260 to R262). -/
def takeSet (x : Nat) (s : State) : State :=
  let st := committedSet x s
  let old := (s.pin x).set0
  let s := s.modPin x (fun p => { p with set0 := st })
  let s := if st.src = old.src then s
    else s.modPin x (fun p => { p with goodRun := 0, missRun := 0, edges := 0, gap := 0, follow := false, phErr := 0 })
  if (s.pin x).follow then s
  else (if st.per = old.per then s else s.p1 F.pstPernowPer x st.per).modPin x (fun p => { p with aim := st.per })

/-- How long the active switch of a leg that ran by this plan has been low when its period of `per` units ends. -/
def LegPlan.rest (l : LegPlan) (per : Nat) : Nat :=
  match l.rise, l.fall with
  | some _, some f => per - f
  | _, _ => per

/-- How long the active switches of both legs of phase `y` have been low at the end of its period: BH was high in BOOST and PASS (R237, R238). -/
def phaseRest (y m : Nat) (p : PstIn) : Nat × Nat :=
  (if m = 2 ∨ m = 4 then 0 else (buckPlan y p).rest (phasePer y p), (boostPlan y p).rest (phasePer y p))

/-- A balance window is dropped while EN is 0, with the results it holds (R250). -/
def balancePeriod (x : Nat) (s : State) : State :=
  if s.b1 F.pstBalEn x then s.modPin x (fun p => { p with win := p.win + 1 })
  else s.modPin x (fun p => { p with win := 0, n0 := 0, sum0 := 0, n1 := 0, sum1 := 0 })

/-- A period of phase 0 begins: the accepted set, the comparators and a mode that waits for it take effect, and a tripped phase resumes (R128, R240, R245, R253, R262). -/
def periodStart0 (x phErr : Nat) (s : State) : State :=
  let s := s.modPin x (fun p => { p with
    rest0 := phaseRest 0 (pstMode x s) p, was0 := pstMode x s, load0 := none
    start := s.stm.sclk, cmp := writtenCmp x s, trip0 := false, since := p.since.map (· + 1) })
  let s := closePhase x (followRef x phErr (takeSet x (balancePeriod x s)))
  let s := s.modPin x (fun p => { p with per0 := s.g1 F.pstPernowPer x })
  match (s.pin x).next with
  | some m => ceModeHook x s (s.p1 F.pstStatMode x m)
  | none => s

/-- A period of phase 1 begins, half a period behind phase 0, whose set and mode it takes up (R240, R245, R253, R262). -/
def periodStart1 (x : Nat) (s : State) : State :=
  let s := s.modPin x (fun p => { p with
    rest1 := phaseRest 1 p.m1 p, was1 := p.m1, load1 := none
    set1 := p.set0, per1 := p.per0, trip1 := false })
  match (s.pin x).next with
  | some m => if pstMode x s = m then s.modPin x (fun p => { p with m1 := m, next := none }) else s
  | none => s

/-- A period of phase `y` begins; `phErr` is how far it lies off its reference, in 1/16 SCLK, where string time is the reference (R240, R260). -/
def periodStart (x y phErr : Nat) : State → State := oneEdge fun s =>
  if y = 0 then periodStart0 x phErr s else periodStart1 x s

/-- TRIM as a signed number (R250, R264). -/
def trimOf (x : Nat) (s : State) : Int :=
  let t := s.g1 F.pstBalTrim x
  if 32 ≤ t then (t : Int) - 64 else t

/-- Set TRIM. -/
def setTrim (x : Nat) (t : Int) (s : State) : State := s.p1 F.pstBalTrim x ((t + 64) % 64).toNat

/-- Phase 1's duty: D + TRIM·P/256, truncated and clamped to 0 to P (R250). -/
def trimmed (d p : Nat) (t : Int) : Nat := min (max (Int.tdiv (256 * (d : Int) + t * p) 256) 0).toNat p

/-- The update point of phase `y`, at UPD/256 of its period: its shadows are loaded into its active compares (R242, R243, R250). -/
def updatePoint (x y : Nat) (s : State) : State :=
  if y = 0 then
    s.modPin x (fun p => { p with
      load0 := some ⟨p.set0.upd * p.per0 / 256, p.db0, p.dk0⟩, db0 := s.g1 F.pstDb0Duty x, dk0 := s.g1 F.pstDk0Duty x })
  else
    let s := if s.b1 F.pstBalEn x then s else setTrim x 0 s
    let p := (s.pin x).per1
    let t := trimOf x s
    s.modPin x (fun q => { q with
      load1 := some ⟨q.set1.upd * q.per1 / 256, q.db1, q.dk1⟩
      db1 := trimmed (s.g1 F.pstDb1Duty x) p t, dk1 := trimmed (s.g1 F.pstDk1Duty x) p t })

/-- A conversion result tagged with a phase current of an input enters the balance window (R250). -/
def balanceSample (x y : Nat) (v : Int) (s : State) : State :=
  if !s.b1 F.pstBalEn x then s
  else if y = 0 then s.modPin x (fun p => { p with n0 := p.n0 + 1, sum0 := p.sum0 + v })
  else s.modPin x (fun p => { p with n1 := p.n1 + 1, sum1 := p.sum1 + v })

/-- The end of a balance window of 2^N periods of phase 0, not reached before them: the averages are compared exactly and TRIM steps (R250). -/
def balanceEnd (x : Nat) : State → State := oneEdge fun s =>
  let p := s.pin x
  if p.win < 2 ^ s.g1 F.pstBalN x then s else
  let s := s.modPin x (fun q => { q with n0 := 0, sum0 := 0, n1 := 0, sum1 := 0, win := 0 })
  if !s.b1 F.pstBalEn x || p.n0 = 0 || p.n1 = 0 then s
  else
    let db : Int := s.g1 F.pstBalDb x
    let d := p.sum1 * p.n0 - p.sum0 * p.n1
    let lim := db * (p.n0 * p.n1 : Nat)
    let t := trimOf x s
    if d < -lim then if t = 16 then pstFlag F.pstStatBalLim x s else setTrim x (t + 1) s
    else if lim < d then if t = -16 then pstFlag F.pstStatBalLim x s else setTrim x (t - 1) s
    else s

/-- A write of a duty shadow: by CE alone (R242). -/
def dutyW (id addr v x : Nat) (s : State) : Code × State :=
  if id ≠ idCe then (.denied, s)
  else
    let (c, s) := genWrite id addr v s
    (c, s.modPin x (fun p => { p with since := some 0 }))

/-! ### Synchronisation (R260, R261) -/

/-- A SYNCIN rising edge `gap` SCLK after the last one, with the phase error left in 1/16 SCLK, for one input (R260). -/
def syncinEdge (x gap phErr : Nat) (s : State) : State :=
  let p := s.pin x
  if p.set0.src ≠ 1 then s
  else if p.edges + 1 < p.set0.div then s.modPin x (fun q => { q with edges := q.edges + 1, gap := q.gap + gap })
  else
    let ref := 16 * (p.gap + gap)
    syncEdge x ref phErr (s.modPin x (fun q => { q with edges := 0, gap := 0 }))

/-- Every 100 µs the period in use moves toward its aim by at most 1/1 024; after one or two missing edges it is held (R261). -/
def syncSlew (x : Nat) (s : State) : State :=
  let p := s.g1 F.pstPernowPer x
  if (s.pin x).missRun = 1 ∨ (s.pin x).missRun = 2 then s
  else s.p1 F.pstPernowPer x (approach p (s.pin x).aim (max (p / 1024) 1))

/-! ### Staging (R262) -/

/-- The checks of PST_x_COMMIT, but for the cycle budget (R262). -/
def pstCheck (x : Nat) (s : State) : Bool :=
  let k := 32 + x
  let p := s.sv1 k F.pstPerPer x
  let dt := max (s.sv1 k F.pstDtDtb x) (s.sv1 k F.pstDtDtk x)
  let src := s.sv1 k F.pstSyncSrc x
  let stn := s.sv1 k F.pstSyncStn x
  let cyc := if s.g F.stmCfgNom = 0 then 1920000 else 1600000
  decide (3072 ≤ p) && decide (p ≤ 61440) && decide (8 * dt ≤ p) && decide (src ≠ 3) &&
    !(decide (src = 1) && decide (s.sv1 k F.pstSyncDiv x = 0)) &&
    (decide (src ≠ 2) || (decide (3072 * stn ≤ cyc * 16) && decide (cyc * 16 ≤ 61440 * stn)))

end Sys2Proof.Machine
end

