-- ==== Sys2Proof/Machine/Ce.lean ====
section
/-! DEFINITION. The control engine at work: triggers, lanes, instructions, release, set-point slots, degradation, severe action and trace (R266 to R289). -/

namespace Sys2Proof.Machine

/-! ### Faults (R287) -/

/-- Source CE turns severe: every program stops, writes already released standing, HALTED is set, running inputs go to OFF and CE_BUDGET is raised (R287). -/
def ceSevere (s : State) : State :=
  let s := (s.p F.ceStatHalted 1).modCe (fun c => { c with queue := [], lane0 := none, lane1 := none, out := [] })
  let s := { s with adc := { s.adc with trig := [] } }
  raiseLine lineCeBudget ((List.range 8).foldl (fun t x => if trigRaised x t then pstTripOff x t else t) s)

/-- A fault flag of the CE is set (R287). -/
def ceFault (f : Fam) (s : State) : State :=
  let (sev, s) := faultPush srcCe (s.p f 1)
  let s := raiseLine lineCeBudget s
  if sev then ceSevere s else s

/-- A trigger overrun or a late duty: each is counted, and those of one edge are one event of the classifier (R287, R426). -/
def ceOverrun (s : State) : State := ceFault F.ceStatOvrn (s.sat F.ceOvrcntCount 1)

/-! ### Triggers (R274, R279, R283) -/

/-- The member of its pair that CE_SEL selects, or a program outside a pair; only enabled programs run (R283). -/
def progActive (n : Nat) (s : State) : Bool :=
  progEn s.ce.idx n && (!paired s.ce.idx n ||
    (progEn s.ce.idx (n / 2 * 2) && decide (n % 2 = bitsOf (s.g F.ceSelSel) (n / 2) 1)))

/-- An instance of a program that is not yet released (R287). -/
def progBusy (n : Nat) (s : State) : Bool :=
  s.ce.queue.any (fun i => i.prog = n) || s.ce.lane0.any (fun i => i.prog = n) ||
    s.ce.lane1.any (fun i => i.prog = n) || s.ce.out.any (fun i => i.prog = n)

/-- The pair of a program takes up its selection at a trigger; the newly active member has FIRST set (R282, R283). -/
def pairSelect (n : Nat) (s : State) : State :=
  let k := n / 2
  let b := bitsOf (s.g F.ceSelSel) k 1
  if paired s.ce.idx n ∧ bitsOf s.ce.sel k 1 ≠ b then
    s.modCe (fun c => { c with sel := c.sel ^^^ 2 ^ k, first := NSet.add c.first (2 * k + b) })
  else s

/-- Set the degradation step of one program: 0 to 3 in CE_DEGR, 4 suspended in CE_SUSPM (R279, R288). -/
def setDegrOne (n st : Nat) (s : State) : State :=
  let m := s.g F.ceSuspmSusp
  let s := s.p1 (F.ceDegrStep (n % 16)) (n / 16) (if st = 4 then 3 else st)
  s.p F.ceSuspmSusp (if st = 4 then m ||| 2 ^ n else if m.testBit n then m - 2 ^ n else m)

/-- Set the degradation step of a program, and of its mate that runs in its place (R279, R283, R288). -/
def setDegr (n st : Nat) (s : State) : State :=
  let s := setDegrOne n st s
  if paired s.ce.idx n ∧ n % 2 = 0 ∧ progEn s.ce.idx (n + 1) then setDegrOne (n + 1) st s else s

/-- A step that a proof reversed goes into force at the program's next trigger (R279). -/
def takeBack (n : Nat) (s : State) : State :=
  match Tab.get s.ce.back n with
  | some st => (setDegr n st s).modCe (fun c => { c with back := Tab.erase c.back n })
  | none => s

/-- The string-time stamp of an edge as a trace record carries it: cycle, phase and 16 fraction bits (R284). -/
def stampFull (s : State) : Nat := s.stm.acc.toNat / 2 ^ 16

/-- A new instance of program `n` (R266, R274). -/
def newInst (n : Nat) (s : State) : CeInst :=
  { prog := n, lane := progLane s.ce.idx n, trig := stampFull s, idx := s.ce.idx, ready := s.stm.sclk
    need := (progSamples s.ce.idx n).map (fun x => x.1) }

/-- One program is triggered: divided, dropped with OVRN, or made an instance (R274, R279, R287). Answers whether an instance came of it. -/
def trigProg (n : Nat) (v : BitVec 32) (s : State) : Bool × State :=
  let r := repOf s.ce.idx n
  let s := takeBack r s
  if s.b F.ceStatHalted ∨ degrOf r s = 4 then (false, s)
  else
    let c := Tab.val 0 s.ce.div r + 1
    if c < stepDiv (degrOf r s) then (false, s.modCe (fun e => { e with div := Tab.put 0 e.div r c }))
    else
      let s := s.modCe (fun e => { e with div := Tab.put 0 e.div r 0 })
      if progBusy n s then (false, ceOverrun s)
      else
        let i := { newInst n s with s := Tab.put 0 [] 0 v }
        (true, s.modCe (fun e => { e with queue := e.queue ++ [i] }))

/-- The triggered conversions of a list of programs on one edge (R274). -/
def trigConvs (t : Tab Nat) (edge : Nat) (ns : List Nat) : List TrigConv :=
  (List.range 4).flatMap (fun e => ns.filterMap (fun n =>
    (progSample t n e).map (fun x => { prog := n, entry := e, conv := x.conv, ch := x.ch, edge := edge })))

/-- A conversion takes its place: behind every one of an earlier edge, then by sample order, then by program number (R274). -/
def joinConvs (q : List TrigConv) (c : TrigConv) : List TrigConv :=
  let before := fun (x : TrigConv) =>
    x.edge ≠ c.edge || decide (x.entry < c.entry) || (decide (x.entry = c.entry) && decide (x.prog < c.prog))
  q.filter before ++ c :: q.filter (fun x => !before x)

/-- The runs triggered so far go on reading slot `k` as it is before it moves (R281). -/
def keepOld (k : Nat) (s : State) : State :=
  let f := fun (i : CeInst) => match Tab.get i.old k with
    | some _ => i
    | none => { i with old := Tab.set i.old k (BitVec.ofNat 32 (s.g1 F.ceSpVal k)) }
  s.modCe (fun c => { c with
    queue := c.queue.map f, lane0 := c.lane0.map f, lane1 := c.lane1.map f, out := c.out.map f })

/-- Pending set-points of a parent move to their active copies on its trigger edge (R281). -/
def movePend (parent : Nat) (s : State) : State :=
  let mine := s.ce.pend.filter (fun e => e.2.1 = parent)
  let s := s.modCe (fun c => { c with pend := c.pend.filter (fun e => e.2.1 ≠ parent) })
  mine.foldl (fun t e => (keepOld e.1 t).p1 F.ceSpVal e.1 e.2.2.toNat) s

/-- The enabled programs a trigger test accepts. -/
def progsOn (p : Trig → Bool) (s : State) : List Nat :=
  (List.range 32).filter (fun n => progEn s.ce.idx n &&
    match progTrig s.ce.idx n with
    | some t => p t
    | none => false)

/-- A trigger edge of some programs: pairs settle, set-points move, instances start and their samples join the conversion queue (R274, R281, R283, R294). -/
def trigEdge (ns : List Nat) (s : State) : State :=
  let act := ns.filter (fun n => progActive n s)
  let s := act.foldl (fun t n => movePend n (pairSelect n t)) s
  let r := act.foldl (fun (p : List Nat × State) n =>
    let (ok, t) := trigProg n 0 p.2
    (if ok then p.1 ++ [n] else p.1, t)) (([], s) : List Nat × State)
  let s := r.2
  -- a severe overrun on this edge has stopped every instance
  let made := r.1.filter (fun n => s.ce.queue.any (fun i => i.prog = n))
  { s with adc := { s.adc with trig := (trigConvs s.ce.idx s.stm.sclk made).foldl joinConvs s.adc.trig } }

/-- Phase `y` of input `x` raises its trigger, while its mode lets it (R244, R274). -/
def pwmTrigger (x y : Nat) : State → State := oneEdge fun s =>
  if trigRaised x s then trigEdge (progsOn (fun t => t = .pwm x y) s) s else s

/-- A string-time tick: the STIME programs whose offset it matches (R274). -/
def stimeTrigger : State → State := oneEdge fun s =>
  trigEdge (progsOn (fun t => match t with
    | .stime k ofs => decide (phaseNow s % 2 ^ k = ofs % 2 ^ k)
    | _ => false) s) s

/-- A result lands on a logical channel: RESULT programs at least MINT after their last dispatch; an earlier result is no trigger (R274). -/
def ceResult (conv ch : Nat) (v : BitVec 32) (s : State) : State :=
  (progsOn (fun t => match t with
    | .result a b _ => decide (a = conv ∧ b = ch)
    | _ => false) s).foldl (fun t n =>
      let due := match progTrig t.ce.idx n, Tab.get t.ce.disp n with
        | some (.result _ _ m), some d => decide (d + m ≤ t.stm.sclk)
        | _, _ => true
      if progActive n t && due then
        (trigProg n v (movePend n (pairSelect n t))).2
      else t) s

/-- A triggered sample lands in its instance; with the last one the instance is ready (R266, R274). -/
def ceSample (n e : Nat) (v : BitVec 32) (s : State) : State :=
  match s.ce.queue.find? (fun i => i.prog = n ∧ i.need.contains e) with
  | none => s
  | some i =>
    let i' := { i with s := Tab.put 0 i.s e v, need := i.need.filter (fun x => x ≠ e), ready := s.stm.sclk }
    s.modCe (fun c => { c with queue := c.queue.map (fun x => if x.prog = n then i' else x) })

/-! ### Lanes (R266, R267) -/

/-- The instance on a lane. -/
def Ce.lane (c : Ce) (l : Nat) : Option CeInst := if l = 0 then c.lane0 else c.lane1

/-- Put an instance on a lane, or clear it. -/
def Ce.setLane (c : Ce) (l : Nat) (i : Option CeInst) : Ce := if l = 0 then { c with lane0 := i } else { c with lane1 := i }

/-- The instance of a lane that goes next: the first to become ready, of those ready on one edge the lowest program (R266). -/
def nextReady (l : Nat) (s : State) : Option CeInst :=
  (s.ce.queue.filter (fun i => i.lane = l ∧ i.need.isEmpty)).foldl (fun b i =>
    match b with
    | some j => if j.ready < i.ready ∨ (j.ready = i.ready ∧ j.prog ≤ i.prog) then b else some i
    | none => some i) none

/-- The next ready instance of a lane is dispatched when the lane is free (R266, R267). -/
def dispatch (l : Nat) (s : State) : State :=
  match s.ce.lane l, nextReady l s with
  | none, some i =>
    s.modCe (fun c => { (c.setLane l (some i)) with
      queue := c.queue.filter (fun x => x.prog ≠ i.prog), disp := Tab.set c.disp i.prog s.stm.sclk })
  | _, _ => s

/-- r[F] of a run: s0 to s15, then x0 to x15 of its program (R270). -/
def ceReg (i : CeInst) (f : Nat) (s : State) : BitVec 32 :=
  if f < 16 then Tab.val 0 i.s f
  else Tab.val 0 (i.own.getD s.ce.xs) (16 * i.prog + (f - 16))

/-- Write r[F]. -/
def ceSetReg (i : CeInst) (f : Nat) (v : BitVec 32) (s : State) : CeInst × State :=
  if f < 16 then ({ i with s := Tab.put 0 i.s f v }, s)
  else
    let k := 16 * i.prog + (f - 16)
    match i.own with
    | some t => ({ i with own := some (Tab.put 0 t k v) }, s)
    | none => (i, s.modCe (fun c => { c with xs := Tab.put 0 c.xs k v }))

/-- An accumulator as a signed number (R269). -/
def ceAcc (i : CeInst) (a : Nat) : Int := (Tab.val 0 i.acc a : BitVec 64).toInt

/-- Load an accumulator; a wrap sets AOVF (R269). -/
def ceSetAcc (i : CeInst) (a : Nat) (v : Int) (s : State) : CeInst × State :=
  let w := BitVec.ofInt 64 v
  ({ i with acc := Tab.put 0 i.acc a w }, if w.toInt = v then s else s.p F.ceStatAovf 1)

/-- Clamp a value into a register; a clamp sets SATF (R269, R271). -/
def ceClamp (i : CeInst) (f : Nat) (v lo hi : Int) (s : State) : CeInst × State :=
  let c := max lo (min v hi)
  let (i, s) := ceSetReg i f (BitVec.ofInt 32 c) s
  if c = v then (i, s) else ({ i with clamped := true }, s.p F.ceStatSatf 1)

/-- A port as RDP reads it (R272). -/
def portRead (p : Nat) (s : State) : BitVec 32 :=
  let v :=
    if p < 0x40 then s.g2 F.adcLastValue (p / 32) (p % 32)
    else if p < 0x60 then
      let x := (p - 0x40) / 4
      match (p - 0x40) % 4 with
      | 0 => setPoint x 1 s
      | 1 => setPoint x 0 s
      | 2 => setPoint x 2 s
      | _ => setPoint x 3 s
    else if p < 0x68 then s.g1 F.pstPernowPer (p - 0x60)
    else if p < 0x70 then pstMode (p - 0x68) s + 8 * s.g1 F.pstStatSreg (p - 0x68)
    else if isSpPort p then s.g1 F.ceSpVal (p - 0x80)
    else (Tab.val 0 s.ce.last p : BitVec 32).toNat
  BitVec.ofNat 32 v

/-- A port as a run reads it: a slot that moved after its trigger has its old value (R272, R281). -/
def portReadBy (i : CeInst) (p : Nat) (s : State) : BitVec 32 :=
  if isSpPort p then (Tab.get i.old (p - 0x80)).getD (portRead p s) else portRead p s

/-- The word a lane issues next: the instance, and the decoded instruction (R267). -/
def ceIssue (l : Nat) (s : State) : Option (CeInst × CeWord) :=
  match s.ce.lane l with
  | some i =>
    if i.pc < progLen i.idx i.prog then (ceDecode (ceText i.idx i.prog i.pc)).map (fun w => (i, w)) else none
  | none => none

/-- An instruction has issued: the lane moves on, and after the last one it is free and the run waits for its release (R267). -/
def ceNext (l : Nat) (r : CeInst × State) : State :=
  let i := { r.1 with pc := r.1.pc + 1 }
  if progLen i.idx i.prog ≤ i.pc then r.2.modCe (fun c => { (c.setLane l none) with out := c.out ++ [i] })
  else r.2.modCe (fun c => c.setLane l (some i))

/-- Run the lane's next instruction when it is `op`; another operation is not what issues (R267). -/
def ceRun (op : CeOp) (f : CeWord → CeInst → State → CeInst × State) (l : Nat) (s : State) : State :=
  match ceIssue l s with
  | some (i, w) => if w.op = op then ceNext l (f w i s) else s
  | none => s

/-- A shifted product of two registers or of a register and a coefficient (R269): rounded toward minus infinity. -/
def prod (a b : Int) (sh : Nat) : Int := (a * b) >>> sh

/-- The register–coefficient product of MAC, MSU and MUL (R271). -/
def coefProd (w : CeWord) (i : CeInst) (s : State) : Int :=
  prod (ceReg i w.f1 s).toInt (coefVal i.idx i.prog w.c) (coefSh i.idx i.prog w.c)

/-- The register–register product of MACR and MULR (R271). -/
def regProd (w : CeWord) (i : CeInst) (s : State) : Int := prod (ceReg i w.f1 s).toInt (ceReg i w.f2 s).toInt w.sh

/-- MAC (R271). -/
def ceMac (w : CeWord) (i : CeInst) (s : State) : CeInst × State := ceSetAcc i w.a (ceAcc i w.a + coefProd w i s) s
/-- MSU (R271). -/
def ceMsu (w : CeWord) (i : CeInst) (s : State) : CeInst × State := ceSetAcc i w.a (ceAcc i w.a - coefProd w i s) s
/-- MUL (R271). -/
def ceMul (w : CeWord) (i : CeInst) (s : State) : CeInst × State := ceSetAcc i w.a (coefProd w i s) s
/-- MACR (R271). -/
def ceMacr (w : CeWord) (i : CeInst) (s : State) : CeInst × State := ceSetAcc i w.a (ceAcc i w.a + regProd w i s) s
/-- MULR (R271). -/
def ceMulr (w : CeWord) (i : CeInst) (s : State) : CeInst × State := ceSetAcc i w.a (regProd w i s) s
/-- ADA (R271). -/
def ceAda (w : CeWord) (i : CeInst) (s : State) : CeInst × State :=
  ceSetAcc i w.a (ceAcc i w.a + (ceReg i w.f1 s).toInt * 2 ^ w.sh) s
/-- LDA (R271). -/
def ceLda (w : CeWord) (i : CeInst) (s : State) : CeInst × State := ceSetAcc i w.a ((ceReg i w.f1 s).toInt * 2 ^ w.sh) s
/-- CLA (R271). -/
def ceCla (w : CeWord) (i : CeInst) (s : State) : CeInst × State := ceSetAcc i w.a 0 s
/-- ASR (R271). -/
def ceAsr (w : CeWord) (i : CeInst) (s : State) : CeInst × State := ceSetAcc i w.a (ceAcc i w.a >>> w.sh) s
/-- SAT (R271). -/
def ceSat (w : CeWord) (i : CeInst) (s : State) : CeInst × State :=
  ceClamp i w.f1 (ceAcc i w.a) (coefVal i.idx i.prog w.c) (coefVal i.idx i.prog (w.c + 1)) s
/-- SATW (R271). -/
def ceSatw (w : CeWord) (i : CeInst) (s : State) : CeInst × State := ceClamp i w.f1 (ceAcc i w.a) (-2 ^ 31) (2 ^ 31 - 1) s
/-- ADD (R271). -/
def ceAdd (w : CeWord) (i : CeInst) (s : State) : CeInst × State := ceSetReg i w.f1 (ceReg i w.f2 s + ceReg i w.f3 s) s
/-- SUB (R271). -/
def ceSub (w : CeWord) (i : CeInst) (s : State) : CeInst × State := ceSetReg i w.f1 (ceReg i w.f2 s - ceReg i w.f3 s) s
/-- MIN (R271). -/
def ceMin (w : CeWord) (i : CeInst) (s : State) : CeInst × State :=
  let a := ceReg i w.f2 s
  let b := ceReg i w.f3 s
  ceSetReg i w.f1 (if a.slt b then a else b) s
/-- MAX (R271). -/
def ceMax (w : CeWord) (i : CeInst) (s : State) : CeInst × State :=
  let a := ceReg i w.f2 s
  let b := ceReg i w.f3 s
  ceSetReg i w.f1 (if a.slt b then b else a) s
/-- MOV (R271). -/
def ceMov (w : CeWord) (i : CeInst) (s : State) : CeInst × State := ceSetReg i w.f1 (ceReg i w.f2 s) s
/-- SEL (R271). -/
def ceSel (w : CeWord) (i : CeInst) (s : State) : CeInst × State :=
  ceSetReg i w.f1 (if ceAcc i w.a < 0 then ceReg i w.f2 s else ceReg i w.f3 s) s
/-- LDI (R271). -/
def ceLdi (w : CeWord) (i : CeInst) (s : State) : CeInst × State := ceSetReg i w.f1 (w.imm.signExtend 32) s
/-- RDP (R271, R272). -/
def ceRdp (w : CeWord) (i : CeInst) (s : State) : CeInst × State := ceSetReg i w.f1 (portReadBy i w.port s) s
/-- WRP: held until release (R267, R271). -/
def ceWrp (w : CeWord) (i : CeInst) (s : State) : CeInst × State := ({ i with held := i.held ++ [(w.port, ceReg i w.f1 s)] }, s)
/-- PRE (R271, R282). -/
def cePre (w : CeWord) (i : CeInst) (s : State) : CeInst × State :=
  if NSet.has s.ce.first i.prog then
    ceClamp i w.f1 ((Tab.val 0 s.ce.last w.port : BitVec 32).toInt - ceAcc i w.a) (-2 ^ 31) (2 ^ 31 - 1) s
  else (i, s)
/-- NOP (R271). -/
def ceNop (_ : CeWord) (i : CeInst) (s : State) : CeInst × State := (i, s)

/-! ### Trace (R284, R285) -/

/-- Buffer `n` behind its registers. -/
def State.trc (s : State) (n : Nat) : TrcBuf := Tab.val {} s.ce.trc n

/-- Change a buffer. -/
def State.modTrc (s : State) (n : Nat) (f : TrcBuf → TrcBuf) : State :=
  s.modCe (fun c => { c with trc := Tab.put {} c.trc n (f (Tab.val {} c.trc n)) })

/-- What a tap captures at the release of a run (R284). -/
def tapVal (src : Nat) (i : CeInst) (s : State) : BitVec 32 :=
  match src / 2 ^ 12 with
  | 1 => ceReg i (src % 16) s
  | 2 => ceReg i (16 + src % 16) s
  | 3 => BitVec.ofInt 32 (ceAcc i (src % 4))
  | 4 => BitVec.ofInt 32 (ceAcc i (src % 4) >>> 32)
  | 5 => portReadBy i (src % 2 ^ 12) s
  | _ => 0

/-- A tap source that is not reserved (R284). -/
def tapOk (src : Nat) : Bool :=
  let lo := src % 2 ^ 12
  match src / 2 ^ 12 with
  | 0 => decide (lo = 0)
  | 1 => decide (lo < 16)
  | 2 => decide (lo < 16)
  | 3 => decide (lo < 4)
  | 4 => decide (lo < 4)
  | 5 => true
  | _ => false

/-- Tap source `j` of buffer `n`. -/
def tapSrc (n j : Nat) (s : State) : Nat :=
  if j % 2 = 0 then s.g2 F.trcTapTaplo n (j / 2) else s.g2 F.trcTapTaphi n (j / 2)

/-- Whether a record meets TSRC (R285). -/
def trcMeets (n : Nat) (i : CeInst) (v : Int) (first : Bool) (s : State) : Bool :=
  let b := s.trc n
  let thr := (BitVec.ofNat 32 (s.g1 F.trcThrThr n)).toInt
  match s.g1 F.trcCfgTsrc n with
  | 0 => b.forced
  | 1 =>
    (match s.g1 F.trcCfgTcond n with
      | 0 => decide (thr < v)
      | 1 => decide (v < thr)
      | 2 => b.prev.any (fun p => decide (p ≤ thr)) && decide (thr < v)
      | _ => b.prev.any (fun p => decide (thr ≤ p)) && decide (v < thr))
  | 2 => b.edge
  | 3 => i.clamped
  | 4 => first
  | _ => false

/-- Write one 32-bit word of trace RAM with good parity (R118). -/
def trcWord (a v : Nat) (s : State) : State :=
  (s.setWord a v).modCe (fun c => { c with trcBad := NSet.del c.trcBad ((a - 0x30010000) / 4) })

/-- Write the words of a record. -/
def trcWords (a : Nat) : List Nat → State → State
  | [], s => s
  | w :: t, s => trcWords (a + 4) t (trcWord a w s)

/-- One record of a buffer, and what its trigger does (R284, R285). -/
def trcRecord (n : Nat) (i : CeInst) (first : Bool) (s : State) : State :=
  let b := s.trc n
  let taps := (List.range 8).map (fun j => tapVal (tapSrc n j s) i s)
  let v := ((taps[s.g1 F.trcCfgTtap n]?).getD 0).toInt
  let armed := s.g1 F.trcStatState n = 1
  let hit := armed && trcMeets n i v first s
  let at_ := s.g1 F.trcStatWptr n
  let words := [i.trig / 2 ^ 32 % 2 ^ 32, i.trig % 2 ^ 32] ++ taps.map (fun t => t.toNat) ++
    [b.seqn % 2 ^ 16 + bit hit * 2 ^ 16, 0, 0, 0, 0, 0]
  let s := trcWords (0x30010000 + 0x2000 * n + 0x40 * at_) words s
  let s := (s.p1 F.trcStatWptr n ((at_ + 1) % 128)).p1 F.trcStatCount n (min (s.g1 F.trcStatCount n + 1) 128)
  let left := if hit then 128 - s.g1 F.trcCfgPre n else b.left
  let s := s.modTrc n (fun x => { x with seqn := x.seqn + 1, prev := some v, edge := false, left := left - 1 })
  let s := if hit then (s.p1 F.trcStatState n 2).p1 F.trcStatTrigix n at_ else s
  if s.g1 F.trcStatState n = 2 ∧ left ≤ 1 then raiseLine lineCeTrace (s.p1 F.trcStatState n 3) else s

/-- The release of a run as buffer `n` sees it: one record per DEC + 1 releases of its program (R284). -/
def trcRelease (i : CeInst) (first : Bool) (s : State) (n : Nat) : State :=
  let st := s.g1 F.trcStatState n
  if (st = 1 ∨ st = 2) ∧ s.g1 F.trcCfgPrg n = i.prog then
    let k := (s.trc n).skip
    if k < s.g1 F.trcCfgDec n then s.modTrc n (fun x => { x with skip := k + 1 })
    else trcRecord n i first (s.modTrc n (fun x => { x with skip := 0 }))
  else s

/-- ARM of a buffer (R285). -/
def trcArm (n : Nat) (s : State) : State :=
  let st := s.g1 F.trcStatState n
  if st = 0 ∨ st = 3 then
    ((s.p1 F.trcStatState n 1).p1 F.trcStatCount n 0).modTrc n (fun x => { x with
      forced := false, edge := false, prev := none, skip := 0, left := 0 })
  else s

/-- FORCE of a buffer (R285). -/
def trcForce (n : Nat) (s : State) : State :=
  if s.g1 F.trcStatState n = 1 then s.modTrc n (fun x => { x with forced := true }) else s

/-- STOP of a buffer: DONE at once, from any state (R285). -/
def trcStop (n : Nat) (s : State) : State := s.p1 F.trcStatState n 3

/-- A pin carries TRC_TRIG: GP8 or GP20 with function 3 (R70). -/
def trcPinned (s : State) : Bool := [8, 20].any (fun n => s.g1 F.sysGpFunc n = 3)

/-- A rising edge on TRC_TRIG, applied to the next record of every armed buffer; without a pin that carries it there is none (R70, R285). -/
def trcTrigEdge (s : State) : State :=
  if !trcPinned s then s
  else (List.range 4).foldl (fun t n => if t.g1 F.trcStatState n = 1 then t.modTrc n (fun x => { x with edge := true }) else t) s

/-- A claim, a write or a release of an owner register of R479 whose only written field is HELD (R71). -/
def ownWrite (own held : Fam) (n id : Nat) (v : Nat) (release : State → State) (s : State) : Code × State :=
  let want := v.testBit held.lo
  if s.b1 held n then
    if s.g1 own n ≠ id then (.busy, s)
    else if want then (.ok, s) else (.ok, release s)
  else if want then (.ok, (s.p1 held n 1).p1 own n id)
  else (.notClaimed, s)

/-- A release of a trace buffer: its fields at reset, its state IDLE; the records stay (R286). -/
def trcRelinquish (n : Nat) (s : State) : State :=
  let s := s.restore (fun x => x.fam.addr / 0x1000 = 0x40013 && x.i = n)
  s.modTrc n (fun _ => {})

/-- A write of TRC_nOWN (R286). -/
def trcOwnW (id n v : Nat) (s : State) : Code × State :=
  ownWrite F.trcOwnOwner F.trcOwnHeld n id v (trcRelinquish n) s

/-- What a write by an initiator meets before the rules of a claimed resource (R286, R493): unclaimed, or another's. -/
def claimCheck (own held : Fam) (n id : Nat) (s : State) : Code :=
  if !s.b1 held n then .notClaimed else if s.g1 own n ≠ id then .busy else .ok

/-- A write of TRC_nCTL: ARM, FORCE and STOP in bit order (R285). -/
def trcCtlW (n v : Nat) (s : State) : State :=
  let s := if v.testBit 0 then trcArm n s else s
  let s := if v.testBit 1 then trcForce n s else s
  if v.testBit 2 then trcStop n s else s

/-- Writes of the TRC block (R286, R289). -/
def trcWrite (id addr v : Nat) (s : State) : Code × State :=
  let n := addr % 0x1000 / 0x40
  let off := addr % 0x40
  let st := s.g1 F.trcStatState n
  if (fieldsAt addr).isEmpty then (.invalid, s)
  else if off = 0x00 then trcOwnW id n v s
  else match claimCheck F.trcOwnOwner F.trcOwnHeld n id s with
    | .ok =>
      if off = 0x1C then (.ok, trcCtlW n v s)
      else if (st = 1 ∨ st = 2) ∧ off ≠ 0x20 then (.busy, s)
      else if 0x0C ≤ off ∧ off < 0x1C then
        let j := (off - 0x0C) / 4
        let lo := v % 2 ^ 16
        let hi := v / 2 ^ 16 % 2 ^ 16
        let t := if tapOk lo then s.p2 F.trcTapTaplo n j lo else s
        let t := if tapOk hi then t.p2 F.trcTapTaphi n j hi else t
        (Code.unless .invalid (tapOk lo && tapOk hi), t)
      else genWrite id addr v s
    | c => (c, s)

/-! ### Release (R267, R279 to R282, R287) -/

/-- Write a duty shadow through the private port (R242, R268). -/
def dutyPortWrite (p : Nat) (v : BitVec 32) (s : State) : State :=
  let x := (p - 0x100) / 4
  let f := match (p - 0x100) % 4 with
    | 0 => F.pstDb0Duty
    | 1 => F.pstDk0Duty
    | 2 => F.pstDb1Duty
    | _ => F.pstDk1Duty
  (s.p1 f x (v.toNat % 2 ^ 16)).modPin x (fun q => { q with since := some 0 })

/-- One held port write is released (R267, R279, R281, R282). -/
def releaseWrite (i : CeInst) (s : State) (w : Nat × BitVec 32) : State :=
  let p := w.1
  if p = 0x120 then fanPort w.2 s
  else
    let s := s.modCe (fun c => { c with last := Tab.put 0 c.last p w.2 })
    if isSpPort p then
      match progTrig i.idx i.prog with
      | some (.nest q _) => s.modCe (fun c => { c with pend := Tab.set c.pend (p - 0x80) (q, w.2) })
      | _ => s.p1 F.ceSpVal (p - 0x80) w.2.toNat
    else
      let d := degrOf (repOf i.idx i.prog) s
      if 1 ≤ d ∧ i.passed = 0 then s.modCe (fun c => { c with later := Tab.set c.later p w.2 })
      else dutyPortWrite p w.2 s

/-- A duty landed after its update point, a period later for a deferred program, other than under R279 (R287). -/
def dutyLate (i : CeInst) (s : State) : Bool :=
  i.held.any (fun w => isDutyPort w.1) &&
    decide ((if degrOf (repOf i.idx i.prog) s = 0 then 1 else 2) ≤ i.passed) && !s.ce.reproof

/-- The run of a parent is released: its NEST programs count it (R274). -/
def nestRelease (i : CeInst) (first : Bool) (s : State) : State :=
  (List.range 32).foldl (fun t n =>
    match progTrig t.ce.idx n with
    | some (.nest q m) =>
      if progEn t.ce.idx n ∧ q = i.prog then
        let c := if first then 1 else Tab.val 0 t.ce.nest n + 1
        if m ≤ c then
          let t := t.modCe (fun e => { e with nest := Tab.put 0 e.nest n 0 })
          if progActive n t then (trigProg n 0 (pairSelect n t)).2 else t
        else t.modCe (fun e => { e with nest := Tab.put 0 e.nest n c })
      else t
    | _ => t) s

/-- The oldest run of a lane whose release is due (R267). -/
def dueOn (l : Nat) (s : State) : Option CeInst := s.ce.out.find? (fun i => i.lane = l)

/-- An instance is released: its port writes together, FIRST, its trace records and its nested programs (R267, R274, R282, R284). -/
def release (l : Nat) : State → State := oneEdge fun s =>
  match dueOn l s with
  | none => s
  | some i =>
    let s := s.modCe (fun c => { c with out := c.out.erase i })
    let first := NSet.has s.ce.first i.prog && i.own.isNone
    let s := if dutyLate i s then ceOverrun s else s
    if s.b F.ceStatHalted then s
    else
      let s := i.held.foldl (releaseWrite i) s
      let s := (List.range 4).foldl (trcRelease i first) s
      let s := if i.own.isNone then s.modCe (fun c => { c with first := NSet.del c.first i.prog }) else s
      nestRelease i first s

/-- The update point of a phase passes every unreleased run of its programs, and deferred duties land behind it (R275, R279). -/
def ceUpdatePoint (x y : Nat) (s : State) : State :=
  let s := updatePoint x y s
  let hit := fun (i : CeInst) => match progTrig i.idx i.prog with
    | some (.pwm a b) => if a = x ∧ b = y then { i with passed := i.passed + 1 } else i
    | _ => i
  let s := s.modCe (fun c => { c with
    queue := c.queue.map hit, lane0 := c.lane0.map hit, lane1 := c.lane1.map hit, out := c.out.map hit })
  let mine := s.ce.later.filter (fun e => e.1 = dutyPort x y 0 || e.1 = dutyPort x y 1)
  let s := s.modCe (fun c => { c with later := c.later.filter (fun e => !(e.1 = dutyPort x y 0 || e.1 = dutyPort x y 1)) })
  mine.foldl (fun t e => dutyPortWrite e.1 e.2 t) s

/-! ### Commit and proof (R277 to R279) -/

/-- The set a commit would give: the staged words over the committed ones. -/
def ceMerged (s : State) : Tab Nat :=
  (s.stage 8).vals.foldl (fun t e => Tab.put 0 t e.1 e.2) s.ce.idx

/-- A changed program, or a pair with a changed member (R278, R283). -/
def unitChanged (t : Tab Nat) (changed : NSet) (n : Nat) : Bool :=
  NSet.has changed n || (paired t n && (NSet.has changed (n / 2 * 2) || NSet.has changed (n / 2 * 2 + 1)))

/-- The programs a stage changes (R278). -/
def ceChanged (s : State) : NSet := (s.stage 8).vals.foldl (fun f e => NSet.add f (ixProg e.1)) []

/-- The proof over a set, under the steps in force or on their way, but for changed programs (R277, R279). -/
def proofOver (t : Tab Nat) (win : Nat → Win) (changed : NSet) (s : State) : ProofOut :=
  let inp : ProofIn := {
    idx := t, win := win
    step := fun n => if unitChanged t changed n then 0 else (Tab.get s.ce.back n).getD (degrOf n s)
    conv := fun l => serverOf l s }
  inp.run

/-- An accepted set takes effect; changed programs start with x0 to x15 at 0, FIRST set and no degradation, of which DEGR and CE_BUDGET tell (R278, R279, R282, R287). -/
def ceApply (s : State) : State :=
  let ch := ceChanged s
  let t := ceMerged s
  let keepOwn := fun (i : CeInst) =>
    if NSet.has ch i.prog ∧ i.own.isNone then { i with own := some s.ce.xs } else i
  let en := (List.range 32).filter (fun n => NSet.has ch n && progEn t n)
  let undone := (List.range 32).any (fun n => unitChanged s.ce.idx ch n && decide (degrOf n s ≠ 0))
  let s := ch.foldl (fun u n => setDegr (repOf u.ce.idx n) 0 (setDegr n 0 u)) s
  let s := if undone then raiseLine lineCeBudget (s.p F.ceStatDegr 1) else s
  let xs := s.ce.xs.filter (fun e => !NSet.has ch (e.1 / 16))
  let first := en.foldl NSet.add (s.ce.first.filter (fun n => !NSet.has ch n))
  let nest := s.ce.nest.filter (fun e => !NSet.has ch e.1)
  let div := s.ce.div.filter (fun e => !NSet.has ch e.1)
  let back := s.ce.back.filter (fun e => !unitChanged t ch e.1)
  s.modCe (fun c => { c with
    idx := t, xs := xs, first := first, nest := nest, div := div, back := back
    queue := c.queue.map keepOwn, lane0 := c.lane0.map keepOwn, lane1 := c.lane1.map keepOwn
    out := c.out.map keepOwn })

/-- A write of CE_COMMIT: the proof, whose outcome CE_BUDGET records at every commit, and the other checks of the set (R277, R278). -/
def ceCommit (id : Nat) (s : State) : Code × State :=
  let st := s.stage 8
  if st.owner = some id then
    let t := ceMerged s
    let o := proofOver t (fun x => winOf x s) (ceChanged s) s
    let s := recordProof o s
    if ceSetOk t && o.ok then (.ok, (ceApply s).release 8) else (.stageReject, s.release 8)
  else commitWith 8 id (fun _ => true) (fun u => u) s

/-- The window of input `x` as its stage would give it. -/
def stagedWin (x : Nat) (s : State) : Win :=
  let k := 32 + x
  ⟨s.sv1 k F.pstPerPer x, s.sv1 k F.pstPerUpd x, s.sv1 k F.pstPerTrg x, s.sv1 k F.pstSyncSrc x⟩

/-- A write of PST_x_COMMIT: the checks of R262, and the proof where a T or a W of a program would change (R262, R277). -/
def pstCommit (x id : Nat) (s : State) : Code × State :=
  let k := 32 + x
  if (s.stage k).owner = some id then
    let w := stagedWin x s
    let o := winOf x s
    let uses := (List.range 32).any (fun n => progEn s.ce.idx n &&
      match progTrig s.ce.idx n with
      | some (.pwm a _) => decide (a = x)
      | _ => false)
    let fits := pstCheck x s
    if uses ∧ (w.period ≠ o.period ∨ w.window ≠ o.window) then
      let r := proofOver s.ce.idx (fun i => if i = x then w else winOf i s) [] s
      let s := recordProof r s
      if fits && r.ok then (.ok, (s.applyStage k).release k) else (.stageReject, s.release k)
    else if fits then (.ok, (s.applyStage k).release k)
    else (.stageReject, s.release k)
  else commitWith k id (fun _ => true) (fun u => u) s

/-- One round of degradation: every program that fails goes one step further, a pair together (R279, R283). -/
def degradeRound (p : ProofIn) : ProofIn :=
  let bad := (p.live.filter (fun n => (p.fails n).isSome)).map (fun n => repOf p.idx n)
  { p with step := fun n => if bad.contains n then min 4 (p.step n + 1) else p.step n }

/-- Degrade until the set passes (R279): each of 32 programs takes at most four steps. -/
def degrade : Nat → ProofIn → ProofIn
  | 0, p => p
  | n + 1, p => if p.run.ok then p else degrade n (degradeRound p)

/-- The steps a re-proof of the committed set asks for: from none, with the converters that serve now; with no converter every sampling program is suspended (R279, R306). -/
def degradeTo (s : State) : ProofIn :=
  let dead := !s.b F.ceStatA0ok && !s.b F.ceStatA1ok
  degrade 128 {
    idx := s.ce.idx, win := fun x => winOf x s
    step := fun n => if dead && progEn s.ce.idx n && !(progSamples s.ce.idx n).isEmpty then 4 else 0
    conv := fun l => serverOf l s }

/-- A program is suspended: its bound input goes to OFF and SUSP is set (R279). -/
def suspend (n : Nat) (s : State) : State :=
  let s := match progTrig s.ce.idx n with
    | some (.pwm x _) => pstTripOff x s
    | _ => s
  ceFault F.ceStatSusp s

/-- The re-proof completes: programs are degraded at once, or their steps reversed at their next triggers; a reversal an earlier proof asked for is void (R279, R287). -/
def failoverProofDone : State → State := oneEdge fun s =>
  if !s.ce.reproof then s
  else
    let p := degradeTo s
    let s := s.modCe (fun c => { c with reproof := false, back := [] })
    let diff := (List.range 32).filter (fun n => repOf s.ce.idx n = n ∧ p.step n ≠ degrOf n s)
    let s := diff.foldl (fun t n =>
      if degrOf n t < p.step n then setDegr n (p.step n) t
      else t.modCe (fun c => { c with back := Tab.set c.back n (p.step n) })) s
    let s := recordProof p.run s
    if diff.isEmpty then s
    else
      let susp := diff.filter (fun n => p.step n = 4)
      susp.foldl (fun t n => suspend n t) (raiseLine lineCeBudget (s.p F.ceStatDegr 1))

/-- A converter stops or resumes serving: A0OK or A1OK, FOVR and a re-proof (R279, R305, R307). -/
def ceConverter (m : Nat) (ok : Bool) (s : State) : State :=
  let s := s.p (if m = 0 then F.ceStatA0ok else F.ceStatA1ok) (bit ok)
  let s := s.p F.ceStatFovr (bit (!(s.b F.ceStatA0ok && s.b F.ceStatA1ok)))
  s.modCe (fun c => { c with reproof := true })

/-! ### Registers (R281, R287, R288) -/

/-- An initiator writes a set-point slot: its active copy and LAST (R281). -/
def ceSpW (k v : Nat) (s : State) : State :=
  (s.p1 F.ceSpVal k v).modCe (fun c => { c with last := Tab.put 0 c.last (0x80 + k) (BitVec.ofNat 32 v) })

/-- A write of CE_STAT: HALTED clears only with OVRN and SUSP clear after it; then every enabled program has FIRST set (R282, R287). -/
def ceStatW (id addr v : Nat) (s : State) : Code × State :=
  let halted := s.b F.ceStatHalted
  let (c, t) := genWrite id addr v s
  if halted ∧ !t.b F.ceStatHalted then
    if t.b F.ceStatOvrn ∨ t.b F.ceStatSusp then (c, t.p F.ceStatHalted 1)
    else
      let en := (List.range 32).filter (fun n => progEn t.ce.idx n)
      (c, t.modCe (fun e => { e with first := en.foldl NSet.add e.first }))
  else (c, t)

/-- The register an index names, if any: committed words, or a state register (R288). -/
def ceIndex (i : Nat) (s : State) : Option Nat :=
  if i < 0x3080 then some (ixGet s.ce.idx i)
  else if 0x4000 ≤ i ∧ i < 0x4200 then some (Tab.val 0 s.ce.xs (i - 0x4000) : BitVec 32).toNat
  else none

/-- CE_IADDR of an initiator advances by one (R288). -/
def ceStepIndex (id : Nat) (s : State) : State :=
  s.modCe (fun c => { c with iaddr := Tab.put 0 c.iaddr id ((Tab.val 0 c.iaddr id + 1) % 2 ^ 16) })

/-- What an index keeps of a written word: a shift has five bits (R11, R288). -/
def ixWord (i v : Nat) : Nat := if 0x2000 ≤ i ∧ i < 0x3000 ∧ i % 2 = 1 then v % 32 else v

/-- A write of CE_IDATA: stages the indexed word (R127, R288). -/
def ceIdataW (id v : Nat) (s : State) : Code × State :=
  let i := Tab.val 0 s.ce.iaddr id
  if i < 0x3080 then
    if s.stageHeld 8 id then (.busy, s) else (.ok, ceStepIndex id (s.stageKey 8 id i (ixWord i v)))
  else if (ceIndex i s).isSome then (.denied, s)
  else (.invalid, s)

/-- A read of CE_IDATA (R288). -/
def ceIdataR (id : Nat) (s : State) : Code × Nat × State :=
  match ceIndex (Tab.val 0 s.ce.iaddr id) s with
  | some v => (.ok, v, ceStepIndex id s)
  | none => (.invalid, 0, s)

/-- Writes of the CE block (R288). -/
def ceWrite (id addr v : Nat) (s : State) : Code × State :=
  let off := addr % 0x1000
  if off = 0x000 then if v % 2 = 1 then ceCommit id s else (.ok, s)
  else if off = 0x004 then (.ok, s.modCe (fun c => { c with iaddr := Tab.put 0 c.iaddr id (v % 2 ^ 16) }))
  else if off = 0x008 then ceIdataW id v s
  else if off = 0x010 then ceStatW id addr v s
  else if 0x040 ≤ off ∧ off < 0x0C0 ∧ off % 4 = 0 then (.ok, ceSpW ((off - 0x40) / 4) v s)
  else genWrite id addr v s

/-- Reads of the CE block (R288). -/
def ceRead (id addr : Nat) (s : State) : Code × Nat × State :=
  let off := addr % 0x1000
  if off = 0x004 then (.ok, Tab.val 0 s.ce.iaddr id, s)
  else if off = 0x008 then ceIdataR id s
  else genRead addr s

/-- A duty shadow through the interconnect: denied, the private port being the only way (R242). -/
def pstWrite (id addr v : Nat) (s : State) : Code × State :=
  let x := (addr - 0x40006000) / 0x400 % 8
  let off := addr % 0x400
  if off = 0x380 ∧ (x = 0 ∨ x = 4) then pstBypW v s
  else if off = 0x384 ∧ (x = 0 ∨ x = 4) then pstForceW v s
  else if off = 0x388 ∧ (x = 0 ∨ x = 4) then genWrite id 0x40006388 v s
  else if off = 0x000 then modeWrite x (v % 8) s
  else if off = 0x014 then if v % 2 = 1 then pstCommit x id s else (.ok, s)
  else if 0x070 ≤ off ∧ off < 0x080 ∧ off % 4 = 0 then dutyW id addr v x s
  else if off = 0x080 then pstStatW id addr v x s
  else genWrite id addr v s

/-- Reads of the PST block: the levels of PST_BYP and PST_FORCE are views (R256, R257). -/
def pstRead (addr : Nat) (s : State) : Code × Nat × State :=
  let off := addr % 0x400
  let x := (addr - 0x40006000) / 0x400 % 8
  if off = 0x380 ∧ (x = 0 ∨ x = 4) then (.ok, s.g F.pstBypByp + 2 * bit (bypHigh s), s)
  else if off = 0x384 ∧ (x = 0 ∨ x = 4) then
    (.ok, s.g F.pstForceSafe + 2 ^ 16 * bit (safeDemand s || s.b F.fltSafestatDiscrepancy) + 2 ^ 17 * s.g F.slkStatKaloss, s)
  else if off = 0x388 ∧ (x = 0 ∨ x = 4) then genRead 0x40006388 s
  else genRead addr s

end Sys2Proof.Machine
end

