-- ==== Sys2Proof/Machine/Rtc.lean ====
section
/-! DEFINITION. The real-time clock: counting, snapshots, trim, alarms, the write lockout and the switch-over stamp (R442 to R455). -/

namespace Sys2Proof.Machine

/-- Change the RTC's state. -/
def State.modRtc (s : State) (f : Rtc → Rtc) : State := { s with rtc := f s.rtc }

/-- The node is asleep. -/
def isAsleep (s : State) : Bool := s.pow.phase = .asleep

/-! ### Calendar (R442) -/

/-- A Gregorian leap year. -/
def leapYear (y : Nat) : Bool := decide (y % 4 = 0) && (decide (y % 100 ≠ 0) || decide (y % 400 = 0))

/-- The year and the day of it, from days since the first day of `y`. -/
def yearOf : Nat → Nat → Nat → Nat × Nat
  | 0, y, d => (y, d)
  | n + 1, y, d =>
    let len := if leapYear y then 366 else 365
    if d < len then (y, d) else yearOf n (y + 1) (d - len)

/-- The month and the day of it, from days since the first day of the month at the head. -/
def monthOf : List Nat → Nat → Nat → Nat × Nat
  | [], m, d => (m, d)
  | l :: t, m, d => if d < l then (m, d) else monthOf t (m + 1) (d - l)

/-- Day, month and year of a count of seconds since 2000-01-01 (R442). -/
def dateOf (sec : Nat) : Nat × Nat × Nat :=
  let (y, d) := yearOf 137 2000 (sec / 86400)
  let (m, k) := monthOf [31, if leapYear y then 29 else 28, 31, 30, 31, 30, 31, 31, 30, 31, 30, 31] 1 d
  (k + 1, m, y)

/-- RTC_CAL0 of a count of seconds (R442, R455). -/
def cal0 (sec : Nat) : Nat :=
  sec % 60 + sec / 60 % 60 * 2 ^ 8 + sec / 3600 % 24 * 2 ^ 16 + (6 + sec / 86400) % 7 * 2 ^ 24

/-- RTC_CAL1 of a count of seconds (R442, R455). -/
def cal1 (sec : Nat) : Nat :=
  let (d, m, y) := dateOf sec
  d + m * 2 ^ 8 + y * 2 ^ 16

/-! ### Alarms (R451, R452) -/

/-- The RTC's flags of alarm `n`. -/
def almfFam (n : Nat) : Fam := if n = 0 then F.rtcStatAlmf0 else F.rtcStatAlmf1
/-- LATEn. -/
def lateFam (n : Nat) : Fam := if n = 0 then F.rtcStatLate0 else F.rtcStatLate1

/-- Alarm `n` is enabled and its target is reached (R451). -/
def alarmDue (n : Nat) (s : State) : Bool :=
  s.b1 F.rtcAlmCtlEn n && decide ((s.g F.rtcSecSec + 2 ^ 32 - s.g1 F.rtcAlmTimeA n) % 2 ^ 32 < 2 ^ 31)

/-- RTC_ALARM now, or on the first edge after wake (R451). -/
def raiseAlarm (s : State) : State :=
  if isAsleep s then s.modRtc (fun r => { r with oweAlarm := true }) else raiseLine lineRtcAlarm s

/-- Alarm `n` fires, but for its raise (R451). -/
def alarmFire (n : Nat) (s : State) : State :=
  let late := NSet.has s.rtc.late n
  let s := (s.p1 (almfFam n) 0 1).modRtc (fun r => { r with late := NSet.del r.late n })
  let s := if late then s.p (lateFam n) 1 else s
  let rep := s.g1 F.rtcAlmCtlRepeat n
  if rep = 0 then s.p1 F.rtcAlmCtlEn n 0
  else
    let a := s.g1 F.rtcAlmTimeA n
    let d := (s.g F.rtcSecSec + 2 ^ 32 - a) % 2 ^ 32
    s.p1 F.rtcAlmTimeA n ((a + (d / rep + 1) * rep) % 2 ^ 32)

/-- The alarms are judged on a crystal edge; both firing is one raise (R451, R452). Answers whether one fired. -/
def judgeAlarms (s : State) : Bool × State :=
  let f0 := alarmDue 0 s
  let f1 := alarmDue 1 s
  let s := if f0 then alarmFire 0 s else s
  let s := if f1 then alarmFire 1 s else s
  (f0 || f1, if f0 || f1 then raiseAlarm s else s)

/-! ### Counting (R442, R444, R447) -/

/-- TRIM as a signed number. -/
def trimVal (s : State) : Int := (BitVec.ofNat 16 (s.g F.rtcTrimTrim)).toInt

/-- SUB advances by `k` ticks, SEC by its wraps (R442). -/
def subAdvance (k : Nat) (s : State) : State :=
  let t := s.g F.rtcSubSub + k
  (s.p F.rtcSubSub (t % 32768)).p F.rtcSecSec ((s.g F.rtcSecSec + t / 32768) % 2 ^ 32)

/-- The first crystal edge after a COMMIT: SEC, SUB, the accumulator and TVALID, then the alarms (R446, R452). -/
def rtcSet (s : State) : State :=
  match s.rtc.set with
  | some v =>
    let s := ((s.p F.rtcSecSec v).p F.rtcSubSub 0).p F.rtcStatTvalid 1
    (judgeAlarms (s.modRtc (fun r => { r with acc := 0, late := [], set := none }))).2
  | none => s

/-- One crystal tick: the accumulator takes TRIM, SUB advances by 1, 2 or 0, and the alarms are judged (R447, R451). -/
def crystalTick (s : State) : State :=
  if !s.b F.rtcStatOscok then s
  else if s.rtc.set.isSome then rtcSet s
  else
    let a := s.rtc.acc + trimVal s
    let (a, k) := if 32000000 ≤ a then (a - 32000000, 2) else if a ≤ -32000000 then (a + 32000000, 0) else (a, 1)
    (judgeAlarms (subAdvance k (s.modRtc (fun r => { r with acc := a })))).2

/-- `n` SCLK edges pass for the RTC: a crystal tick every 5 859.375 of them. -/
def rtcEdges (n : Nat) (s : State) : State :=
  let t := s.rtc.frac + 8 * n
  (List.range (t / 46875)).foldl (fun u _ => crystalTick u) (s.modRtc (fun r => { r with frac := t % 46875 }))

/-! ### Trim measurement (R448 to R450) -/

/-- A measurement waits or runs. -/
def trimBusy (s : State) : Bool := s.b F.rtcTrstatState

/-- A measurement ends early (R450). -/
def trimAbort (reason : Nat) (s : State) : State :=
  if trimBusy s then
    (((s.p F.rtcTrstatState 0).p F.rtcTrstatResult 2).p F.rtcTrstatReason reason).p F.rtcStatTrdone 1
  else s

/-- START of a measurement with window exponent `k`, but for the lockout (R448). -/
def trimStart (k : Nat) (s : State) : Code × State :=
  if trimBusy s then (.busy, s)
  else if k < 4 ∨ 16 < k then (.invalid, s)
  else if s.g F.stmStatState ≠ 2 then (.busy, s)
  else (.ok, (s.p F.rtcTrstatState 1).modRtc (fun r => { r with k := k }))

/-- A waiting measurement opens at a cycle boundary (R448). -/
def trimOpen (s : State) : State :=
  if s.g F.rtcTrstatState = 1 then
    let c := cycleNow s
    (s.p F.rtcTrstatState 2).modRtc (fun r => { r with opened := c })
  else s

/-- Division rounded to the nearest whole number, a half upward. -/
def roundQuot (a b : Int) : Int := Int.fdiv (2 * a + b) (2 * b)

/-- ERR of a window of 2^k cycles measured as `m` 1/64 crystal periods (R448, R449). -/
def trimErr (m k nom : Nat) : Int :=
  let q : Int := 2 ^ 21 * 2 ^ k
  roundQuot (32000000 * ((m : Int) * (if nom = 0 then 100 else 120) - q)) q

/-- The window closes after 2^K cycles with the measured length (R449). -/
def trimClose (m : Nat) (s : State) : State :=
  if s.g F.rtcTrstatState = 2 ∧ (cycleNow s + 2 ^ 32 - s.rtc.opened) % 2 ^ 32 = 2 ^ s.rtc.k then
    let e := trimErr m s.rtc.k (s.g F.stmCfgNom)
    let sat := decide (16384 < e) || decide (e < -16384)
    let v := max (-16384) (min 16384 e)
    let s := s.p F.rtcTrerrErr (BitVec.ofInt 16 v).toNat
    let s := (((s.p F.rtcTrstatResult 1).p F.rtcStatTrdone 1).p F.rtcTrstatState 0).p F.rtcTrstatTrsat (bit sat)
    if s.b F.rtcTrctlAuto && !sat then s.p F.rtcTrimTrim (BitVec.ofInt 16 (-v)).toNat else s
  else s

/-! ### Lockout and switch-over (R453, R454) -/

/-- The write lockout begins: a measurement is aborted (R450, R453). -/
def lockoutBegin (s : State) : State :=
  if s.b F.rtcStatLockout then s else trimAbort 3 (s.p F.rtcStatLockout 1)

/-- The write lockout ends. -/
def lockoutEnd (s : State) : State := s.p F.rtcStatLockout 0

/-- The power path has moved VSYS to BAT (R454). -/
def switchStamp (s : State) : State :=
  let s := if s.b F.rtcStatSwv then s.sat F.rtcSwsubCount 1
    else
      let t := ((s.p F.rtcSwsecSec (s.g F.rtcSecSec)).p F.rtcSwsubSub (s.g F.rtcSubSub)).p F.rtcSwsubStv (bit (!isAsleep s))
      let t := if isAsleep s then t else (t.p F.rtcSwcycCycle (cycleNow s)).p F.rtcSwphPhase (phaseNow s)
      (t.p F.rtcStatSwv 1).p F.rtcSwsubCount 1
  if isAsleep s then s.modRtc (fun r => { r with oweSwitch := true }) else raiseLine lineRtcSwitch s

/-- Raises owed from sleep happen on the first edge after wake (R451, R454). -/
def rtcWake (s : State) : State :=
  let a := s.rtc.oweAlarm
  let b := s.rtc.oweSwitch
  let s := s.modRtc (fun r => { r with oweAlarm := false, oweSwitch := false })
  raiseIf b lineRtcSwitch (raiseIf a lineRtcAlarm s)

/-! ### Oscillator (R444) -/

/-- No crystal edge for 1 ms (R444, R450). -/
def oscStop (s : State) : State :=
  if s.b F.rtcStatOscok then trimAbort 5 ((s.p F.rtcStatOscok 0).p F.rtcStatOscstop 1) else s

/-- Crystal edges again (R444). -/
def oscResume (s : State) : State := s.p F.rtcStatOscok 1

/-! ### Registers (R445, R446, R455) -/

/-- An accepted RTC_COMMIT: the committed time waits for the first crystal edge (R128, R446). -/
def rtcApply (s : State) : State :=
  let v := s.sv 17 F.rtcSetsecSec
  (s.applyStage 17).modRtc (fun r => { r with set := some v })

/-- A write of RTC_COMMIT, but for the lockout (R446). -/
def rtcCommit (id : Nat) (s : State) : Code × State := commitWith 17 id (fun _ => true) rtcApply s

/-- A write of RTC_TRCTL, but for the lockout (R448, R450). -/
def trctlW (v : Nat) (s : State) : Code × State :=
  let take := fun (t : State) => (t.p F.rtcTrctlAuto (v / 16 % 2)).p F.rtcTrctlK (v / 256 % 32)
  let (c, s) := if v.testBit 0 then trimStart (v / 256 % 32) s else (.ok, s)
  if c = .ok then (c, (if v.testBit 1 then trimAbort 5 (take s) else take s))
  else (c, s)

/-- A write of RTC_ALMn_CTL: an alarm enabled with its target already past is late (R451). -/
def almCtlW (n v : Nat) (s : State) : State :=
  let was := s.b1 F.rtcAlmCtlEn n
  let s := (s.p1 F.rtcAlmCtlEn n (v % 2)).p1 F.rtcAlmCtlRepeat n (v / 256)
  if !was && alarmDue n s && decide (s.g F.rtcSecSec ≠ s.g1 F.rtcAlmTimeA n) then
    s.modRtc (fun r => { r with late := NSet.add r.late n })
  else if was && decide (v % 2 = 1) then s
  else s.modRtc (fun r => { r with late := NSet.del r.late n })

/-- Writes of the RTC block (R453). -/
def rtcWrite (id addr v : Nat) (s : State) : Code × State :=
  let off := addr % 0x1000
  if (fieldsAt addr).isEmpty then (.invalid, s)
  else if s.b F.rtcStatLockout then (.denied, s)
  else if off = 0x014 then if v % 2 = 1 then rtcCommit id s else (.ok, s)
  else if off = 0x018 then
    let t := v % 2 ^ 16
    if t ≤ 0x4000 ∨ 0xC000 ≤ t then (.ok, s.p F.rtcTrimTrim t) else (.invalid, s)
  else if off = 0x020 then trctlW v s
  else if off = 0x030 ∨ off = 0x040 then
    let n := (off - 0x030) / 0x10
    if s.b1 F.rtcAlmCtlEn n then (.busy, s) else genWrite id addr v s
  else if off = 0x034 ∨ off = 0x044 then (.ok, almCtlW ((off - 0x034) / 0x10) v s)
  else if off = 0x050 then
    let (c, t) := genWrite id addr v s
    (c, if s.b F.rtcStatSwv && !t.b F.rtcStatSwv then t.p F.rtcSwsubCount 0 else t)
  else genWrite id addr v s

/-- The snapshot an initiator holds (R445). -/
def rtcSnap (id : Nat) (s : State) : Nat × Nat := Tab.val (0, 0) s.rtc.snap id

/-- Reads of the RTC block (R445). -/
def rtcRead (id addr : Nat) (s : State) : Code × Nat × State :=
  let off := addr % 0x1000
  if off = 0x000 then
    let p := (s.g F.rtcSecSec, s.g F.rtcSubSub)
    (.ok, p.1, s.modRtc (fun r => { r with snap := Tab.set r.snap id p }))
  else if off = 0x004 then (.ok, (rtcSnap id s).2, s)
  else if off = 0x008 then (.ok, cal0 (rtcSnap id s).1, s)
  else if off = 0x00C then (.ok, cal1 (rtcSnap id s).1, s)
  else genRead addr s

end Sys2Proof.Machine
end

