-- ==== Sys2Proof/Machine/SlkKa.lean ====
section
/-! DEFINITION. What the string link judges at a superframe boundary: keep-alive and the media (R227 to R230). -/

namespace Sys2Proof.Machine

/-- MISSED has reached K, and the superframe that runs has had no beacon: every input not OFF is forced to SAFE, KALOSS is set and raised (R227, R234). -/
def keepaliveLoss (s : State) : State :=
  if s.b F.slkKaEn ∧ s.g F.slkKaK ≤ s.g F.slkKaMissed ∧ !s.link.kaActed ∧ !s.link.kaSeen then
    let s := forceSafeAll (s.modLink (fun l => { l with kaActed := true, kaSince := false }))
    raiseLine lineSlkKaloss (faultEvent srcSlk (s.p F.slkStatKaloss 1))
  else s

/-- The superframe that ended is judged for keep-alive (R227). -/
def kaJudge (s : State) : State :=
  let seen := s.link.kaSeen
  let s := s.modLink (fun l => { l with kaSeen := false })
  if !s.b F.slkKaEn then s
  else if seen then (s.p F.slkKaMissed 0).modLink (fun l => { l with kaActed := false })
  else keepaliveLoss (s.sat F.slkKaMissed 1)

/-- Set a medium's failed flag. -/
def setFailed (pair : Bool) (v : Nat) (s : State) : State :=
  if pair then s.p F.slkMedPfail v else s.p F.slkMedCfail v

/-- A medium fails: its flag and MEDFAIL are set, its roles move (R229, R234). -/
def mediumFail (pair : Bool) (s : State) : State :=
  if medFailed pair s then s
  else
    let s := (setFailed pair 1 s).modLink (fun l => l.setMedium pair { l.medium pair with
      moved := true, silent := 0, good := 0, otherSeen := false })
    faultEvent srcSlk (s.p F.slkStatMedfail 1)

/-- A medium's transmitter reports a driver fault; what it was sending stops and stays queued (R229, R230). -/
def driverFaultBegin (pair : Bool) (s : State) : State :=
  let s := if pair then s.p F.slkMedPtxf 1 else s.p F.slkMedCtxf 1
  mediumFail pair (s.modLink (fun l => l.setMedium pair { l.medium pair with tx := none }))

/-- The driver fault of a medium clears (R230). -/
def driverFaultEnd (pair : Bool) (s : State) : State := if pair then s.p F.slkMedPtxf 0 else s.p F.slkMedCtxf 0

/-- A medium has been silent for T superframes in which the other received (R229). -/
def mediumSilence (pair : Bool) (s : State) : State :=
  let m := s.link.medium pair
  if !medFailed pair s ∧ s.g F.slkMedT ≤ m.silent ∧ m.otherSeen then mediumFail pair s else s

/-- A failed medium has received verified frames in RET consecutive superframes; with AUTORET it takes back its roles. While its driver fault stands it stays failed by the first case of R229 (log 103). -/
def mediumRestore (pair : Bool) (s : State) : State :=
  let m := s.link.medium pair
  if medFailed pair s ∧ s.g F.slkMedRet ≤ m.good ∧ !medDrvFault pair s then
    (setFailed pair 0 s).modLink (fun l => l.setMedium pair { l.medium pair with
      moved := (l.medium pair).moved && !s.b F.slkCfgAutoret, good := 0 })
  else s

/-- The counters of a medium move past a superframe: `other`, the other medium received a verified frame in it. A disabled medium counts no silence (R205, R229, log 103). -/
def countMedium (pair other : Bool) (s : State) : State :=
  let m := s.link.medium pair
  let m' : Medium :=
    if m.seen then { m with silent := 0, otherSeen := false, good := m.good + 1, seen := false }
    else if !medEnabled pair s then { m with silent := 0, otherSeen := false, good := 0 }
    else { m with silent := m.silent + 1, otherSeen := m.otherSeen || other, good := 0 }
  s.modLink (fun l => l.setMedium pair m')

/-- A superframe boundary of the link, which a reset holds (R227, R229); the backoff of an unaddressed node counts it (R231). -/
def slkBoundary (s : State) : State :=
  if held s then s else
  let s := kaJudge (s.modLink (fun l => { l with joinWait := l.joinWait - 1 }))
  let c := s.link.car.seen
  let p := s.link.pr.seen
  let s := countMedium true c (countMedium false p s)
  let s := mediumRestore true (mediumRestore false s)
  mediumSilence true (mediumSilence false s)

end Sys2Proof.Machine
end

