-- ==== Sys2Proof/Machine/Tmr.lean ====
section
/-! DEFINITION. How a general timer counts (R493). -/

namespace Sys2Proof.Machine

/-- Flags of timer `n` are set and its line is raised (R493). -/
def tmrFlags (n : Nat) (cmp wrap : Bool) (s : State) : State :=
  let s := if cmp then s.p1 F.tmrStatCmpf n 1 else s
  let s := if wrap then s.p1 F.tmrStatWrapf n 1 else s
  raiseIf (cmp || wrap) (lineTm n) s

/-- Steps from count `c` until the count is `t`, at least one, in a counter of `m` values. -/
def stepsTo (c t m : Nat) : Nat := if c < t then t - c else t + m - c

/-- Timer `n` advances by `k` counts (R493). A count above TOP runs on to 2^32 (log 21). -/
def tmrAdvance (n k : Nat) (s : State) : State :=
  if k = 0 ∨ !s.b1 F.tmrCfgEn n then s
  else
    let c := s.g1 F.tmrCntCnt n
    let top := s.g1 F.tmrTopTop n
    let cmp := s.g1 F.tmrCmpCmp n
    if c ≤ top then
      let m := top + 1
      let hit := decide (cmp ≤ top) && decide (stepsTo c cmp m ≤ k)
      tmrFlags n hit (decide (top < c + k)) (s.p1 F.tmrCntCnt n ((c + k) % m))
    else
      let r := 2 ^ 32 - c
      if k < r then
        tmrFlags n (decide (c < cmp) && decide (cmp ≤ c + k)) false (s.p1 F.tmrCntCnt n (c + k))
      else
        let m := top + 1
        let hit := decide (c < cmp) || (decide (cmp ≤ top) && (decide (cmp = 0) || decide (stepsTo 0 cmp m ≤ k - r)))
        tmrFlags n hit (decide (top < k - r)) (s.p1 F.tmrCntCnt n ((k - r) % m))

/-- Timers on string time count the ticks a step passes over (R493). -/
def tmrStep (k : Nat) (s : State) : State :=
  (List.range 8).foldl (fun t n => if t.b1 F.tmrCfgClk n then tmrAdvance n k t else t) s

end Sys2Proof.Machine
end

