-- ==== Sys2Proof/Machine/Stm.lean ====
section
/-! DEFINITION. The string-time machine: advance, reference events, acquisition, lock states, steps, renumbering and its registers (R35 to R61). -/

namespace Sys2Proof.Machine

/-- Change the string-time machine. -/
def State.modStm (s : State) (f : Stm → Stm) : State := { s with stm := f s.stm }

/-! ### Time's numbers (R38) -/

/-- One cycle in the accumulator's units. -/
def cycleUnit : Nat := 2 ^ 48

/-- Nominal SCLK edges of a cycle (R38, R47). -/
def nomCycle (s : State) : Nat := if s.g F.stmCfgNom = 0 then 1920000 else 1600000

/-- The states of STM_STAT.STATE (R46). -/
def stFree : Nat := 0
/-- ACQUIRE. -/
def stAcquire : Nat := 1
/-- LOCKED. -/
def stLocked : Nat := 2
/-- HOLDOVER. -/
def stHoldover : Nat := 3

/-- The lock state. -/
def stmState (s : State) : Nat := s.g F.stmStatState

/-- The source is BEACON. -/
def srcBeacon (s : State) : Bool := s.g F.stmCfgSrc = 2

/-- A number of accumulator units modulo 2^80 read as signed. -/
def signed80 (n : Int) : Int :=
  let m := n % (2 ^ 80 : Int)
  if m < 2 ^ 79 then m else m - 2 ^ 80

/-- The accumulator as a number. -/
def accNow (s : State) : Nat := s.stm.acc.toNat

/-- The time presented `ago` SCLK edges ago, in accumulator units, at the present increment. -/
def accAt (ago : Nat) (s : State) : Int := (accNow s : Int) - (ago * s.g F.stmIncInc : Nat)

/-- Set the accumulator. -/
def setAcc (n : Int) (s : State) : State := s.modStm (fun t => { t with acc := BitVec.ofInt 80 n })

/-! ### Changes of state and steps (R46, R49, R54 to R56) -/

/-- A slew ends: STM_INC is the filtered frequency again (R45, R49, R51, log 81). -/
def endSlew (s : State) : State :=
  if s.stm.slew = 0 then s else (s.p F.stmIncInc s.stm.incFilt).modStm (fun t => { t with slew := 0 })

/-- The state changes: STCHG is set, STM_STATE is raised, a trim measurement ends when lock is left (R46, R56, R450). A slew runs on in LOCKED alone, and FREE knows no correction (R45, R49). -/
def setStmState (st : Nat) (s : State) : State :=
  if stmState s = st then s
  else
    let s := if stmState s = stLocked then trimAbort 1 s else s
    let s := if st = stLocked then s else endSlew s
    let s := ((s.p F.stmStatState st).p F.stmPherrHcnt 0).p F.stmStatStchg 1
    let s := s.modStm (fun t => { t with outRun := 0, missRun := 0, lockRun := 0, pause := if st = stFree then 0 else t.pause })
    raiseLine lineStmState s

/-- Acquisition starts at step 1; the last instant that was not discarded stays the one gaps are measured from (R47, R48, log 65). -/
def acqRestart (s : State) : State := s.modStm (fun t => { t with acqStep := 1, acqN := 0, lockRun := 0 })

/-- ACQUIRE is entered (R46, R48). -/
def enterAcquire (s : State) : State := acqRestart (setStmState stAcquire s)

/-- ACQUIRE is entered by a reference event at instant `r`, the first of its four (R46, R48, log 65). -/
def acquireFrom (r : Nat) (s : State) : State :=
  (enterAcquire s).modStm (fun t => { t with lastRef := some r, acqN := 1, acqFirst := r })

/-- A step of string time to a new accumulator value, which raises STM_STEP alone: a boundary it lands on or passes over raises neither STM_CYCLE nor STM_SFRAME and applies no pending STM_SETC (log 83). Its flags and STM_STEP; a trim measurement ends, and timers on string time count the ticks passed over (R49, R56, R450, R493). -/
def stepFlags (n : Int) (back : Bool) (s : State) : State :=
  let s := if back then s else tmrStep ((n / 2 ^ 32).toNat - stampNow s) s
  let s := trimAbort 2 (setAcc n s)
  raiseLine lineStmStep ((s.p F.stmStatStep 1).p F.stmStatStepBack (if back then 1 else s.g F.stmStatStepBack))

/-- A step, which for the link counts as one superframe boundary, however far it goes (R227; log 24). -/
def stepTo (n : Int) (back : Bool) (s : State) : State := slkBoundary (stepFlags n back s)

/-- A beacon's renumbering discards a pending STM_SETC (R60). -/
def loseSetc (s : State) : State :=
  if s.stm.setc.isSome then (s.p F.stmStatSetLost 1).modStm (fun t => { t with setc := none }) else s

/-- Renumber by `d` cycles (R43, R49). -/
def renumber (d : Int) (s : State) : State :=
  if d = 0 then s else stepTo ((accNow s : Int) + d * cycleUnit) (decide (d < 0)) s

/-- A pause of string time until the reference reaches the held time, `ahead` units away (R49). -/
def pauseFor (ahead : Nat) (s : State) : State :=
  let inc := s.g F.stmIncInc
  s.modStm (fun t => { t with pause := if inc = 0 then 0 else (ahead + inc - 1) / inc })

/-- Alignment in ACQUIRE by `diff` units, positive when the node is behind (R49). -/
def alignBy (diff : Int) (s : State) : State :=
  if 0 < diff then stepTo ((accNow s : Int) + diff) false s
  else
    let ahead := (-diff).toNat
    let whole := ahead / cycleUnit
    let s := if whole = 0 then s else renumber (-(whole : Int)) s
    pauseFor (ahead % cycleUnit) s

/-! ### The loop (R50, R51) -/

/-- The most that a slew may offset an increment: SLEW steps of 16 ppm (R49, R61). -/
def slewMost (filt : Nat) (s : State) : Nat := filt * s.g F.stmCfgSlew * 16 / 1000000

/-- A reference event of error `e` within UNLOCK_PH corrects time. The filtered frequency and the size of the offset follow from the error and the time constant BW by the loop, whose gains the spec does not give; the offset is at least 1 and at most SLEW, against the sign of the error, until the error is removed (R49, R50, log 10). -/
def loopCorrect (e : Int) (s : State) : State :=
  let (k, s) := s.draw
  let bw := s.g F.stmCfgBw
  let filt := (Config.stmFiltered k bw e).toNat
  let off := min (max 1 (Config.stmOffset k bw e).toNat) (slewMost filt s)
  let inc := if e = 0 then filt else if 0 < e then filt - off else min (filt + off) (2 ^ 32 - 1)
  (s.p F.stmIncInc inc).modStm (fun t => { t with incFilt := filt, slew := if inc = filt then 0 else e.natAbs })

/-- STM_PHERR.ERR of an error in accumulator units: ticks, saturating; a fraction of a tick goes down or up (R50, R61, log 64). -/
def reportErr (e : Int) (s : State) : State :=
  let f := Int.fdiv e (2 ^ 32)
  let (t, s) :=
    if e % 2 ^ 32 = 0 then (f, s)
    else
      let (k, s) := s.draw
      (if Config.stmErrUp k then f + 1 else f, s)
  let t := max (-32767) (min 32767 t)
  s.p F.stmPherrErr ((t + 65536) % 65536).toNat

/-- |e| is at most `ph` ticks. -/
def within (e : Int) (ph : Nat) : Bool := decide (e.natAbs ≤ ph * 2 ^ 32)

/-! ### Missing and discarded events (R46 to R48) -/

/-- An expected reference event is missing, or a discarded one counts as missing (R46 to R48). -/
def eventMissing (s : State) : State :=
  let s := s.p F.stmStatRefok 0
  if stmState s = stAcquire then
    if s.stm.acqStep = 1 then acqRestart s else s.modStm (fun t => { t with lockRun := 0 })
  else if stmState s = stLocked then
    let s := s.modStm (fun t => { t with missRun := t.missRun + 1 })
    if s.g F.stmThrMissN ≤ s.stm.missRun then
      setStmState stHoldover s
    else s
  else s

/-- Expected interval between reference events, in SCLK (R47). -/
def expected (s : State) : Nat := if srcBeacon s then 4 * nomCycle s else nomCycle s

/-- A further expected event has gone missing by now (R47). -/
def missDue (s : State) : Bool :=
  match s.stm.lastRef with
  | some r => decide (stmState s ≠ stFree) && decide ((5 + 4 * s.stm.missed) * expected s < 4 * (s.stm.sclk - r))
  | none => false

/-- A missing event is counted when it is due (R47). -/
def referenceMissing (s : State) : State :=
  if missDue s then eventMissing (s.modStm (fun t => { t with missed := t.missed + 1 })) else s

/-- Count missing events up to `n` since the last instant (R47). -/
def catchUpMissing : Nat → State → State
  | 0, s => s
  | n + 1, s =>
    let s := catchUpMissing n s
    if s.stm.missed < n + 1 then eventMissing (s.modStm (fun t => { t with missed := n + 1 })) else s

/-! ### Reference events (R43, R44, R46 to R50) -/

/-- The number of intervals a gap spans (R47). -/
def intervals (gap e : Nat) : Nat := max 1 ((2 * gap + e) / (2 * e))

/-- The period of a gap lies outside ±4 % (R47). -/
def outOfRange (gap e : Nat) : Bool :=
  let n := intervals gap e
  decide (100 * gap < 96 * n * e) || decide (104 * n * e < 100 * gap)

/-- The signed phase error of an instant against the nearest cycle boundary (R49, R50). -/
def phaseError (t : Int) : Int :=
  let m := t % (cycleUnit : Int)
  if m < 2 ^ 47 then m else m - cycleUnit

/-- The number of the cycle boundary nearest to an instant. Before alignment no ripple boundary is marked yet; the model takes the accumulator's own (R43, log 82). -/
def nearestCycle (t : Int) : Int := Int.fdiv (t + 2 ^ 47) cycleUnit

/-- A number of cycles read as signed modulo 2^32. -/
def signed32 (n : Int) : Int :=
  let m := n % (2 ^ 32 : Int)
  if m < 2 ^ 31 then m else m - 2 ^ 32

/-- Step 2 of R48: STM_INC from the measured period over three intervals, numbering, and alignment under R49. `num`: a beacon's cycle. -/
def acquireAlign (ago period3 : Nat) (num : Option Nat) (s : State) : State :=
  let cyc := if srcBeacon s then 12 else 3
  let inc := min ((2 * cyc * cycleUnit + period3) / (2 * max period3 1)) (2 ^ 32 - 1)
  let s := (s.p F.stmIncInc inc).modStm (fun t => { t with incFilt := inc, acqStep := 3, lockRun := 0 })
  match num with
  | some c =>
    alignBy (signed80 ((c * cycleUnit : Nat) + (ago * inc : Nat) - (accNow s : Int))) (loseSetc s)
  | none =>
    let e := phaseError (accAt ago s)
    match (if s.b F.stmCfgAdopt then s.stm.bcnDelta else none) with
    | some d => (alignBy (signed80 (d * cycleUnit - e)) (loseSetc s)).modStm (fun t => { t with bcnDelta := some 0 })
    | none => alignBy (-e) s

/-- A reference event in ACQUIRE (R46, R48). -/
def acquireEvent (r ago : Nat) (e : Int) (num : Option Nat) (s : State) : State :=
  if s.stm.acqStep = 1 then
    if s.stm.acqN = 0 then s.modStm (fun t => { t with acqN := 1, acqFirst := r })
    else
      let s := s.modStm (fun t => { t with acqN := t.acqN + 1 })
      if s.stm.acqN < 4 then s else acquireAlign ago (r - s.stm.acqFirst) num s
  else
    let s := reportErr e s
    let s := if within e (s.g F.stmThrUnlockPh) then loopCorrect e s else s
    if within e (s.g F.stmThrLockPh) then
      let s := s.modStm (fun t => { t with lockRun := t.lockRun + 1 })
      if s.g F.stmThrLockN ≤ s.stm.lockRun then setStmState stLocked s else s
    else s.modStm (fun t => { t with lockRun := 0 })

/-- A reference event in LOCKED (R46, R50). -/
def lockedEvent (r : Nat) (e : Int) (s : State) : State :=
  let s := reportErr e (s.modStm (fun t => { t with missRun := 0 }))
  if within e (s.g F.stmThrUnlockPh) then loopCorrect e (s.modStm (fun t => { t with outRun := 0 }))
  else
    let s := s.modStm (fun t => { t with outRun := t.outRun + 1 })
    if s.g F.stmThrUnlockN ≤ s.stm.outRun then acquireFrom r s else s

/-- A reference event in HOLDOVER (R46, R49). -/
def holdoverEvent (r : Nat) (e : Int) (s : State) : State :=
  let s := reportErr e s
  if within e (s.g F.stmThrUnlockPh) then loopCorrect e (setStmState stLocked s) else acquireFrom r s

/-- A reference event whose instant lay `ago` SCLK edges ago; `num`: the cycle a beacon carries (R43, R44, R46 to R50). -/
def referenceEvent (ago : Nat) (num : Option Nat) (s : State) : State :=
  if stmState s = stFree then s
  else
    let r := s.stm.sclk - ago
    let e := expected s
    let gap := match s.stm.lastRef with
      | some q => r - q
      | none => e
    let n := intervals gap e
    if outOfRange gap e then eventMissing ((s.p F.stmStatRefRange 1).modStm (fun t => { t with missed := t.missed + 1 }))
    else
      let s := catchUpMissing (n - 1) s
      let s := (s.p F.stmStatRefok 1).modStm (fun t => { t with lastRef := some r, missed := 0 })
      let t := accAt ago s
      let err := match num with
        | some c => signed80 (t - (c * cycleUnit : Nat))
        | none => phaseError t
      match stmState s with
      | 1 => acquireEvent r ago err num s
      | 2 => lockedEvent r err s
      | _ => holdoverEvent r err s

/-- A result tagged SIS has reached the STM within the last 1 ms (R41, R42). -/
def sisFresh (s : State) : Bool :=
  match s.stm.sis with
  | some t => decide (s.stm.sclk - t < 192000)
  | none => false

/-- A result tagged SIS reaches the STM (R41). -/
def sisResult (s : State) : State := s.modStm (fun t => { t with sis := some t.sclk })

/-- A positive-going zero crossing of the ripple, whose amplitude over the preceding cycle was `amp` codes peak to peak: a reference event where it reaches MINAMP and results arrive (R41, R42). -/
def rippleEvent (ago amp : Nat) (s : State) : State :=
  if s.g F.stmCfgSrc = 1 ∧ s.g F.stmRippleMinamp ≤ amp ∧ sisFresh s then referenceEvent ago none s else s

/-- A beacon in ripple lock: its number against the local count (R43). -/
def beaconAdopt (ago num : Nat) (s : State) : State :=
  let d := signed32 ((num : Int) - nearestCycle (accAt ago s))
  let before := s.stm.bcnDelta
  let s := s.modStm (fun t => { t with bcnDelta := some d })
  if d = 0 ∨ stmState s = stFree then s
  else if stmState s = stAcquire then
    (renumber d (loseSetc s)).modStm (fun t => { t with bcnDelta := some 0 })
  else if before = some d then
    ((renumber d (loseSetc s)).p F.stmStatCycSlip 1).modStm (fun t => { t with bcnDelta := some 0 })
  else s

/-- SCLK edges since a beacon's sync field ended at the gateway's pin, of one that ended `ago` edges ago at the node's own (R44). -/
def beaconAgo (ago : Nat) (s : State) : Nat := ((ago : Int) + (BitVec.ofNat 16 (s.g F.stmBcnofsOfs)).toInt).toNat

/-- A beacon whose sync field ended `ago` SCLK edges ago at the node's own pin (R43, R44): STM_BCNOFS takes it back to the gateway's pin. -/
def beaconReference (ago num : Nat) (s : State) : State :=
  if srcBeacon s then referenceEvent (beaconAgo ago s) (some num) s
  else if s.g F.stmCfgSrc = 1 ∧ s.b F.stmCfgAdopt then beaconAdopt (beaconAgo ago s) num s
  else s

/-! ### Advance and boundaries (R38, R49, R51, R53, R56, R60) -/

/-- How far time moves in `m` edges while a slew has `left` units to remove, at increment `inc` against the filtered `filt` (R49). -/
def slewed (m inc filt left : Nat) : Nat :=
  if filt ≤ inc then m * filt + min (m * (inc - filt)) left else m * filt - min (m * (filt - inc)) left

/-- `n` SCLK edges of the accumulator; a slew ends once its error is removed (R38, R49). -/
def stmRun (n : Nat) (s : State) : State :=
  let inc := s.g F.stmIncInc
  let m := n - s.stm.pause
  if s.stm.slew = 0 then
    s.modStm (fun t => { t with acc := t.acc + BitVec.ofNat 80 (m * inc), pause := t.pause - n, sclk := t.sclk + n })
  else
    let filt := s.stm.incFilt
    let done := m * ((inc - filt) + (filt - inc))
    let s := s.modStm (fun t => { t with
      acc := t.acc + BitVec.ofNat 80 (slewed m inc filt t.slew), pause := t.pause - n, sclk := t.sclk + n })
    if s.stm.slew ≤ done then endSlew s else s.modStm (fun t => { t with slew := t.slew - done })

/-- Edges that move time by `d` units at one increment. -/
def edgesAt (d inc : Nat) : Option Nat := if inc = 0 then none else some ((d + inc - 1) / inc)

/-- SCLK edges until the presented time has moved on by `d` units; none where the increment is 0. -/
def edgesFor (d : Nat) (s : State) : Option Nat :=
  let inc := s.g F.stmIncInc
  let filt := s.stm.incFilt
  let n :=
    if s.stm.slew = 0 then edgesAt d inc
    else match edgesAt d inc with
      | some n =>
        if n * ((inc - filt) + (filt - inc)) ≤ s.stm.slew then some n
        else if filt ≤ inc then edgesAt (d - s.stm.slew) filt else edgesAt (d + s.stm.slew) filt
      | none => edgesAt (d + s.stm.slew) filt
  n.map (fun n => s.stm.pause + n)

/-- SCLK edges to the next cycle boundary. -/
def edgesToBoundary (s : State) : Option Nat := edgesFor (cycleUnit - accNow s % cycleUnit) s

/-- A pending STM_SETC is applied at a boundary; a beacon's number already received differs from the new count by as much less (R43, R48, R49, R60). -/
def applySetc (s : State) : State :=
  match s.stm.setc with
  | none => s
  | some c =>
    let d := signed32 ((c : Int) - (cycleNow s : Int))
    let s := s.modStm (fun t => { t with setc := none, bcnDelta := t.bcnDelta.map (fun b => signed32 (b - d)) })
    if d = 0 then s else stepFlags ((accNow s : Int) + d * cycleUnit) (decide (d < 0)) s

/-- HCNT counts a cycle of HOLDOVER at each cycle boundary passed since the entry; a step over a boundary counts none (R46, R51, log 84). -/
def holdoverCount (s : State) : State := if stmState s = stHoldover then s.sat F.stmPherrHcnt 1 else s

/-- More than LIMIT cycles in HOLDOVER (R46, R52). -/
def holdoverExpiry (s : State) : State :=
  if stmState s = stHoldover ∧ s.g F.stmHoldLimit < s.g F.stmPherrHcnt then
    faultEvent srcStm ((setStmState stFree s).p F.stmStatHoldExp 1)
  else s

/-- What a cycle boundary does on its edge; a number that STM_SETC changes there is the one boundary the link counts (R51, R56, R60, R227, R448). -/
def cycleEdge (s : State) : State :=
  let c := cycleNow s
  let s := raiseLine lineStmCycle (applySetc s)
  let s :=
    if cycleNow s % 4 = 0 then raiseLine lineStmSframe (slkBoundary s)
    else if cycleNow s ≠ c then slkBoundary s
    else s
  trimOpen (holdoverExpiry (holdoverCount s))

/-! ### Registers (R45, R46, R59 to R61) -/

/-- The checks of STM_COMMIT (R61). -/
def stmCheck (s : State) : Bool :=
  let v := fun f => s.sv 1 f
  decide (v F.stmCfgSrc ≠ 3) && decide (v F.stmCfgSlew ≠ 0) && decide (v F.stmThrLockPh ≠ 0) &&
    decide (v F.stmThrLockN ≠ 0) && decide (v F.stmThrUnlockPh ≠ 0) && decide (v F.stmThrUnlockN ≠ 0) &&
    decide (v F.stmThrMissN ≠ 0) && decide (v F.stmThrLockPh < v F.stmThrUnlockPh) &&
    decide (1 ≤ v F.stmHoldLimit) && decide (v F.stmHoldLimit ≤ 99) && decide (v F.stmRippleMinamp ≠ 0)

/-- An accepted set is applied, and may change the state (R46). -/
def stmApply (s : State) : State :=
  let old := s.g F.stmCfgSrc
  let s := s.applyStage 1
  let new := s.g F.stmCfgSrc
  if new = old then s
  else if new = 0 then setStmState stFree s
  else enterAcquire (s.modStm (fun t => { t with lastRef := none, missed := 0, bcnDelta := none }))

/-- A write of STM_COMMIT (R46, R61). -/
def stmCommit (id : Nat) (s : State) : Code × State := commitWith 1 id stmCheck stmApply s

/-- A write of STM_INC (R45). -/
def stmIncW (v : Nat) (s : State) : Code × State :=
  if stmState s = stFree then
    (.ok, (s.p F.stmIncInc v).modStm (fun t => { t with incFilt := v % 2 ^ 32 }))
  else (.denied, s)

/-- A write of STM_SETC (R60). -/
def stmSetcW (v : Nat) (s : State) : Code × State :=
  if 2 ≤ stmState s ∧ (srcBeacon s || (s.g F.stmCfgSrc = 1 && s.b F.stmCfgAdopt)) then (.denied, s)
  else (.ok, s.modStm (fun t => { t with setc := some (v % 2 ^ 32) }))

/-- A write of STM_CLK: the crystal stays the reference only while SRC is 1 and it is qualified (R35). -/
def stmClkW (id addr v : Nat) (s : State) : Code × State :=
  let (c, s) := genWrite id addr v s
  (c, s.p F.stmClkAct (bit (s.b F.stmClkSrc && s.b F.stmClkXtok)))

/-- The crystal has run 1 024 periods within its window: XTOK, and it is the reference where SRC selects it (R35, R61). -/
def xtalQualified (s : State) : State :=
  let s := s.p F.stmClkXtok 1
  if s.b F.stmClkSrc then s.p F.stmClkAct 1 else s

/-- No crystal edge for 1 µs: it is no longer qualified, and where it was the reference the oscillator takes over with XT_LOST (R35, R52). -/
def xtalLost (s : State) : State :=
  let t := s.p F.stmClkXtok 0
  if s.b F.stmClkAct then faultEvent srcStm ((t.p F.stmClkAct 0).p F.stmStatXtLost 1) else t

/-- A read of STM_NOWC: the cycle, with a snapshot for the reader (R59). -/
def nowcRead (id : Nat) (s : State) : Code × Nat × State :=
  (.ok, cycleNow s, s.modStm (fun t => { t with snap := Tab.put 0 t.snap id (t.acc.toNat / 2 ^ 16) }))

/-- Writes of the STM block (R45, R46, R60, R61). -/
def stmWrite (id addr v : Nat) (s : State) : Code × State :=
  if addr = F.stmCommitCommit.addr then (if v.testBit 0 then stmCommit id s else (.ok, s))
  else if addr = F.stmIncInc.addr then stmIncW v s
  else if addr = F.stmSetcCycle.addr then stmSetcW v s
  else if addr = F.stmClkSrc.addr then stmClkW id addr v s
  else genWrite id addr v s

/-- Reads of the STM block (R59). -/
def stmRead (id addr : Nat) (s : State) : Code × Nat × State :=
  if addr = F.stmNowcCycle.addr then nowcRead id s
  else if addr = F.stmNowpPhase.addr then (.ok, Tab.val 0 s.stm.snap id % 2 ^ 32, s)
  else genRead addr s

/-- The STM interrupt (R61). -/
def stmIrq (s : State) : Bool :=
  [(F.stmStatStchg, 0), (F.stmStatStep, 1), (F.stmStatStepBack, 2), (F.stmStatHoldExp, 3), (F.stmStatCycSlip, 4),
    (F.stmStatRefRange, 5), (F.stmStatXtLost, 6), (F.stmStatSetLost, 7)].any
    (fun e => s.b e.1 && (s.g F.stmIenIen).testBit e.2)

/-- The clock SYNCOUT carries under MODE and DIV (R61). -/
def syncClock (s : State) : Bool :=
  match s.g F.stmSyncoutMode with
  | 1 => decide (accNow s % cycleUnit < 192 * s.g F.stmIncInc)
  | 2 =>
    let d := s.g F.stmSyncoutDiv
    decide (phaseNow s % 2 ^ d < 2 ^ (d - 1))
  | _ => false

/-- The level on SYNCOUT: high impedance while the TZE816 is unpowered (R61, R65, R87, R417). -/
def syncout (s : State) : Option Bool := pinUnder 2 (some (syncClock s)) s

end Sys2Proof.Machine
end

