-- ==== Sys2Proof/Machine/Adc.lean ====
section
/-! DEFINITION. Analogue-to-digital conversion: selection, results, windows, calibration, failover (R290 to R310). -/

namespace Sys2Proof.Machine

/-- Change the converters' state. -/
def State.modAdc (s : State) (f : Adc → Adc) : State := { s with adc := f s.adc }

/-- Converter `n`, physical or logical. -/
def State.conv (s : State) (n : Nat) : AdcConv := if n = 0 then s.adc.c0 else s.adc.c1

/-- Change converter `n`. -/
def State.modConv (s : State) (n : Nat) (f : AdcConv → AdcConv) : State :=
  s.modAdc (fun a => if n = 0 then { a with c0 := f a.c0 } else { a with c1 := f a.c1 })

/-- The OK, FAIL, CHKMISS and FOVF flags of a converter (R310). -/
def okFam (m : Nat) : Fam := if m = 0 then F.adcStatOk0 else F.adcStatOk1
/-- FAILm. -/
def failFam (m : Nat) : Fam := if m = 0 then F.adcStatFail0 else F.adcStatFail1
/-- CHKMISSm. -/
def missFam (m : Nat) : Fam := if m = 0 then F.adcStatChkmiss0 else F.adcStatChkmiss1
/-- FOVFn. -/
def fovfFam (n : Nat) : Fam := if n = 0 then F.adcStatFovf0 else F.adcStatFovf1

/-- The domain of a physical converter is at power good: D5, D6. -/
def adcPowered (m : Nat) (s : State) : Bool := (s.g F.hkrDomstatPg).testBit (5 + m)

/-- A physical converter serves and has its coefficients (R301, R305). -/
def adcServes (m : Nat) (s : State) : Bool := s.b (okFam m) && adcPowered m s && (s.conv m).loaded

/-- The physical converter a logical one is served by: its own, or the survivor (R291, R305). -/
def adcServer (l : Nat) (s : State) : Nat := if s.b (okFam l) then l else 1 - l

/-! ### Codes (R293, R297, R300, R301) -/

/-- A logical channel is differential (R293). -/
def isDiff (l ch : Nat) (s : State) : Bool := s.g2 F.adcChDiff l ch ≠ 0

/-- The calibration entry of a logical channel by home or cross path (R300). -/
def calEntry (l ch : Nat) (cross : Bool) : Nat := 32 * l + ch + if cross then 64 else 0

/-- The coefficients of an entry: those read, or the default (R300). -/
def calOf (l ch : Nat) (cross : Bool) (s : State) : CalEnt :=
  (Tab.get s.adc.cal (calEntry l ch cross)).getD ⟨if isDiff l ch s then 0 else 0x4000, 0x40000000, true⟩

/-- The coefficients of a conversion: those of its entry, or those before the last write of the table for a slot that began before it (R300, R303). -/
def calFor (l ch : Nat) (cross early : Bool) (s : State) : CalEnt :=
  calOf l ch cross (if early then { s with adc := { s.adc with cal := s.adc.calOld } } else s)

/-- The range of codes of a kind (R293). -/
def codeLo (diff : Bool) : Int := if diff then -8192 else 0
/-- The highest code of a kind. -/
def codeHi (diff : Bool) : Int := if diff then 8191 else 16383

/-- The corrected code (R301). -/
def corrected (k : CalEnt) (r : Int) (diff : Bool) : Int :=
  max (codeLo diff) (min (codeHi diff) (((256 * r - k.ofs) * k.gain + 2 ^ 37) >>> 38))

/-- A raw code of 14 bits as its kind reads it (R293). -/
def rawCode (r : BitVec 14) (diff : Bool) : Int := if diff then r.toInt else r.toNat

/-- The code a channel delivers before alignment: c, or c + 8 192 for a differential channel that is not SIGNED (R297). -/
def delivered (c : Int) (diff sgn : Bool) : Int := if diff && !sgn then c + 8192 else c

/-- ADC_nLASTk and the control-engine port (R297). -/
def lastWord (c : Int) (left sgn : Bool) : BitVec 32 :=
  if left then (BitVec.ofInt 14 c).zeroExtend 32 <<< 18
  else if sgn then BitVec.ofInt 32 c else (BitVec.ofInt 14 c).zeroExtend 32

/-- DATA of a FIFO word (R297). -/
def fifoData (c : Int) (left sgn : Bool) : BitVec 16 :=
  if left then (BitVec.ofInt 14 c).zeroExtend 16 <<< 2
  else if sgn then BitVec.ofInt 16 c else (BitVec.ofInt 14 c).zeroExtend 16

/-- ALIGN and SIGNED for a conversion: the committed ones, or those before the last commit for a slot that started no later than it (R297, R299). -/
def fmtOf (l ch : Nat) (early : Bool) (s : State) : Bool × Bool :=
  let v := s.g2 F.adcChAlign l ch + 2 * s.g2 F.adcChSigned l ch
  let w := if early then Tab.val v s.adc.fmtOld (32 * l + ch) else v
  (w % 2 = 1, w / 2 = 1)

/-! ### Results (R250, R274, R298) -/

/-- The converter's DMA request: COUNT exceeds FTHR (R298). -/
def adcDmaReq (l : Nat) (s : State) : Bool := decide (s.g1 F.adcFstatFthr l < s.g1 F.adcFstatCount l)

/-- When the request of a converter rises is kept: `was`, it stood before (R298, R375). -/
def adcRequest (l : Nat) (was : Bool) (s : State) : State :=
  if adcDmaReq l s && !was then s.modConv l (fun c => { c with reqAt := s.stm.sclk }) else s

/-- Push a FIFO word; a full FIFO drops the result (R298). -/
def fifoPush (l ch m : Nat) (data : BitVec 16) (cald ovr : Bool) (s : State) : State :=
  let q := s.conv l
  if 16 ≤ q.fifo.length then s.p (fovfFam l) 1
  else
    let w := data.toNat * 2 ^ 16 + q.seqn % 256 * 256 + bit cald * 128 + bit ovr * 64 + m * 32 + ch
    adcRequest l (adcDmaReq l s) ((s.modConv l (fun c => { c with fifo := c.fifo ++ [w], seqn := (c.seqn + 1) % 256 })).p1
      F.adcFstatCount l (q.fifo.length + 1))

/-- Why a conversion was made (R294). -/
inductive ConvFor where
  | trig (t : TrigConv)
  | shot
  | hold
deriving DecidableEq, Repr

/-- A result lands: the last result, the string-time machine for channel SIS, the balance window, the fan's zones, then the sample register or the FIFO, then RESULT programs (R41, R250, R274, R297, R298). -/
def land (m l ch : Nat) (why : ConvFor) (raw : BitVec 14) (early calEarly : Bool) : State → State := oneEdge fun s =>
  let d := isDiff l ch s
  let r := rawCode raw d
  let k := calFor l ch (decide (m ≠ l)) calEarly s
  let c := corrected k r d
  let (left, sgn) := fmtOf l ch early s
  let v := delivered c d sgn
  let w := lastWord v left sgn
  let s := (s.p2 F.adcLastValue l ch w.toNat).modAdc (fun a => { a with code := Tab.put 0 a.code (32 * l + ch) c })
  let s := zoneFresh (32 * l + ch) s
  let s := if l = 0 ∧ ch = 13 then sisResult s else s
  let s := if 4 ≤ ch ∧ ch ≤ 11 then balanceSample (4 * l + (ch - 4) / 2) ((ch - 4) % 2) c s else s
  let s := match why with
    | .trig t => ceSample t.prog t.entry w s
    | _ => fifoPush l ch m (fifoData v left sgn) k.cald (decide (r = codeLo d) || decide (r = codeHi d)) s
  ceResult l ch w s

/-- The window gate lets hold conversions through (R296). -/
def gateOpen (l : Nat) (s : State) : Bool := !s.b1 F.adcWctlGate l || s.b1 F.adcWctlOpen l

/-- A calibration command holds back the one-shots and hold of a logical converter (R302). -/
def calHolds (l : Nat) (s : State) : Bool := s.adc.run.any (fun r => r.conv = l)

/-- A conversion of logical converter `l` on physical converter `m` completes: the class R294 gives the slot. `hold`: the hold divider was due. -/
def conversion (m l : Nat) (hold : Bool) (raw : BitVec 14) (early calEarly : Bool) (s : State) : State :=
  if adcServer l s ≠ m ∨ !adcServes m s then s
  else match s.adc.trig.find? (fun t => adcServer t.conv s = m) with
    | some t =>
      if t.conv = l then
        land m l t.ch (.trig t) raw early calEarly (s.modAdc (fun a => { a with trig := a.trig.erase t }))
      else s
    | none =>
      if calHolds l s then s
      else match (s.conv l).shots with
        | ch :: rest =>
          land m l ch .shot raw early calEarly ((s.modConv l (fun c => { c with shots := rest })).p1 F.adcNextQlen l rest.length)
        | [] =>
          if hold && s.b1 F.adcNextHold l && gateOpen l s then land m l (s.g1 F.adcNextCh l) .hold raw early calEarly s else s

/-- A read of ADC_nFIFO (R298). -/
def fifoPop (l : Nat) (s : State) : Code × Nat × State :=
  match (s.conv l).fifo with
  | [] => (.busy, 0, s)
  | w :: rest => (.ok, w, (s.modConv l (fun c => { c with fifo := rest })).p1 F.adcFstatCount l rest.length)

/-! ### Channel selection and windows (R295, R296) -/

/-- ADC_nNEXT with HOLD 0 and HOFF 0 (R295). -/
def nextShot (l ch : Nat) (s : State) : Code × State :=
  let q := (s.conv l).shots
  if 4 ≤ q.length then (.busy, s)
  else (.ok, (s.modConv l (fun c => { c with shots := c.shots ++ [ch] })).p1 F.adcNextQlen l (q.length + 1))

/-- ADC_nNEXT with HOLD 1 (R295). -/
def holdOn (l ch hdiv : Nat) (s : State) : Code × State :=
  (.ok, ((s.p1 F.adcNextCh l ch).p1 F.adcNextHdiv l hdiv).p1 F.adcNextHold l 1)

/-- ADC_nNEXT with HOFF 1 (R295). -/
def holdOff (l : Nat) (s : State) : Code × State := (.ok, s.p1 F.adcNextHold l 0)

/-- A write of ADC_nNEXT (R295). -/
def adcNextW (l v : Nat) (s : State) : Code × State :=
  match v.testBit 8, v.testBit 9 with
  | false, false => nextShot l (v % 32) s
  | true, false => holdOn l (v % 32) (bitsOf v 12 4) s
  | false, true => holdOff l s
  | true, true => (.invalid, s)

/-- Start stamp the registers give. -/
def winStart (l : Nat) (s : State) : Nat := s.g1 F.adcWstcCycle l * 2 ^ 16 + s.g1 F.adcWphStart l
/-- Stop stamp the registers give. -/
def winStop (l : Nat) (s : State) : Nat := s.g1 F.adcWspcCycle l * 2 ^ 16 + s.g1 F.adcWphStop l

/-- The stop stamp does not lie after the start stamp (R39, R296, R319). -/
def emptyWindow (start stop : Nat) : Bool := decide (stop % 2 ^ 48 = start % 2 ^ 48) || stampPast stop start

/-- An armed or open window whose stamp is reached opens or closes (R53, R296). -/
def winFire (l : Nat) (s : State) : State :=
  let now := stampNow s
  let s := if s.b1 F.adcWctlArmed l && stampDue (s.conv l).start now then (s.p1 F.adcWctlArmed l 0).p1 F.adcWctlOpen l 1 else s
  if s.b1 F.adcWctlOpen l && stampDue (s.conv l).stop now then (s.p1 F.adcWctlOpen l 0).p1 F.adcWctlWdone l 1 else s

/-- ARM of a capture window (R54, R296). -/
def winArm (l : Nat) (s : State) : Code × State :=
  if emptyWindow (winStart l s) (winStop l s) then (.emptyWindow, s)
  else if s.b1 F.adcWctlArmed l || s.b1 F.adcWctlOpen l then (.busy, s)
  else
    let late := stampPast (winStart l s) (stampNow s)
    let a := winStart l s
    let z := winStop l s
    let s := (s.p1 F.adcWctlArmed l 1).modConv l (fun c => { c with start := a, stop := z })
    (.ok, winFire l (if late then s.p1 F.adcWctlLate l 1 else s))

/-- STOP of a capture window (R296). -/
def winStopCmd (l : Nat) (s : State) : State :=
  if s.b1 F.adcWctlOpen l then (s.p1 F.adcWctlOpen l 0).p1 F.adcWctlWdone l 1
  else if s.b1 F.adcWctlArmed l then s.p1 F.adcWctlArmed l 0
  else s.sat1 F.adcWctlOrphan l 1

/-- A write of ADC_nWCTL that takes effect: GATE and the flags, then ARM, then STOP (R296). -/
def adcWctlApply (id addr l v : Nat) (s : State) : Code × State :=
  let s := (genWrite id addr (v / 4 * 4) s).2
  let r := if v.testBit 0 then winArm l s else (.ok, s)
  (r.1, if v.testBit 1 then winStopCmd l r.2 else r.2)

/-- A write of ADC_nWCTL (R296): an ARM that is not accepted changes nothing, and a STOP with no window is discarded and counted (log 75). -/
def adcWctlW (id addr l v : Nat) (s : State) : Code × State :=
  let window := s.b1 F.adcWctlArmed l || s.b1 F.adcWctlOpen l
  if v.testBit 0 then
    if emptyWindow (winStart l s) (winStop l s) then (.emptyWindow, s)
    else if window then (.busy, s)
    else adcWctlApply id addr l v s
  else if v.testBit 1 && !window then (.ok, winStopCmd l s)
  else adcWctlApply id addr l v s

/-! ### Calibration (R300 to R303) -/

/-- The NVS address of an entry (R300). -/
def calAddr (e : Nat) : Nat := 0x10021000 + 8 * e

/-- Read one calibration entry from its line, as the converter holds it (R300, R301). -/
def calLoad (e : Nat) (s : State) : State :=
  if lineOk (calAddr e) s then
    let g := s.word (calAddr e + 4)
    if g = 0 then s.modAdc (fun a => { a with cal := Tab.erase a.cal e })
    else
      let k : CalEnt := ⟨(BitVec.ofNat 32 (s.word (calAddr e))).toInt, g, false⟩
      s.modAdc (fun a => { a with cal := Tab.set a.cal e k })
  else (s.modAdc (fun a => { a with cal := Tab.erase a.cal e })).p F.adcStatCalbad 1

/-- The lines a converter reads fail verification one by one as the array reports them (R301, R352). -/
def calLines (base : Nat) (s : State) : State :=
  (List.range 8).foldl (fun t i => (checkLine (calAddr (base + 4 * i)) portAdc t).2) s

/-- A converter finishes reading its 64 entries: its home entries and the cross entries of the other logical converter (R301). -/
def calTableLoaded (m : Nat) (s : State) : State :=
  if !adcPowered m s then s
  else
    let b0 := 32 * m
    let b1 := 64 + 32 * (1 - m)
    let s := calLines b1 (calLines b0 s)
    let s := (List.range 32).foldl (fun t i => calLoad (b1 + i) (calLoad (b0 + i) t)) s
    s.modConv m (fun c => { c with loaded := true })

/-- A calibration command ends with a code: ADC_CAL is raised (R302). -/
def calEnd (c : Code) (s : State) : State :=
  raiseLine lineAdcCal (((s.p F.adcCalstatCode c.num).p F.adcCalstatBusy 0).modAdc (fun a => { a with run := none }))

/-- A calibration command starts, or ends at once (R302). -/
def calStart (cmd v : Nat) (s : State) : Code × State :=
  let conv := bitsOf v 2 1
  let cross := v.testBit 8
  let avg := bitsOf v 9 4
  let m := if cross then 1 - conv else conv
  if s.adc.run.isSome then (.busy, s)
  else if avg < 4 ∨ 12 < avg ∨ cmd = 0 then (.ok, calEnd .invalid s)
  else if !adcServes m s then (.ok, calEnd .busy s)
  else
    let r : CalRun := { cmd := cmd, conv := conv, ch := bitsOf v 3 5, cross := cross, avg := avg }
    (.ok, (s.p F.adcCalstatBusy 1).modAdc (fun a => { a with run := some r }))

/-- A write of ADC_CALCMD (R302): CMD 0 is reserved. -/
def adcCalcmdW (v : Nat) (s : State) : Code × State :=
  match v % 4 with
  | 1 => calStart 1 v s
  | 2 => calStart 2 v s
  | 3 => calStart 3 v s
  | _ =>
    let (c, s) := calStart 0 v s
    (if c = .busy then .busy else .invalid, s)

/-- The mean of 256·r over 2^avg conversions; one that is no whole number goes up or down as the spec leaves open (R302). -/
def calMean (sum : Int) (avg : Nat) (s : State) : Int × State :=
  let n : Int := 2 ^ avg
  let f := Int.fdiv (256 * sum) n
  if f * n = 256 * sum then (f, s)
  else
    let (k, s) := s.draw
    (if Config.adcMeanUp k then f + 1 else f, s)

/-- Division rounded to the nearest whole number, a half upward (R302). -/
def roundDiv (a b : Int) : Int := Int.fdiv (2 * a + b) (2 * b)

/-- Write an entry of the table: its whole line, with zero in the other entries where the line does not verify (R303). -/
def calWrite (r : CalRun) (ofs : Int) (g : Nat) (s : State) : State :=
  let e := calEntry r.conv r.ch r.cross
  let a := calAddr (e / 4 * 4)
  let (ok, s) := checkLine a portAdc s
  let old := if ok then s.byteList a 32 else List.replicate 32 0
  let i := 8 * (e % 4)
  let new := old.take i ++ leBytes 4 (BitVec.ofInt 32 ofs).toNat ++ leBytes 4 g ++ old.drop (i + 8)
  let s := if ok then s else s.p F.adcStatCalbad 1
  let (w, s) := writeLine a new portAdc s
  if w then
    let s := s.modAdc (fun x => { x with calOld := x.cal, cal := Tab.set x.cal e ⟨ofs, g, false⟩ })
    -- the zero entries beside it are uncalibrated (R300)
    let s := if ok then s else
      ((List.range 4).filter (fun j => j ≠ e % 4)).foldl (fun t j =>
        t.modAdc (fun x => { x with cal := Tab.erase x.cal (e / 4 * 4 + j) })) s
    calEnd .ok s
  else calEnd .integrity s

/-- A gain the table takes (R302). -/
def gainOk (g : Int) : Bool := decide (0x20000000 ≤ g) && decide (g ≤ 0x7FFFFFFF)

/-- A calibration command ends: `sum` of its raw codes, `limit` whether one was at a limit of its range (R302, R303). -/
def calDone (sum : Int) (limit : Bool) (s : State) : State :=
  match s.adc.run with
  | none => s
  | some r =>
    let e := calEntry r.conv r.ch r.cross
    if r.cmd = 3 then
      let g := s.g F.adcCalgG
      if gainOk g then calWrite r (BitVec.ofNat 32 (s.g F.adcCalofsOfs)).toInt g s else calEnd .invalid s
    else if limit then calEnd .invalid s
    else
      let (m, s) := calMean sum r.avg s
      if r.cmd = 1 then
        calEnd .ok ((s.p F.adcCalofsOfs (BitVec.ofInt 32 m).toNat).modAdc (fun a => { a with zero := some (e, m) }))
      else
        let ofs := match s.adc.zero with
          | some (z, o) => if z = e then o else (calOf r.conv r.ch r.cross s).ofs
          | none => (calOf r.conv r.ch r.cross s).ofs
        let val := int16 (s.g F.adcCalvalVal)
        let den := m - ofs
        if val ≤ 0 ∨ den = 0 then calEnd .invalid s
        else
          let g := roundDiv (val * 2 ^ 38) den
          if gainOk g then
            calWrite r ofs g.toNat ((s.p F.adcCalofsOfs (BitVec.ofInt 32 ofs).toNat).p F.adcCalgG g.toNat)
          else calEnd .invalid s

/-! ### Failover (R304 to R308) -/

/-- A converter stops serving: the control engine and ADC_FAILOVER learn of it (R305). -/
def adcOut (m : Nat) (s : State) : State := raiseLine lineAdcFailover (ceConverter m false (s.p (okFam m) 0))

/-- A converter returns to service (R307). -/
def adcReturn (m : Nat) (s : State) : State :=
  raiseLine lineAdcFailover (ceConverter m true ((s.p (okFam m) 1).modConv m (fun c => { c with planned := false })))

/-- A self-check of a converter: skipped, or a pair of references with its deviations in codes (R304, R307, R308). -/
def selfCheck (m : Nat) (missed : Bool) (d0 d1 : Nat) (s : State) : State :=
  if !adcPowered m s ∨ !(s.conv m).loaded then s
  else if missed then s.p (missFam m) 1
  else if d0 ≤ s.g F.adcChkTol ∧ d1 ≤ s.g F.adcChkTol then
    let s := s.modConv m (fun c => { c with good := min (c.good + 1) 15, bad := 0 })
    if (s.conv m).planned then adcReturn m s else s
  else s.modConv m (fun c => { c with bad := min (c.bad + 1) 15, good := 0 })

/-- The triggered conversions when converter `m` fails: the survivor's first `kept`, on their way; then the first `lost` of `m`, whose results are discarded, again from their holds; then the rest (R305). -/
def againFirst (m lost kept : Nat) (s : State) : List TrigConv :=
  let mine := (s.adc.trig.filter (fun t => adcServer t.conv s = m)).take lost
  let other := (s.adc.trig.filter (fun t => adcServer t.conv s ≠ m)).take kept
  other ++ mine ++ s.adc.trig.filter (fun t => !(mine ++ other).contains t)

/-- A converter fails its self-check: N consecutive pairs, or a slot without a valid result (R304, R305). -/
def converterFail (m : Nat) (noResult : Bool) (lost kept : Nat) (s : State) : State :=
  if s.b (okFam m) && adcPowered m s && (noResult || decide (s.g F.adcChkN ≤ (s.conv m).bad)) then
    let s := s.modAdc (fun a => { a with trig := againFirst m lost kept s })
    faultEvent srcAdc (adcOut m (s.p (failFam m) 1))
  else s

/-- RESTOREm (R307). -/
def converterRestore (m : Nat) (s : State) : Code × State :=
  if s.b (okFam m) then (.ok, s)
  else if s.g F.adcChkN ≤ (s.conv m).good ∧ !isSevere srcAdc s ∧ adcPowered m s ∧ (s.conv m).loaded then (.ok, adcReturn m s)
  else (.busy, s)

/-- A write of ADC_CTL: each RESTORE bit in turn; BUSY, with nothing changed, where one is refused (R15, R307). -/
def adcCtlW (v : Nat) (s : State) : Code × State :=
  let a := if v.testBit 0 then converterRestore 0 s else (.ok, s)
  let b := if v.testBit 1 then converterRestore 1 a.2 else (.ok, a.2)
  if a.1 = .ok ∧ b.1 = .ok then (.ok, b.2) else (.busy, s)

/-- D5 or D6 is switched off: a planned change (R308). -/
def adcDomainOff (m : Nat) (s : State) : State :=
  let s := if s.b (okFam m) then (adcOut m s).modConv m (fun c => { c with planned := true }) else s
  s.modConv m (fun c => { c with loaded := false, bad := 0, good := 0 })

/-! ### Staging and registers (R299, R310) -/

/-- The check of ADC_COMMIT (R299). -/
def adcCheck (s : State) : Bool :=
  (List.range 2).all (fun l => (List.range 32).all (fun ch => s.sv2 9 F.adcChSigned l ch = 0 || isDiff l ch s))

/-- The formats in force, by 32·CONV + CH. -/
def formats (s : State) : Tab Nat :=
  (List.range 64).foldl (fun t i =>
    Tab.set t i (s.g2 F.adcChAlign (i / 32) (i % 32) + 2 * s.g2 F.adcChSigned (i / 32) (i % 32))) []

/-- A write of ADC_COMMIT (R299). -/
def adcCommit (id : Nat) (s : State) : Code × State :=
  commitWith 9 id adcCheck (fun t => (t.modAdc (fun a => { a with fmtOld := formats t })).applyStage 9) s

/-- Writes of the ADC block. -/
def adcWrite (id addr v : Nat) (s : State) : Code × State :=
  let off := addr % 0x1000
  let l := (off - 0x400) / 0x400
  let r := off % 0x400
  if off = 0x000 then adcCtlW v s
  else if off = 0x004 then if v % 2 = 1 then adcCommit id s else (.ok, s)
  else if off = 0x020 then adcCalcmdW v s
  else if 0x400 ≤ off ∧ off < 0xC00 ∧ r = 0x000 then adcNextW l v s
  else if 0x400 ≤ off ∧ off < 0xC00 ∧ r = 0x00C then
    let (c, t) := genWrite id addr v s
    (c, adcRequest l (adcDmaReq l s) t)
  else if 0x400 ≤ off ∧ off < 0xC00 ∧ r = 0x02C then adcWctlW id addr l v s
  else genWrite id addr v s

/-- Reads of the ADC block. -/
def adcRead (addr : Nat) (s : State) : Code × Nat × State :=
  let off := addr % 0x1000
  if off = 0x408 then fifoPop 0 s else if off = 0x808 then fifoPop 1 s else genRead addr s

end Sys2Proof.Machine
end

