-- ==== Sys2Proof/Machine/Chg.lean ====
section
/-! DEFINITION. The backup cell charger and the power path (R327 to R348). -/

namespace Sys2Proof.Machine

/-- Change the charger's timers. -/
def State.modChg (s : State) (f : Chg → Chg) : State := { s with chg := f s.chg }

/-- The voltages of a chemistry in mV (R327): V_CV, precharge exit, precharge re-entry, overvoltage. -/
def chemV (chem : Nat) : Nat × Nat × Nat × Nat :=
  match chem with
  | 1 => (4100, 3000, 2900, 4200)
  | 2 => (4200, 3000, 2900, 4300)
  | 3 => (3600, 2800, 2700, 3700)
  | _ => (0, 0, 0, 0)

/-- The recharge level V_CV − V_rch in mV (R338, R348). -/
def rechargeMv (s : State) : Nat := (chemV (s.g F.chgCfgChem)).1 - 50 * (s.g F.chgCfgVrch + 1)

/-- Phases of CHG_STAT.PHASE (R348). -/
def phIdle : Nat := 0
/-- PRECHARGE. -/
def phPre : Nat := 1
/-- CC. -/
def phCc : Nat := 2
/-- CV. -/
def phCv : Nat := 3
/-- TOPOFF. -/
def phTop : Nat := 4
/-- DONE. -/
def phDone : Nat := 5
/-- FAULT. -/
def phFault : Nat := 6
/-- SUSPEND. -/
def phSuspend : Nat := 7

/-- A latched bit of CHG_STAT is set: CHG_STAT is raised (R344). -/
def chgLatch (f : Fam) (s : State) : State := raiseLine lineChgStat (s.p f 1)

/-- A phase in which the cell takes charge (R338). -/
def phCharges (p : Nat) : Bool := decide (1 ≤ p) && decide (p ≤ 4)

/-- The phase changes (R338); the regulations are shown only while the charger charges (R340). -/
def setPhase (p : Nat) (s : State) : State :=
  if s.g F.chgStatPhase = p then s
  else
    let done := decide (p = phSuspend) && decide (s.g F.chgStatPhase = phDone)
    let s := if phCharges p then s else (s.p F.chgStatIndpm 0).p F.chgStatTreg 0
    let s := chgLatch F.chgStatPhchg ((s.p F.chgStatPhase p).modChg (fun c => { c with up := 0, low := 0, term := 0, done := done }))
    if p = phDone then chgLatch F.chgStatDone s else s

/-- Every charge timer resets (R337). -/
def resetTimers (s : State) : State := s.modChg (fun _ => {})

/-- A fault flag of the charger stands (R341). -/
def chgFaulted (s : State) : Bool :=
  s.b F.chgFltPretmo || s.b F.chgFltTmo || s.b F.chgFltBatov || s.b F.chgFltNtcopen || s.b F.chgFltNtcshort || s.b F.chgFltHotdis

/-- A fault of the charger: its flag, set or set again, the phase FAULT, and LOCK when it is severe (R341, R343, R344, R426). -/
def chgFault (f : Fam) (s : State) : State :=
  let s := setPhase phFault (raiseLine lineChgStat (s.p f 1))
  let (sev, s) := faultPush srcChg s
  if sev then s.p F.chgCtlLock 1 else s

/-- A condition that stands: it sets its flag when the condition begins, and again once a read has cleared it (R342, R426, log 87). -/
def chgStands (f : Fam) (begins : Bool) (s : State) : State := if s.b f && !begins then s else chgFault f s

/-! ### Path (R331 to R336) -/

/-- The power path moves VSYS to BAT (R333, R454). -/
def pathToBat : State → State := oneEdge fun s =>
  if s.b F.chgStatPath then s
  else
    let ph := s.g F.chgStatPhase
    let s := if 1 ≤ ph ∧ ph ≤ 5 then setPhase phSuspend s else s
    switchStamp (chgLatch F.chgStatPathchg ((s.p F.chgStatPath 1).p F.sysSupstatOnbat 1))

/-- VSYS has fallen below 4.50 V while the path is on VPRE (R88, R333). -/
def supplyWarning (s : State) : State :=
  if s.b F.chgStatPath ∨ s.pow.low then s
  else
    let s := lockoutBegin { s with pow := { s.pow with low := true } }
    let s := if s.b F.chgStatQual then pathToBat s else s
    raiseLine lineSupplyWarn ((s.p F.sysSupstatWarn 1).p F.sysSupstatWarnEv 1)

/-- VPRE has held 4.60 V for 10 ms: the path returns, and the warning and the lockout end (R88, R336, R453). -/
def pathToVpre (s : State) : State :=
  let s := if s.b F.chgStatPath then chgLatch F.chgStatPathchg ((s.p F.chgStatPath 0).p F.sysSupstatOnbat 0) else s
  lockoutEnd ({ s with pow := { s.pow with low := false } }.p F.sysSupstatWarn 0)

/-! ### NTC and presence (R328 to R331) -/

/-- The zone of a pin voltage in mV (R329). -/
def zoneAt (mv : Nat) : Nat :=
  if 1150 < mv then 0 else if 890 ≤ mv then 1 else if 778 ≤ mv then 2 else if 392 ≤ mv then 3
  else if 245 ≤ mv then 4 else if 30 ≤ mv then 5 else 6

/-- The bounds of a zone in mV (R329). -/
def zoneBounds (z : Nat) : Nat × Nat :=
  match z with
  | 0 => (1150, 1000000)
  | 1 => (890, 1150)
  | 2 => (778, 890)
  | 3 => (392, 778)
  | 4 => (245, 392)
  | 5 => (30, 245)
  | _ => (0, 30)

/-- The zone judged with 15 mV of hysteresis (R329). -/
def zoneNext (z mv : Nat) : Nat :=
  let (lo, hi) := zoneBounds z
  if z < 7 ∧ lo ≤ mv + 15 ∧ mv ≤ hi + 15 then z else zoneAt mv

/-- A zone lets the cell carry VSYS (R330). -/
def zoneCarries (z : Nat) : Bool := decide (1 ≤ z) && decide (z ≤ 4)

/-- A zone permits charging (R330). -/
def zoneCharges (z : Nat) : Bool := decide (z = 2) || decide (z = 3)

/-- The 1 ms judgement of NTC and of the cell's qualification (R329 to R331, R333, R335). -/
def ntcJudge (mv : Nat) : State → State := oneEdge fun s =>
  let old := s.g F.chgStatNtcz
  let z := if s.g F.chgCfgChem = 0 then 7 else zoneNext old mv
  let s := s.p F.chgStatNtcz z
  let q := decide (s.g F.chgCfgChem ≠ 0) && s.b F.chgStatPresent && zoneCarries z
  let s := s.p F.chgStatQual (bit q)
  let s := if z = 0 then chgStands F.chgFltNtcopen (old ≠ 0) s else s
  let s := if z = 6 then chgStands F.chgFltNtcshort (old ≠ 6) s else s
  let s := if z = 5 ∧ old ≠ 5 ∧ s.b F.chgStatPath then chgFault F.chgFltHotdis s else s
  if q && s.pow.low then pathToBat s else s

/-- PRESENT changes (R328). -/
def cellPresence (present : Bool) (s : State) : State := s.p F.chgStatPresent (bit present)

/-! ### The tick (R337 to R342) -/

/-- The phase chosen from BAT, as from IDLE (R338). -/
def phaseFrom (bat : Nat) (s : State) : Nat :=
  if bat < (chemV (s.g F.chgCfgChem)).2.1 then phPre else if bat < rechargeMv s then phCc else phCv

/-- Charging begins or resumes: the phase is chosen from BAT; one that was DONE and has fallen below the recharge level starts a recharge (R337, R338, log 77). -/
def chgResume (bat : Nat) (s : State) : State :=
  let again := s.chg.done && decide (bat < rechargeMv s)
  setPhase (phaseFrom bat s) (if again then resetTimers (chgLatch F.chgStatRechg s) else s)

/-- A reduction of the current acts (R339): COOL, input or thermal regulation. -/
def reduced (s : State) : Bool := decide (s.g F.chgStatNtcz = 2) || s.b F.chgStatIndpm || s.b F.chgStatTreg

/-- TFAST has elapsed in CC and CV (R338, R341). -/
def tmoDue (s : State) : Bool := decide (s.g F.chgCfgTfast * 3600000 ≤ s.chg.fast)

/-- One tick of PRECHARGE (R338). -/
def tickPre (bat : Nat) (s : State) : State :=
  let exit := (chemV (s.g F.chgCfgChem)).2.1
  let s := s.modChg (fun c => { c with pre := c.pre + 1, up := if exit ≤ bat then c.up + 1 else 0 })
  if 10 ≤ s.chg.up then setPhase phCc s
  else if 15 * (s.g F.chgCfgTpre + 1) * 60000 ≤ s.chg.pre then chgFault F.chgFltPretmo s
  else s

/-- One tick of CC (R338). -/
def tickCc (bat : Nat) (s : State) : State :=
  let (vcv, _, re, _) := chemV (s.g F.chgCfgChem)
  let s := s.modChg (fun c => { c with fast := c.fast + 1, low := if bat < re then c.low + 1 else 0 })
  if tmoDue s then chgFault F.chgFltTmo s
  else if vcv ≤ bat then setPhase phCv s
  else if 10 ≤ s.chg.low then setPhase phPre s
  else s

/-- One tick of CV (R338, R339). -/
def tickCv (cur : Nat) (s : State) : State :=
  let small := decide (cur < 5 * s.g F.chgCfgIterm) && !reduced s
  let s := s.modChg (fun c => { c with fast := c.fast + 1, term := if small then c.term + 1 else 0 })
  if tmoDue s then chgFault F.chgFltTmo s
  else if 16 ≤ s.chg.term then
    if s.g F.chgCfgTopoff = 0 then setPhase phDone s else setPhase phTop s
  else s

/-- One tick of TOPOFF (R338). -/
def tickTop (s : State) : State :=
  let s := s.modChg (fun c => { c with top := c.top + 1 })
  if s.g F.chgCfgTopoff * 60000 ≤ s.chg.top then setPhase phDone s else s

/-- One tick of DONE (R338). -/
def tickDone (bat : Nat) (s : State) : State :=
  let lvl := rechargeMv s
  let s := s.modChg (fun c => { c with low := if bat < lvl then c.low + 1 else 0 })
  if 10 ≤ s.chg.low then
    let p := if bat < (chemV (s.g F.chgCfgChem)).2.1 then phPre else phCc
    setPhase p (resetTimers (chgLatch F.chgStatRechg s))
  else s

/-- BAT above the overvoltage level for 1 ms, in any phase but IDLE (R341). -/
def tickOv (bat : Nat) (s : State) : State :=
  let ov := (chemV (s.g F.chgCfgChem)).2.2.2
  let s := s.modChg (fun c => { c with ov := if s.g F.chgCfgChem ≠ 0 ∧ ov < bat then c.ov + 1 else 0 })
  if s.g F.chgStatPhase ≠ phIdle ∧ 1 ≤ s.chg.ov then chgStands F.chgFltBatov (s.chg.ov = 1) s else s

/-- CHG_TIME shows the timers in minutes (R348). -/
def chgTime (s : State) : State :=
  let ph := s.g F.chgStatPhase
  let s := s.p F.chgTimeFast ((if ph = phPre then s.chg.pre else s.chg.fast) / 60000)
  s.p F.chgTimeToprem (if ph = phTop then s.g F.chgCfgTopoff - s.chg.top / 60000 else 0)

/-- Faults whose condition still stands are set again once a read has cleared them; NTC is judged while CHEM is not 0b00 (R341, R342). -/
def tickStanding (s : State) : State :=
  let z := if s.g F.chgCfgChem = 0 then 7 else s.g F.chgStatNtcz
  let s := if z = 0 then chgStands F.chgFltNtcopen false s else s
  let s := if z = 6 then chgStands F.chgFltNtcshort false s else s
  if z = 5 ∧ s.b F.chgStatPath then chgStands F.chgFltHotdis false s else s

/-- INDPM and TREG as the two regulations act, in a phase that charges (R340). -/
def showRegulation (indpm treg : Bool) (s : State) : State :=
  if phCharges (s.g F.chgStatPhase) then (s.p F.chgStatIndpm (bit indpm)).p F.chgStatTreg (bit treg) else s

/-- Conditions C1 and C2 (R337). -/
def chgC12 (s : State) : Bool :=
  s.b F.chgCtlEn && !s.b F.chgCtlLock && s.b F.chgStatPresent && decide (s.g F.chgCfgChem ≠ 0)

/-- Conditions C3 to C5 (R337). -/
def chgC345 (s : State) : Bool :=
  !s.b F.chgStatPath && !s.b F.sysSupstatWarn && zoneCharges (s.g F.chgStatNtcz) && !chgFaulted s && !isAsleep s

/-- The charger's 1 ms tick with BAT in mV, the cell current in mA and the two reductions (R337 to R342). -/
def chargerTick (bat cur : Nat) (indpm treg : Bool) : State → State := oneEdge fun s =>
  if !(s.g F.hkrDomstatPg).testBit 15 then s
  else
    let s := tickOv bat (tickStanding (showRegulation indpm treg s))
    let ph := s.g F.chgStatPhase
    let s :=
      if ph = phFault then if chgFaulted s then s else setPhase phIdle (resetTimers s)
      else if !chgC12 s then setPhase phIdle (resetTimers s)
      else if !chgC345 s then setPhase phSuspend s
      else if ph = phIdle ∨ ph = phSuspend then chgResume bat s
      else if ph = phPre then tickPre bat s
      else if ph = phCc then tickCc bat s
      else if ph = phCv then tickCv cur s
      else if ph = phTop then tickTop s
      else tickDone bat s
    chgTime s

/-- D15 is off in sleep: the phase is SUSPEND (R346). -/
def chgSleep (s : State) : State :=
  let ph := s.g F.chgStatPhase
  if 1 ≤ ph ∧ ph ≤ 5 then setPhase phSuspend s else s

/-- The BAT switch opens with D15, where VSYS has fallen through its brown-out threshold with VHV absent (R87, R335). -/
def batOpen (s : State) : State := ((chgSleep s).p F.chgStatPath 0).p F.sysSupstatOnbat 0

/-- What the charger drives into the cell (R338). -/
inductive CellDrive where
  /-- No current. -/
  | none
  /-- A current in mA; while INDPM or TREG acts the cell takes less, by a regulation whose amount the spec does not give (R340). -/
  | current (ma : Nat)
  /-- BAT is held at a voltage in mV. -/
  | voltage (mv : Nat)
deriving DecidableEq, Repr

/-- The programmed current of a phase, halved in the zone COOL; half a milliampere is dropped (R330, R338, R348). -/
def zoneCurrent (ma : Nat) (s : State) : Nat := if s.g F.chgStatNtcz = 2 then ma / 2 else ma

/-- The cell treatment of the phase (R338). -/
def cellDrive (s : State) : CellDrive :=
  match s.g F.chgStatPhase with
  | 1 => .current (zoneCurrent (10 * s.g F.chgCfgIpre) s)
  | 2 => .current (zoneCurrent (25 * s.g F.chgCfgIchg) s)
  | 3 => .voltage (chemV (s.g F.chgCfgChem)).1
  | 4 => .voltage (chemV (s.g F.chgCfgChem)).1
  | _ => .none

/-! ### Registers (R343, R347, R348) -/

/-- A write of CHG_CTL: LOCK clears only while CHG_FLT holds no set bit (R343). -/
def chgCtlW (v : Nat) (s : State) : Code × State :=
  let s := if v.testBit 8 && !chgFaulted s then s.p F.chgCtlLock 0 else s
  (.ok, s.p F.chgCtlEn (v % 2))

/-- The check of CHG_COMMIT (R347, R348). -/
def chgCheck (s : State) : Bool :=
  let v := fun f => s.sv 11 f
  decide (1 ≤ v F.chgCfgIchg) && decide (v F.chgCfgIchg ≤ 20) && decide (1 ≤ v F.chgCfgIpre) &&
    decide (v F.chgCfgIpre ≤ 10) && decide (1 ≤ v F.chgCfgIterm) && decide (v F.chgCfgIterm ≤ 20) &&
    decide (v F.chgCfgTopoff ≤ 60) && decide (v F.chgCfgTfast ≠ 0) &&
    decide (10 * v F.chgCfgIpre ≤ 25 * v F.chgCfgIchg) && decide (5 * v F.chgCfgIterm < 25 * v F.chgCfgIchg) &&
    (decide (v F.chgCfgChem = s.g F.chgCfgChem) || !s.b F.chgCtlEn)

/-- A committed set; with CHEM 0b00 the bias is off and NTCZ reads 7 (R329, R347). -/
def chgApply (s : State) : State :=
  let s := s.applyStage 11
  if s.g F.chgCfgChem = 0 then s.p F.chgStatNtcz 7 else s

/-- A write of CHG_COMMIT (R347). -/
def chgCommit (id : Nat) (s : State) : Code × State := commitWith 11 id chgCheck chgApply s

/-- Writes of the CHG block. -/
def chgWrite (id addr v : Nat) (s : State) : Code × State :=
  let off := addr % 0x1000
  if off = 0x004 then if v % 2 = 1 then chgCommit id s else (.ok, s)
  else if off = 0x008 then chgCtlW v s
  else genWrite id addr v s

end Sys2Proof.Machine
end

