-- ==== Sys2Proof/Machine/DmaReg.lean ====
section
/-! DEFINITION. The DMA registers: ownership, START, ABORT, KICK, RELEASE, events and staging (R365 to R382). -/

namespace Sys2Proof.Machine

/-- Channel `n` behind its registers. -/
def State.chan (s : State) (n : Nat) : DmaChan := Tab.val {} s.dma.chans n

/-- Change channel `n` behind its registers. -/
def State.modChan (s : State) (n : Nat) (f : DmaChan → DmaChan) : State :=
  { s with dma := { s.dma with chans := Tab.put {} s.dma.chans n (f (s.chan n)) } }

/-- Channel states (R365). -/
def dmaIdle : Nat := 0
/-- RUN. -/
def dmaRun : Nat := 1
/-- EMPTY. -/
def dmaEmpty : Nat := 2
/-- ERROR. -/
def dmaError : Nat := 3

/-- The state of channel `n`. -/
def dmaState (n : Nat) (s : State) : Nat := s.g1 F.dmaChStatState n

/-- A channel in RUN or EMPTY is active (R365). -/
def dmaActive (n : Nat) (s : State) : Bool := decide (dmaState n s = dmaRun) || decide (dmaState n s = dmaEmpty)

/-- An initiator owns channel `n` (R366). -/
def dmaOwns (n id : Nat) (s : State) : Bool := s.b1 F.dmaChStatOwnv n && decide (s.g1 F.dmaChStatOwner n = id)

/-- An initiator takes channel `n` (R366). -/
def dmaTake (n id : Nat) (s : State) : State := (s.p1 F.dmaChStatOwner n id).p1 F.dmaChStatOwnv n 1

/-- DMA_EVT bit `n` is set: DMA_Gg (R382). -/
def dmaEvent (n : Nat) (s : State) : State := raiseLine (lineDma n) (s.p F.dmaEvtEvt (s.g F.dmaEvtEvt ||| 2 ^ n))

/-- A channel enters ERROR (R376, R380). -/
def dmaFail (n : Nat) (s : State) : State :=
  let s := dmaEvent n ((s.p1 F.dmaChStatState n dmaError).p F.dmaStatErr 1)
  let s := (s.p F.dmaErrchCh n).p F.dmaErrchId (s.g1 F.dmaChStatOwner n)
  let (sev, s) := faultPush srcDma s
  if sev then s.p F.dmaStatLock 1 else s

/-- LOCK stops the owner of channel `n`: it also owns a channel in ERROR (R380). -/
def dmaLocked (n : Nat) (s : State) : Bool :=
  s.b F.dmaStatLock && (List.range 32).any (fun m => decide (dmaState m s = dmaError) &&
    s.b1 F.dmaChStatOwnv m && decide (s.g1 F.dmaChStatOwner m = s.g1 F.dmaChStatOwner n))

/-- Bytes of a WIDTH encoding (R370). -/
def widthBytes (w : Nat) : Nat := 2 ^ w

/-- A write of DMA_CHn_SRC or DST (R366). -/
def dmaAddressW (id addr n v : Nat) (s : State) : Code × State :=
  if dmaActive n s then (.busy, s)
  else
    let (c, s) := genWrite id addr v s
    (c, dmaTake n id s)

/-- START (R367, R369, R371, R380). -/
def dmaStart (n id : Nat) (s : State) : Code × State :=
  let ring := s.b1 F.dmaChCfgMode n
  let w := widthBytes (s.g1 F.dmaChCfgWidth n)
  if !dmaOwns n id s then (.denied, s)
  else if dmaLocked n s then (.busy, s)
  else if dmaState n s ≠ dmaIdle then (.busy, s)
  else if !ring ∧ (s.g1 F.dmaChCntCnt n = 0 ∨ s.g1 F.dmaChSrcAddr n % w ≠ 0 ∨ s.g1 F.dmaChDstAddr n % w ≠ 0) then (.invalid, s)
  else
    let a := s.g1 F.dmaChSrcAddr n
    let b := s.g1 F.dmaChDstAddr n
    let s := (s.p1 F.dmaChStatState n dmaRun).p1 F.dmaChPosDone n 0
    (.ok, s.modChan n (fun _ => { step := if ring then .fetch0 else .read, src := a, dst := b, since := s.stm.sclk }))

/-- ABORT (R378). -/
def dmaAbort (n : Nat) (s : State) : Code × State :=
  let st := dmaState n s
  if st = dmaRun ∧ (s.chan n).infl then (.ok, s.modChan n (fun c => { c with abort := true }))
  else if st = dmaIdle then (.ok, s)
  else (.ok, (s.p1 F.dmaChStatState n dmaIdle).modChan n (fun _ => {}))

/-- KICK (R367, R373, R380). -/
def dmaKick (n id : Nat) (s : State) : Code × State :=
  let st := dmaState n s
  if !dmaOwns n id s then (.denied, s)
  else if dmaLocked n s then (.busy, s)
  else if st = dmaEmpty then (.ok, (s.p1 F.dmaChStatState n dmaRun).modChan n (fun c => { c with step := .fetch0, since := s.stm.sclk }))
  else if st = dmaRun then (.ok, s.p1 F.dmaChStatKpend n 1)
  else (.busy, s)

/-- RELEASE (R366). -/
def dmaRelease (n id : Nat) (s : State) : Code × State :=
  if !dmaOwns n id s then (.denied, s)
  else if dmaState n s ≠ dmaIdle then (.busy, s)
  else (.ok, (s.restore (fun x => x.fam.s1 = 0x40 && x.fam.addr / 0x1000 = 0x4000D && x.i = n)).modChan n (fun _ => {}))

/-- A write of DMA_CHn_CTL: its commands in bit order, none where one is refused; START with ABORT is INVALID (R15, R378, R381). -/
def dmaCtlW (n id v : Nat) (s : State) : Code × State :=
  let keep := fun (a : Code) (b : Code) => if a = .ok then b else a
  if v.testBit 0 && v.testBit 1 then (.invalid, s)
  else
    let a := if v.testBit 0 then dmaStart n id s else (.ok, s)
    let b := if v.testBit 1 then dmaAbort n a.2 else (.ok, a.2)
    let c := if v.testBit 2 then dmaKick n id b.2 else (.ok, b.2)
    let d := if v.testBit 3 then dmaRelease n id c.2 else (.ok, c.2)
    let code := keep a.1 (keep b.1 (keep c.1 d.1))
    (code, if code = .ok then d.2 else s)

/-- Channel `n` has a staged ring base or size. -/
def dmaStaged (n : Nat) (s : State) : Bool :=
  (Tab.get (s.stage 13).vals (F.dmaChRbaseBase.key n 0)).isSome || (Tab.get (s.stage 13).vals (F.dmaChRsizeSize.key n 0)).isSome

/-- The check of DMA_COMMIT (R382). -/
def dmaCheck (s : State) : Bool :=
  (List.range 32).all (fun n => !dmaStaged n s ||
    (let b := s.sv1 13 F.dmaChRbaseBase n
     let z := s.sv1 13 F.dmaChRsizeSize n
     decide (dmaState n s = dmaIdle) && decide (b % 16 = 0) && decide (b < 0x100000) &&
       decide (b + 16 * z ≤ 0x100000) && decide (2 ≤ z) && decide (z ≤ 256)))

/-- An accepted DMA_COMMIT: HEAD is 0, and a new base takes the channel (R366, R371). -/
def dmaApply (id : Nat) (s : State) : State :=
  let chg := (List.range 32).filter (fun n => dmaStaged n s)
  let based := chg.filter (fun n => (Tab.get (s.stage 13).vals (F.dmaChRbaseBase.key n 0)).isSome)
  let s := chg.foldl (fun t n => t.p1 F.dmaChPosHead n 0) (s.applyStage 13)
  based.foldl (fun t n => dmaTake n id t) s

/-- A write of DMA_COMMIT (R382). -/
def dmaCommit (id : Nat) (s : State) : Code × State := commitWith 13 id dmaCheck (dmaApply id) s

/-- A write of DMA_STAT: LOCK clears only while no channel is in ERROR (R380). -/
def dmaStatW (id addr v : Nat) (s : State) : Code × State :=
  let locked := s.b F.dmaStatLock
  let (c, t) := genWrite id addr v s
  (c, if locked && (List.range 32).any (fun n => dmaState n t = dmaError) then t.p F.dmaStatLock 1 else t)

/-- Writes of the DMA block (R366, R381, R382). -/
def dmaWrite (id addr v : Nat) (s : State) : Code × State :=
  let off := addr % 0x1000
  let n := off / 0x40
  if (fieldsAt addr).isEmpty then (.invalid, s)
  else if off < 0x800 then
    match off % 0x40 with
    | 0x00 => dmaAddressW id addr n v s
    | 0x04 => dmaAddressW id addr n v s
    | 0x08 => if dmaActive n s then (.busy, s) else genWrite id addr v s
    | 0x0C => if dmaActive n s then (.busy, s) else genWrite id addr v s
    | 0x18 => dmaCtlW n id v s
    | _ => genWrite id addr v s
  else if off = 0x800 then if v % 2 = 1 then dmaCommit id s else (.ok, s)
  else if off = 0x804 then dmaStatW id addr v s
  else genWrite id addr v s

end Sys2Proof.Machine
end

