-- ==== Sys2Proof/Machine/Flt.lean ====
section
/-! DEFINITION. The fault block and the SAFE input: sources, ERR_N, the severe bits, the two channels and the registers of FLT (R425 to R441). -/

namespace Sys2Proof.Machine

/-! ### Fault flags of a source (R425) -/

/-- Any of a list of flags is set. -/
def anyFlag (l : List Fam) (s : State) : Bool := l.any (fun f => s.b f)

/-- A fault flag of source `k` is set (R425). -/
def srcFlagged (k : Nat) (s : State) : Bool :=
  match k with
  | 0 => anyFlag [F.stmStatXtLost, F.stmStatHoldExp] s
  | 1 => s.b F.sysSramerrUncorr
  | 2 => s.b F.seqStatFault
  | 3 => anyFlag [F.jnlStatCbOne, F.jnlStatJlost, F.jnlStatEntLost] s
  | 4 => anyFlag [F.slkStatKaloss, F.slkStatMedfail] s
  | 13 => anyFlag [F.ceStatOvrn, F.ceStatSusp] s
  | 14 => anyFlag [F.adcStatFail0, F.adcStatFail1] s
  | 15 => anyFlag [F.hkrRailfltUv, F.hkrRailfltOc, F.hkrRailfltStrap] s ||
      (List.range 8).any (fun n => s.b1 F.hkrHsStatHsoc n || s.b1 F.hkrHsStatHsot n)
  | 16 => anyFlag [F.chgFltPretmo, F.chgFltTmo, F.chgFltBatov, F.chgFltNtcopen, F.chgFltNtcshort, F.chgFltHotdis] s
  | 17 => anyFlag [F.nvsStatInteg, F.nvsStatKeybad] s
  | 18 => s.b F.dmaStatErr
  | 19 => s.b F.otpStatMfail
  | 20 => s.b F.lcsAstatAfail
  | 21 => s.b F.cryStatRngfail
  | 22 => anyFlag [F.fanStatFanStall, F.fanStatTachLost, F.fanStatOc, F.fanStatOt] s
  | 23 => anyFlag [F.fltSafestatDiscrepancy, F.fltStatCarry] s
  | _ => decide (5 ≤ k) && decide (k ≤ 12) && pstFaulted (k - 5) s

/-- FLT_ERRSRC (R440). -/
def errSrc (s : State) : Nat := (List.range 24).foldl (fun w k => w + 2 ^ k * bit (srcFlagged k s)) 0

/-! ### ERR_N (R432) -/

/-- A condition of R432 stands on this edge. -/
def errCond (s : State) : Bool :=
  decide (errSrc s ≠ 0) || s.b F.fltCtlForce || decide (s.pow.phase ≠ .running)

/-- ERR_N is driven low (R432, R433): in sleep it keeps its level, without power it is released. -/
def errLow (s : State) : Bool :=
  if unpowered s then false else s.flt.err2 || s.flt.err3

/-- What the chip drives on ERR_N: open drain, low or nothing (R65, R417, R432). -/
def errPin (s : State) : Option Bool := pinUnder 1 (if errLow s then some false else none) s

/-- The condition's history moves by `n` edges on which it stands as now; a fall of ERR_N is an alert event (R392, R432). -/
def errEdges (n : Nat) (s : State) : State :=
  let c := errCond s
  let was := s.flt.err2 || s.flt.err3
  let f := s.flt
  let t := { s with flt := { f with
    err1 := if n = 0 then f.err1 else c
    err2 := if n = 0 then f.err2 else if n = 1 then f.err1 else c
    err3 := if n = 0 then f.err3 else if n = 1 then f.err2 else if n = 2 then f.err1 else c } }
  if !was && (t.flt.err2 || t.flt.err3) then alertEvent 0 t else t

/-! ### Severe sources (R430) -/

/-- A write of FLT_SEV: each named bit clears when its source has no fault flag set, and its FIFO empties (R430). -/
def fltSevW (v : Nat) (s : State) : Code × State :=
  let e := errSrc s
  let named := fun (k : Nat) => v.testBit k
  let t := (List.range 24).foldl (fun t k =>
    if named k ∧ !e.testBit k then
      ({ t with flt := { t.flt with fifo := Tab.erase t.flt.fifo k } }.p1 F.fltSrcStatDepth k 0).p F.fltSevSev
        (t.g F.fltSevSev &&& (2 ^ 32 - 1 - 2 ^ k))
    else t) s
  (if (List.range 24).any (fun k => named k && (t.g F.fltSevSev).testBit k) then .busy else .ok, t)

/-- A power-down of a domain loses the fault flags of `ks`: CARRY records the lowest (R431). -/
def carryLost (ks : List Nat) (s : State) : State :=
  match (ks.filter (fun k => srcFlagged k s)).min? with
  | some k => faultEvent srcFlt ((s.p F.fltStatCarry 1).p F.fltStatCarrysrc k)
  | none => s

/-! ### The SAFE input (R434 to R439) -/

/-- The channels disagree (R434). -/
def safeDisagree (s : State) : Bool := (!s.flt.pinA) != s.flt.pinB

/-- DISCREPANCY is latched and forces SAFE (R436, R437, R257). -/
def latchDiscrepancy (s : State) : State :=
  let s := { s with flt := { s.flt with disag := none } }
  let s := faultEvent srcFlt (s.p F.fltSafestatDiscrepancy 1)
  raiseLine lineFltSafe (forceSafeAll s)

/-- Microseconds since a disagreement began. -/
def disagTime (t0 : Nat) (s : State) : Nat := (s.g F.fltUstUs + 2 ^ 32 - t0) % 2 ^ 32

/-- A disagreement ends: short ones are counted, one that reached T_disc latches (R436, R439). -/
def endDisagree (s : State) : State :=
  match s.flt.disag with
  | none => s
  | some (t0, td) =>
    if 1000 * td ≤ disagTime t0 s then latchDiscrepancy s
    else raiseLine lineFltSafe (({ s with flt := { s.flt with disag := none } }).sat F.fltSafecntDisag 1)

/-- The discrepancy timer has reached T_disc (R436). -/
def discrepancyDue (s : State) : Bool :=
  match s.flt.disag with
  | some (t0, td) => decide (1000 * td ≤ disagTime t0 s)
  | none => false

/-- A SAFE demand begins, and is recorded with its stamp, or it ends (R439, R441). -/
def demandChange (begins : Bool) (s : State) : State :=
  let s := { s with flt := { s.flt with dem := begins } }
  if begins then
    let s := ((s.p F.fltSafestatDemev 1).sat F.fltSafecntDemcnt 1).p F.fltSafecycCycle (cycleNow s)
    raiseLine lineFltSafe (s.p F.fltSafephPhase (phaseNow s))
  else raiseLine lineFltSafe s

/-- The synchronised levels of both pins: a demand that begins forces SAFE and is recorded; a disagreement begins or ends (R434 to R436, R439). -/
def safePins (a b : Bool) : State → State := oneEdge fun s =>
  let dem := safeDemand s
  let dis := safeDisagree s
  let s := { s with flt := { s.flt with pinA := a, pinB := b } }
  let s :=
    if safeDemand s && !dem then pinDemandAll (demandChange true s)
    else if !safeDemand s && dem then demandChange false s
    else s
  if safeDisagree s && !dis then
    { s with flt := { s.flt with disag := some (s.g F.fltUstUs, s.g F.fltSafecfgTdisc) } }
  else if !safeDisagree s && dis then endDisagree s
  else s

/-- The pins are judged afresh after a deep reset or a wake (R438): a demand that did not stand at the last judgement begins, one that stood then may have ended, a disagreement starts its timer. -/
def safeAfresh (s : State) : State :=
  let d := if safeDisagree s then some (s.g F.fltUstUs, s.g F.fltSafecfgTdisc) else none
  let s := { s with flt := { s.flt with disag := d } }
  let s := if safeDemand s = s.flt.dem then s else demandChange (safeDemand s) s
  if safeDemand s then pinDemandAll s else s

/-- A write of FLT_SAFESTAT: DISCREPANCY clears only while both channels read healthy (R437). -/
def fltSafestatW (id addr v : Nat) (s : State) : Code × State :=
  let d := s.g F.fltSafestatDiscrepancy
  let (c, t) := genWrite id addr v s
  (c, if safeDemand s then t.p F.fltSafestatDiscrepancy d else t)

/-! ### Registers (R440, R441) -/

/-- The source an initiator views (R440). -/
def qselOf (id : Nat) (s : State) : Nat := Tab.val 0 s.flt.qsel id

/-- The FLT interrupt (R440). -/
def fltIrq (s : State) : Bool :=
  decide (s.g F.fltSevSev &&& s.g F.fltIenIen ≠ 0) ||
    (s.b F.fltSafestatDiscrepancy && (s.g F.fltSafeienIen).testBit 0) ||
    (s.b F.fltSafestatDemev && (s.g F.fltSafeienIen).testBit 1)

/-- The reserved sources' registers, which read zero (R425). -/
def fltReserved (addr : Nat) : Bool := decide (0x400104C0 ≤ addr) && decide (addr < 0x40010500) && decide (addr % 4 = 0)

/-- Writes of the FLT block (R430, R437, R440). -/
def fltWrite (id addr v : Nat) (s : State) : Code × State :=
  if addr = F.fltSevSev.addr then fltSevW v s
  else if addr = F.fltSafestatDiscrepancy.addr then fltSafestatW id addr v s
  else if addr = F.fltQselSrc.addr then
    (.ok, { s with flt := { s.flt with qsel := Tab.put 0 s.flt.qsel id (v % 32) } })
  else if fltReserved addr then (.denied, s)
  else genWrite id addr v s

/-- Reads of the FLT block that show a view (R440, R441). -/
def fltRead (id addr : Nat) (s : State) : Code × Nat × State :=
  let off := addr % 0x1000
  if off = 0x000 then (.ok, errSrc s, s)
  else if off = 0x008 then (.ok, regWord addr s + 2 ^ 16 * bit (errLow s), s)
  else if off = 0x800 then (.ok, qselOf id s, s)
  else if fltReserved addr then (.ok, 0, s)
  else if 0x810 ≤ off ∧ off < 0x890 ∧ (fieldsAt addr) ≠ [] then
    match (fifoOf (qselOf id s) s)[(off - 0x810) / 0x10]? with
    | some st => (.ok, (match off % 0x10 with
        | 0x0 => st.us
        | 0x4 => st.cycle
        | _ => st.phase * 2 ^ 16), s)
    | none => (.ok, 0, s)
  else if off = 0xC04 then
    (.ok, bit s.flt.pinA + 2 * bit s.flt.pinB + 4 * bit (!s.flt.pinA) + 8 * bit s.flt.pinB + 16 * bit (safeDemand s)
      + 32 * bit (safeDisagree s) + 2 ^ 8 * s.g F.fltSafestatDiscrepancy + 2 ^ 9 * s.g F.fltSafestatDemev, s)
  else genRead addr s

end Sys2Proof.Machine
end

