-- ==== Sys2Proof/Machine/Hkr.lean ====
section
/-! DEFINITION. Housekeeping rails and load switches (R311 to R326). -/

namespace Sys2Proof.Machine

/-- Change the housekeeping block's state. -/
def State.modHkr (s : State) (f : Hkr → Hkr) : State := { s with hkr := f s.hkr }

/-- Rail `i` behind its registers. -/
def State.rail (s : State) (i : Nat) : Rail := Tab.val {} s.hkr.rails i

/-- Change rail `i` behind its registers. -/
def State.modRail (s : State) (i : Nat) (f : Rail → Rail) : State :=
  s.modHkr (fun h => { h with rails := Tab.put {} h.rails i (f (Tab.val {} h.rails i)) })

/-- Set or clear a bit of a field that holds one bit per item. -/
def setBit (f : Fam) (i : Nat) (on : Bool) (s : State) : State :=
  let v := s.g f
  s.p f (if on then v ||| 2 ^ i else if v.testBit i then v - 2 ^ i else v)

/-- Bit `i` of a field. -/
def getBit (f : Fam) (i : Nat) (s : State) : Bool := (s.g f).testBit i

/-! ### Rails (R311 to R315) -/

/-- The commanded voltage of a rail in mV (R314). -/
def railCommand (i : Nat) (s : State) : Nat :=
  let r := s.rail i
  let d := (s.stm.sclk - r.t0) * r.num / (192 * r.den)
  if r.v0 ≤ r.target then min (r.v0 + d) r.target else max (r.v0 - d) r.target

/-- Rail `i` is in register mode (R312). -/
def railReg (i : Nat) (s : State) : Bool := getBit F.hkrStrapmodeReg i s

/-- Rail `i` has a strap fault (R312). -/
def railStrapFault (i : Nat) (s : State) : Bool := getBit F.hkrStrapmodeSflt i s

/-- A rail begins its ramp from 0 V: to the strap voltage in 400 µs, or to VSET at SR (R314). -/
def railStart (i : Nat) (s : State) : State :=
  let reg := railReg i s
  let v := if reg then s.g1 F.hkrVsetMv i else (s.rail i).strap
  let num := if reg then s.g1 F.hkrSlewSr i else v
  let now := s.stm.sclk
  let s := (setBit F.hkrRailstatOn i true (s.p1 F.hkrEnEn i 1))
  s.modRail i (fun r => { r with v0 := 0, t0 := now, target := v, num := num, den := if reg then 1 else 400, once := false })

/-- PG of a rail changes: HKR_RAIL (R315). -/
def setPg (i : Nat) (on : Bool) (s : State) : State :=
  if getBit F.hkrRailstatPg i s = on then s else raiseLine lineHkrRail (setBit F.hkrRailstatPg i on s)

/-- A rail is switched off and discharged: PG and ON clear (R314). -/
def railStop (i : Nat) (s : State) : State :=
  setPg i false ((setBit F.hkrRailstatOn i false (s.p1 F.hkrEnEn i 0)).modRail i (fun r => { r with
    v0 := 0, target := 0, once := false }))

/-! ### Windows of the load switches (R317 to R319) -/

/-- Fields of slot A (false) or B (true) of a switch. -/
structure SlotF where
  act : Fam
  dfr : Fam
  out : Fam
  armed : Fam
  active : Fam
  stc : Fam
  spc : Fam
  pstart : Fam
  pstop : Fam

/-- The fields of a slot (R326). -/
def slotF (b : Bool) : SlotF :=
  if b then
    ⟨F.hkrHsStatBact, F.hkrHsStatBdef, F.hkrHsStatBout, F.hkrHsBcmdArmed, F.hkrHsBcmdActive,
      F.hkrHsBstcCycle, F.hkrHsBspcCycle, F.hkrHsBphStart, F.hkrHsBphStop⟩
  else
    ⟨F.hkrHsStatAact, F.hkrHsStatAdef, F.hkrHsStatAout, F.hkrHsAcmdArmed, F.hkrHsAcmdActive,
      F.hkrHsAstcCycle, F.hkrHsAspcCycle, F.hkrHsAphStart, F.hkrHsAphStop⟩

/-- The key of a slot's window. -/
def slotKey (n : Nat) (b : Bool) : Nat := 2 * n + bit b

/-- The window a slot holds. -/
def slotWin (n : Nat) (b : Bool) (s : State) : Option SlotWin := Tab.get s.hkr.wins (slotKey n b)

/-- A slot is active. -/
def slotActive (n : Nat) (b : Bool) (s : State) : Bool := s.b1 (slotF b).act n

/-- A slot is deferred. -/
def slotDeferred (n : Nat) (b : Bool) (s : State) : Bool := s.b1 (slotF b).dfr n

/-- A slot is armed, deferred or active. -/
def slotBusy (n : Nat) (b : Bool) (s : State) : Bool := s.b1 (slotF b).armed n || slotActive n b s

/-- HSn is on while ON is 1 or either slot is active (R317). -/
def hsOn (n : Nat) (s : State) : Bool := s.b1 F.hkrHsCtrlOn n || slotActive n false s || slotActive n true s

/-- The gate of HSn follows; the current limit of a switch that is off does not act (R317, R322). -/
def hsGate (n : Nat) (s : State) : State :=
  let on := hsOn n s
  (s.p1 F.hkrHsStatSwon n (bit on)).p1 F.hkrHsStatIlim n (if on then s.g1 F.hkrHsStatIlim n else 0)

/-- A window ends with an outcome: HKR_SLOT (R319). -/
def slotEnd (n : Nat) (b : Bool) (out : Nat) (s : State) : State :=
  let f := slotF b
  let s := ((((s.p1 f.act n 0).p1 f.active n 0).p1 f.dfr n 0).p1 f.armed n 0).p1 f.out n out
  raiseLine lineHkrSlot (hsGate n (s.modHkr (fun h => { h with wins := Tab.erase h.wins (slotKey n b) })))

/-! ### Faults (R323) -/

/-- LOCK of a rail is set and keeps it off (R323, log 76). -/
def railLock (i : Nat) (s : State) : State :=
  let s := s.p1 F.hkrEnLock i 1
  if s.b1 F.hkrEnEn i then railStop i s else s

/-- ON clears and every window of a switch ends cut by a fault (R322). -/
def hsCut (n : Nat) (s : State) : State :=
  let s := s.p1 F.hkrHsCtrlOn n 0
  let s := if slotBusy n false s then slotEnd n false 3 s else s
  let s := if slotBusy n true s then slotEnd n true 3 s else s
  hsGate n s

/-- Source HKR turns severe: every rail and switch with a fault flag set is locked, which keeps it off (R323). -/
def hkrSevere (s : State) : State :=
  let s := (List.range 8).foldl (fun t i =>
    if getBit F.hkrRailfltUv i t || getBit F.hkrRailfltOc i t then railLock i t else t) s
  (List.range 8).foldl (fun t n =>
    if t.b1 F.hkrHsStatHsoc n || t.b1 F.hkrHsStatHsot n then hsCut n (t.p1 F.hkrHsCtrlLock n 1) else t) s

/-- A fault event of source HKR (R323). -/
def hkrFault (s : State) : State :=
  let (sev, s) := faultPush srcHkr s
  if sev then hkrSevere s else s

/-! ### Rail events and writes (R313 to R315) -/

/-- The output has stayed within ±5 % for 20 µs (R315). -/
def railGood (i : Nat) (s : State) : State :=
  if s.b1 F.hkrEnEn i then (setPg i true s).modRail i (fun r => { r with once := true }) else s

/-- The output has stayed outside ±5 % for 20 µs (R315). -/
def railBad (i : Nat) (s : State) : State := setPg i false s

/-- An undervoltage after power good, for 20 µs (R315). -/
def railUv (i : Nat) (s : State) : State :=
  if s.b1 F.hkrEnEn i && (s.rail i).once then
    oneEdge (fun t => hkrFault (raiseLine lineHkrRail (setBit F.hkrRailfltUv i true (railStop i t)))) s
  else s

/-- A current limit that acted for 1 ms (R315). -/
def railOc (i : Nat) (s : State) : State :=
  if s.b1 F.hkrEnEn i then
    oneEdge (fun t => hkrFault (raiseLine lineHkrRail (setBit F.hkrRailfltOc i true (railStop i t)))) s
  else s

/-- The voltages a rail accepts in mV (R313). -/
def vsetOk (i v : Nat) : Bool :=
  if i < 4 then decide (600 ≤ v) && decide (v ≤ 3600) && decide (v % 10 = 0)
  else decide (800 ≤ v) && decide (v ≤ 3300) && decide (v % 25 = 0)

/-- Rail registers are closed to every initiator but BOOT until boot is done (R313). -/
def railClosed (id : Nat) (s : State) : Bool := id ≠ idBoot && !s.b F.sysBootstatDone

/-- A write of HKR_x_VSET (R313, R314). -/
def railVsetW (id i v : Nat) (s : State) : Code × State :=
  let mv := v % 2 ^ 16
  if railClosed id s then (.busy, s)
  else if !railReg i s then (.denied, s)
  else if !vsetOk i mv then (.invalid, s)
  else
    let s := s.p1 F.hkrVsetMv i mv
    if s.b1 F.hkrEnEn i then
      let now := railCommand i s
      let t := s.stm.sclk
      (.ok, s.modRail i (fun r => { r with v0 := now, t0 := t, target := mv, num := s.g1 F.hkrSlewSr i, den := 1 }))
    else (.ok, s)

/-- LOCK of a rail clears while its own fault flags are clear (R323). -/
def railUnlock (i v : Nat) (s : State) : State :=
  if v.testBit 8 && !getBit F.hkrRailfltUv i s && !getBit F.hkrRailfltOc i s then s.p1 F.hkrEnLock i 0 else s

/-- A write of HKR_x_EN (R313, R314). -/
def railEnW (id i v : Nat) (s : State) : Code × State :=
  if railClosed id s then (.busy, s)
  else if v % 2 = 1 then
    if s.b1 F.hkrEnLock i || railStrapFault i s then (.busy, s)
    else if railReg i s && decide (s.g1 F.hkrVsetMv i = 0) then (.invalid, s)
    else (.ok, railUnlock i v (if s.b1 F.hkrEnEn i then s else railStart i s))
  else (.ok, railUnlock i v (if s.b1 F.hkrEnEn i then railStop i s else s))

/-- A write of HKR_x_SLEW (R313): a ramp in register mode goes on at the new rate (R314). -/
def railSlewW (id i v : Nat) (s : State) : Code × State :=
  if railClosed id s then (.busy, s)
  else if v % 256 = 0 then (.invalid, s)
  else
    let now := railCommand i s
    let t := s.stm.sclk
    let s := s.p1 F.hkrSlewSr i (v % 256)
    (.ok, if s.b1 F.hkrEnEn i && railReg i s then
      s.modRail i (fun r => { r with v0 := now, t0 := t, num := v % 256, den := 1 }) else s)

/-! ### Straps (R312) -/

/-- The strap voltage of window `k` in mV: a buck, or an LDO (R312). -/
def strapMv (i k : Nat) : Nat :=
  let bk := [600, 750, 800, 850, 900, 1000, 1100, 1200, 1350, 1500, 1800, 2500, 2800, 3000, 3300, 3600]
  let ld := [800, 900, 1000, 1050, 1100, 1200, 1250, 1500, 1800, 2000, 2500, 2700, 2800, 2850, 3000, 3300]
  ((if i < 4 then bk else ld)[k]?).getD 0

/-- The window a reading falls in (R312): window k spans 20 + 120 k to 100 + 120 k mV. -/
def strapWindow (mv : Nat) : Option Nat := (List.range 16).find? (fun k => 20 + 120 * k ≤ mv ∧ mv ≤ 100 + 120 * k)

/-- One VSEL pin is sampled (R312). -/
def strapSample (i mv : Nat) (s : State) : State :=
  if 2500 ≤ mv then setBit F.hkrStrapmodeReg i true s
  else match strapWindow mv with
    | some k =>
      let v := strapMv i k
      ((s.p (F.hkrStrapwinWin i) k).p1 F.hkrVsetMv i v).modRail i (fun r => { r with strap := v })
    | none => hkrFault (raiseLine lineHkrRail (setBit F.hkrStrapmodeSflt i true (s.p F.hkrRailfltStrap 1)))

/-! ### Load switches (R317 to R322) -/

/-- A slot becomes active (R317, R319). -/
def slotOn (n : Nat) (b : Bool) (s : State) : State :=
  let f := slotF b
  raiseLine lineHkrSlot (hsGate n ((((s.p1 f.act n 1).p1 f.active n 1).p1 f.dfr n 0).p1 f.armed n 0))

/-- A slot is deferred (R320). -/
def slotDefer (n : Nat) (b : Bool) (s : State) : State :=
  raiseLine lineHkrSlot (((s.p1 (slotF b).dfr n 1).p1 (slotF b).armed n 1).p1 F.hkrHsStatSlotDeferred n 1)

/-- Whether a slot's stop stamp is reached. -/
def stopDue (n : Nat) (b : Bool) (s : State) : Bool :=
  (slotWin n b s).any (fun w => w.stop.any (fun t => stampDue t (stampNow s)))

/-- Whether a slot's start stamp is reached. -/
def startDue (n : Nat) (b : Bool) (s : State) : Bool := (slotWin n b s).any (fun w => stampDue w.start (stampNow s))

/-- The close of one slot on an edge: an active one at its stop, or one whose stop passed before it was active (R319 to R321). -/
def slotClose (n : Nat) (b : Bool) (s : State) : State :=
  if stopDue n b s then
    if slotActive n b s then slotEnd n b 1 s
    else if s.b1 (slotF b).armed n && (slotDeferred n b s || startDue n b s) then slotEnd n b 2 s
    else s
  else s

/-- The activation of one slot on an edge, under the policy (R319, R320). -/
def slotOpen (n : Nat) (b : Bool) (s : State) : State :=
  if s.b1 (slotF b).armed n then
    if slotDeferred n b s then if slotActive n (!b) s then s else slotOn n b s
    else if startDue n b s then
      if s.g1 F.hkrHsCtrlPolicy n = 0 ∧ slotActive n (!b) s then slotDefer n b s else slotOn n b s
    else s
  else s

/-- Whether slot B's start comes before slot A's (R320). -/
def bFirst (n : Nat) (s : State) : Bool :=
  match slotWin n false s, slotWin n true s with
  | some a, some b => stampPast b.start a.start
  | _, _ => false

/-- What a switch does on one edge: every close first, then every activation (R321). -/
def hsFire (n : Nat) : State → State := oneEdge fun s =>
  let s := slotClose n true (slotClose n false s)
  if bFirst n s then slotOpen n false (slotOpen n true s) else slotOpen n true (slotOpen n false s)

/-- Two windows intersect; one without a stop extends without end (R320). -/
def windowsMeet (a b : SlotWin) : Bool :=
  let before := fun (t : Nat) (z : Option Nat) => match z with
    | some e => stampPast t e
    | none => true
  before a.start b.stop && before b.start a.stop

/-- Under REJECT, a later request that intersects the other slot's window is refused (R320). -/
def slotRejected (n : Nat) (b : Bool) (w : SlotWin) (s : State) : Bool :=
  decide (s.g1 F.hkrHsCtrlPolicy n = 2) && (slotWin n (!b) s).any (fun o => windowsMeet w o)

/-- A window is armed, and opens if it is due (R319). -/
def slotTake (n : Nat) (b : Bool) (w : SlotWin) (s : State) : State :=
  let late := w.stop.isSome && stampPast w.start (stampNow s)
  let s := (s.p1 (slotF b).armed n 1).modHkr (fun h => { h with wins := Tab.set h.wins (slotKey n b) w })
  hsFire n (if late then s.p1 F.hkrHsStatLate n 1 else s)

/-- ARM of a slot (R319, R320). -/
def slotArm (n : Nat) (b : Bool) (s : State) : Code × State :=
  let f := slotF b
  let a := s.g1 f.stc n * 2 ^ 16 + s.g1 f.pstart n
  let z := s.g1 f.spc n * 2 ^ 16 + s.g1 f.pstop n
  if s.b1 F.hkrHsCtrlLock n || slotBusy n b s then (.busy, s)
  else if emptyWindow a z then (.emptyWindow, s)
  else if slotRejected n b ⟨a, some z⟩ s then (.busy, s)
  else (.ok, slotTake n b ⟨a, some z⟩ s)

/-- NOW of a slot (R319, R320). -/
def slotNow (n : Nat) (b : Bool) (s : State) : Code × State :=
  let w : SlotWin := ⟨stampNow s, none⟩
  if s.b1 F.hkrHsCtrlLock n || slotBusy n b s then (.busy, s)
  else if slotRejected n b w s then (.busy, s)
  else (.ok, slotTake n b w s)

/-- STOP of a slot (R319, R321): an active window closes, an armed one is disarmed, and nothing else is an orphan. -/
def slotStop (n : Nat) (b : Bool) (s : State) : Code × State :=
  if slotActive n b s then (.ok, hsFire n (slotEnd n b 1 s))
  else if s.b1 (slotF b).armed n then (.ok, slotEnd n b 2 s)
  else (.ok, s.sat1 F.hkrHsStatOrphan n 1)

/-- A write of HKR_HSn_xCMD (R319). -/
def slotCmdW (n : Nat) (b : Bool) (v : Nat) (s : State) : Code × State :=
  match v % 8 with
  | 0 => (.ok, s)
  | 1 => oneEdgeOut (slotArm n b) s
  | 2 => oneEdgeOut (slotStop n b) s
  | 4 => oneEdgeOut (slotNow n b) s
  | _ => (.invalid, s)

/-- A write of a window's stamp registers (R326). -/
def slotStampW (id addr n : Nat) (b : Bool) (v : Nat) (s : State) : Code × State :=
  if s.b1 (slotF b).armed n then (.busy, s) else genWrite id addr v s

/-- A write of HKR_HSn_CTRL (R318, R320, R323). -/
def hsCtrlW (n v : Nat) (s : State) : Code × State :=
  let pol := bitsOf v 2 2
  let on := v.testBit 0
  if pol ≠ s.g1 F.hkrHsCtrlPolicy n ∧ pol ≠ 3 ∧ (slotBusy n false s ∨ slotBusy n true s) then (.busy, s)
  else if on && s.b1 F.hkrHsCtrlLock n then (.busy, s)
  else
    let s := if v.testBit 8 && !s.b1 F.hkrHsStatHsoc n && !s.b1 F.hkrHsStatHsot n then s.p1 F.hkrHsCtrlLock n 0 else s
    let s := (s.p1 F.hkrHsCtrlOn n (bit on)).p1 F.hkrHsCtrlIen n (bitsOf v 12 1)
    let s := if pol = 3 then s else s.p1 F.hkrHsCtrlPolicy n pol
    (Code.unless .invalid (pol ≠ 3), hsGate n s)

/-- A switch fault: ON clears, every window of the switch ends with OUT 0b11, HKR_SLOT is raised (R322). -/
def switchFault (f : Fam) (n : Nat) : State → State :=
  oneEdge fun s => hkrFault (raiseLine lineHkrSlot (hsCut n (s.p1 f n 1)))

/-- The current limit of a switch that is on: STAT.ILIM reads 1 while it acts, which is no fault, and after 100 µs of it the switch turns off (R322). -/
def switchLimit (n : Nat) (e : LimitEvent) (s : State) : State :=
  if !s.b1 F.hkrHsStatSwon n then s
  else match e with
    | .acts => s.p1 F.hkrHsStatIlim n 1
    | .ends => s.p1 F.hkrHsStatIlim n 0
    | .held => switchFault F.hkrHsStatHsoc n s

/-- The level at which LSnA or LSnB is driven: true pulled low (R317). -/
def lsPulled (n : Nat) (b : Bool) (s : State) : Bool := slotActive n b s

/-- What the chip drives on LSnA or LSnB: open drain, low or nothing (R65, R317, R417). -/
def lsPin (n : Nat) (b : Bool) (s : State) : Option Bool :=
  pinUnder (27 + 2 * n + bit b) (if lsPulled n b s then some false else none) s

/-- Every reset kind turns the switches off and disarms their windows (R324). -/
def hsReset (s : State) : State := s.modHkr (fun h => { h with wins := [] })

/-- A register of a switch or a slot (R326). -/
def hsField (x : Fld) : Bool := decide (0x4000A400 ≤ x.key / 32) && decide (x.key / 32 < 0x4000A600)

/-- Without VSYS every rail and every switch is off and the load-slot selects are released (R65, R87). -/
def hkrOff (s : State) : State := (hsReset ((List.range 8).foldl (fun t i => railStop i t) s)).restore hsField

/-! ### Registers (R325, R326) -/

/-- Writes of the HKR block below the domain controls. -/
def hkrWrite (id addr v : Nat) (s : State) : Code × State :=
  let off := addr % 0x1000
  if (fieldsAt addr).isEmpty then (.invalid, s)
  else if off < 0x080 then
    let i := off / 0x10
    match off % 0x10 with
    | 0x0 => railVsetW id i v s
    | 0x4 => railEnW id i v s
    | _ => railSlewW id i v s
  else if off < 0x094 ∧ railClosed id s then (.busy, s)
  else if 0x400 ≤ off ∧ off < 0x600 then
    let n := (off - 0x400) / 0x40
    let b := 0x20 ≤ off % 0x40
    match off % 0x40 with
    | 0x00 => hsCtrlW n v s
    | 0x04 => genWrite id addr v s
    | 0x1C => slotCmdW n b v s
    | 0x2C => slotCmdW n b v s
    | _ => slotStampW id addr n b v s
  else genWrite id addr v s

end Sys2Proof.Machine
end

