-- ==== Sys2Proof/Machine/Pins.lean ====
section
/-! DEFINITION. The GP pins, the general timers and the SYS registers (R70 to R74, R104, R105, R108, R481, R482, R493, R494). -/

namespace Sys2Proof.Machine

/-! ### GP pins (R70 to R74) -/

/-- Whether a function encoding is defined for pin `n` (R70). -/
def gpFuncOk (n f : Nat) : Bool :=
  match f with
  | 1 => decide (n % 12 < 5)
  | 3 => decide (6 ≤ n % 12) && decide (n % 12 ≤ 8)
  | _ => true

/-- The timer behind function TMn of pin `n` (R70). -/
def gpTimer (n : Nat) : Nat := if n < 12 then n % 8 else (n - 8) % 8

/-- The pin selects a line of the second two-wire port. -/
def gpIsTwb2 (n f : Nat) : Bool := f = 3 && (n % 12 = 6 || n % 12 = 7)

/-- The precedence of a requested function: higher ranks win (R74). -/
def gpRank (n f : Nat) : Nat :=
  match f with
  | 1 => if n % 12 = 0 then 4 else if n % 12 ≤ 2 then 3 else 2
  | 2 => 1
  | _ => 0

/-- The writer holds resource (own, held) of index `n`. -/
def holds (own held : Fam) (n id : Nat) (s : State) : Bool := s.b1 held n && decide (s.g1 own n = id)

/-- The claim a function needs of its writer is missing (R72, R481). -/
def gpNeedsClaim (n f id : Nat) (s : State) : Bool :=
  (gpIsTwb2 n f && !holds F.twb2OwnOwner F.twb2OwnHeld 0 id s) ||
    (decide (f = 2) && !holds F.tmrOwnOwner F.tmrOwnHeld (gpTimer n) id s)

/-- The fields of SYS_GPn take their written values, held by `id` (R71). -/
def gpTake (n id v : Nat) (s : State) : State :=
  let s := ((s.p1 F.sysGpFunc n (v % 4)).p1 F.sysGpPull n (v / 4 % 4)).p1 F.sysGpOe n (v / 16 % 2)
  let s := ((s.p1 F.sysGpOut n (v / 32 % 2)).p1 F.sysGpOd n (v / 64 % 2)).p1 F.sysGpSel n (v / 256 % 8)
  (s.p1 F.sysGpOwner n id).p1 F.sysGpHeld n 1

/-- A release of pin `n`: every field at its reset value (R71). -/
def gpRelease (n : Nat) (s : State) : State :=
  s.restore (fun x => x.fam.addr = F.sysGpFunc.addr && x.i = n)

/-- A write of SYS_GPn (R71, R72, R481). -/
def gpWrite (n id v : Nat) (s : State) : Code × State :=
  let f := v % 4
  if !gpFuncOk n f || v / 4 % 4 = 3 then (.invalid, s)
  else if s.b1 F.sysGpHeld n ∧ s.g1 F.sysGpOwner n ≠ id then (.busy, s)
  else if v.testBit 16 then
    if gpNeedsClaim n f id s then (.notClaimed, s) else (.ok, gpTake n id v s)
  else if s.b1 F.sysGpHeld n then (.ok, gpRelease n s)
  else (.notClaimed, s)

/-- DRV_EN (R70). -/
def drvEn (s : State) : Bool :=
  (List.range 8).any (fun x => pstMode x s ≠ 0) && !safeDemand s &&
    (s.pow.phase = .running || s.pow.phase = .unreleased || s.pow.phase = .booting)

/-- The switching clock of input `x`: high from the start of phase 0's period, for a part of it that the spec does not give (R70, R240, log 106). -/
def phsync (x : Nat) (s : State) : Bool :=
  let p := s.pin x
  decide (16 * (s.stm.sclk - p.start) < 1 + Config.phsyncHigh p.per0 % (p.per0 - 1))

/-- What pin `n`'s function drives on it; none where it drives nothing (R70, R71, R73, R481). -/
def gpDriven (n : Nat) (s : State) : Option Bool :=
  match s.g1 F.sysGpFunc n with
  | 0 =>
    if s.b1 F.sysGpOe n && !(s.b1 F.sysGpOd n && s.b1 F.sysGpOut n) then some (s.b1 F.sysGpOut n) else none
  | 1 =>
    match n % 12 with
    | 0 => some (drvEn s)
    | 1 => some (phsync (s.g1 F.sysGpSel n) s)
    | 3 => some (s.link.car.tx.isSome || s.link.pr.tx.isSome)
    | 4 => some (s.link.car.rx.isSome || s.link.pr.rx.isSome)
    | _ => none
  | 2 =>
    let t := gpTimer n
    if !holds F.tmrOwnOwner F.tmrOwnHeld t (s.g1 F.sysGpOwner n) s then some false
    else if s.g1 F.tmrCfgMode t = 1 then some (decide (s.g1 F.tmrCntCnt t < s.g1 F.tmrCmpCmp t))
    else none
  | _ => none

/-- What the chip drives on pin `n`; none where it drives nothing, and the level is the board's, or the pull's where the board leaves the pin open (R65, R417). -/
def gpLevel (n : Nat) (s : State) : Option Bool := pinUnder (3 + n) (gpDriven n s) s

/-- A read of SYS_GPn: IN is the pin's level, free where the chip does not drive it (R71, log 20). -/
def gpRead (n addr : Nat) (s : State) : Code × Nat × State :=
  match gpLevel n s with
  | some b => (.ok, regWord addr s + 128 * bit b, s)
  | none =>
    let (k, s) := s.draw
    (.ok, regWord addr s + 128 * bit (Config.gpLevel k), s)

/-- The inputs whose OVP_EXT a pin carries are named by its SEL (R70). -/
def ovpPin (x : Nat) (s : State) : Bool :=
  [2, 14].any (fun n => s.g1 F.sysGpFunc n = 1 && s.g1 F.sysGpSel n = x)

/-! ### Timers (R482, R493, R494) -/

/-- A release of timer `n`: every field at its reset value (R493). -/
def tmrRelinquish (n : Nat) (s : State) : State :=
  s.restore (fun x => x.fam.addr / 0x1000 = 0x40015 && x.i = n)

/-- A write of TMR_nOWN (R482). -/
def tmrOwnW (id n v : Nat) (s : State) : Code × State :=
  ownWrite F.tmrOwnOwner F.tmrOwnHeld n id v (tmrRelinquish n) s

/-- A write of TMR_nCFG: CLK and MODE do not change while EN is 1 (R493). -/
def tmrCfgW (n v : Nat) (s : State) : Code × State :=
  let clk := v / 2 % 2
  let mode := v / 4 % 4
  let change := decide (clk ≠ s.g1 F.tmrCfgClk n) || decide (mode ≠ s.g1 F.tmrCfgMode n)
  if s.b1 F.tmrCfgEn n && change then (.busy, s)
  else (.ok, ((s.p1 F.tmrCfgEn n (v % 2)).p1 F.tmrCfgClk n clk).p1 F.tmrCfgMode n mode)

/-- Writes of the TMR block (R482, R493). -/
def tmrWrite (id addr v : Nat) (s : State) : Code × State :=
  let n := addr % 0x1000 / 0x40
  if (fieldsAt addr).isEmpty then (.invalid, s)
  else if addr % 0x40 = 0 then tmrOwnW id n v s
  else match claimCheck F.tmrOwnOwner F.tmrOwnHeld n id s with
    | .ok => if addr % 0x40 = 4 then tmrCfgW n v s else genWrite id addr v s
    | c => (c, s)

/-- Timer `n` passes TOP and wraps to 0 (R493). -/
def timerWrap (n : Nat) (s : State) : State :=
  if s.b1 F.tmrCfgEn n ∧ s.g1 F.tmrCntCnt n = s.g1 F.tmrTopTop n then
    tmrFlags n (decide (s.g1 F.tmrCmpCmp n = 0)) true (s.p1 F.tmrCntCnt n 0)
  else s

/-- Timer `n`'s count equals CMP (R493). -/
def timerCompare (n : Nat) (s : State) : State :=
  if s.b1 F.tmrCfgEn n ∧ s.g1 F.tmrCntCnt n = s.g1 F.tmrCmpCmp n then tmrFlags n true false s else s

/-- A pin held by the timer's holder selects the timer (R70, R481). -/
def tmrPinned (n : Nat) (s : State) : Bool :=
  (List.range 24).any (fun p => s.g1 F.sysGpFunc p = 2 && gpTimer p = n && s.b1 F.tmrOwnHeld n &&
    s.g1 F.sysGpOwner p = s.g1 F.tmrOwnOwner n)

/-- An edge on a timer's pin: the selected one captures the count (R493). -/
def timerCapture (n : Nat) (rising : Bool) (s : State) : State :=
  if tmrPinned n s ∧ s.g1 F.tmrCfgMode n = (if rising then 2 else 3) then
    let s := s.p1 F.tmrCapCap n (s.g1 F.tmrCntCnt n)
    let s := if s.b1 F.tmrStatCapf n then s.p1 F.tmrStatCapovr n 1 else s
    raiseLine (lineTm n) (s.p1 F.tmrStatCapf n 1)
  else s

/-! ### SYS registers (R104, R105, R108) -/

/-- A write of SYS_RSTREQ (R104). -/
def rstreqW (v : Nat) (s : State) : Code × State :=
  if v % 2 ^ 16 = 0xB007 then (.ok, { s with pow := { s.pow with swr := true } }) else (.invalid, s)

/-- A write of SYS_WDTSVC (R105). -/
def wdtsvcW (v : Nat) (s : State) : Code × State :=
  if v % 2 ^ 32 = 0xC35A then (.ok, { s with pow := { s.pow with wdt := 0 } }) else (.invalid, s)

/-- A write of SYS_WDTCTL: the count that a watchdog just enabled goes on from is open, below TIMEOUT (R105, log 31). -/
def wdtctlW (id addr v : Nat) (s : State) : Code × State :=
  let was := s.b F.sysWdtctlEn
  let (c, s) := genWrite id addr v s
  if s.b F.sysWdtctlEn && !was then
    let (k, s) := s.draw
    (c, { s with pow := { s.pow with wdt := (Config.wdtCount k).toNat % (192000 * s.g F.sysWdtctlTimeout) } })
  else (c, s)

/-- The number of the GP pin whose register lies at an address. -/
def gpOfAddr (addr : Nat) : Option Nat :=
  let off := addr % 0x1000
  if 0x100 ≤ off ∧ off < 0x160 ∧ off % 4 = 0 then some ((off - 0x100) / 4) else none

/-- Writes of the SYS block (R71, R104, R105). -/
def sysWrite (id addr v : Nat) (s : State) : Code × State :=
  match gpOfAddr addr with
  | some n => gpWrite n id v s
  | none =>
    if addr = F.sysRstreqKey.addr then rstreqW v s
    else if addr = F.sysWdtsvcSvc.addr then wdtsvcW v s
    else if addr = F.sysWdtctlEn.addr then wdtctlW id addr v s
    else genWrite id addr v s

/-- Reads of the SYS block. -/
def sysRead (addr : Nat) (s : State) : Code × Nat × State :=
  match gpOfAddr addr with
  | some n => gpRead n addr s
  | none => genRead addr s

/-! ### SRAM errors (R130, R131) -/

/-- An INTEGRITY completion of an SRAM access (R131). -/
def sramUncorr (id addr : Nat) (s : State) : State :=
  let s := ((s.p F.sysSramerrUncorr 1).sat F.sysSramerrUcnt 1).p F.sysSramaddrWord (addr / 8)
  faultEvent srcSys (s.p F.sysSramaddrId id)

/-- A single-bit error corrected (R130, R131). -/
def sramCorr (addr : Nat) (s : State) : State :=
  { ((s.p F.sysSramerrCorr 1).sat F.sysSramerrCcnt 1) with sramOne := NSet.del s.sramOne (addr / 8) }

end Sys2Proof.Machine
end

