-- ==== Sys2Proof/Machine/Sec.lean ====
section
/-! DEFINITION. Fuses, life cycle and security: the OTP array, program commands, transitions, authenticated commands, the TAP, CRY and its keys, the TRNG (R402 to R424). -/

namespace Sys2Proof.Machine

/-- Change the security block behind its registers. -/
def State.modSec (s : State) (f : Sec → Sec) : State := { s with sec := f s.sec }

/-! ### The OTP array (R95, R403 to R406) -/

/-- OTP word `w` as it reads at MARGIN_LO. -/
def otpLo (w : Nat) (s : State) : Nat := Tab.val 0 s.sec.lo w

/-- OTP word `w` as it reads at MARGIN_HI. -/
def otpHi (w : Nat) (s : State) : Nat := Tab.val 0 s.sec.hi w

/-- Word `w` is weak (R95). -/
def otpWeak (w : Nat) (s : State) : Bool := decide (otpLo w s ≠ otpHi w s)

/-- The number of bits set among the low `n` of a number. -/
def popBits : Nat → Nat → Nat
  | 0, _ => 0
  | n + 1, v => v % 2 + popBits n (v / 2)

/-- Burned bits are added to word `w`, at each margin; a burned bit never returns to 0 (R403). -/
def otpBurn (w lo hi : Nat) (s : State) : State :=
  s.modSec (fun x => { x with
    lo := Tab.put 0 x.lo w (Tab.val 0 x.lo w ||| lo)
    hi := Tab.put 0 x.hi w (Tab.val 0 x.hi w ||| hi) })

/-- The bytes of `n` words from word `w`, in address order, as used where no word is weak. -/
def otpBytes (w n : Nat) (s : State) : List (BitVec 8) := (List.range n).flatMap (fun i => leBytes 4 (otpLo (w + i) s))

/-- Words `w` to `w + n − 1` hold no weak word. -/
def otpSound (w n : Nat) (s : State) : Bool := (List.range n).all (fun i => !otpWeak (w + i) s)

/-- The device identity (R403), of words as they read at MARGIN_LO; a weak one has no row in R95, and the model reads it at MARGIN_LO too (log 90). -/
def deviceId (s : State) : List (BitVec 8) := otpBytes 0 2 s

/-- A field of the key status word is set: 4 of its 8 bits read 1 (R404). -/
def keyField (i : Nat) (s : State) : Bool := decide (4 ≤ popBits 8 (otpLo 0x208 s / 2 ^ (8 * i)))

/-- The life-cycle state: the index of the highest set LC word (R404, R405). -/
def lcDecode (s : State) : Nat :=
  (List.range 4).foldl (fun m k => if 16 ≤ popBits 32 (otpLo (0x600 + k) s) then k + 1 else m) 0

/-- The anti-rollback count: one more than the highest bit that reads 1 (R404). -/
def rbCount (s : State) : Nat :=
  (List.range 256).foldl (fun m b => if (otpLo (0x410 + b / 32) s).testBit (b % 32) then b + 1 else m) 0

/-- The customer configuration word; a weak one counts as unburned (R95). -/
def otpConfig (s : State) : Nat := if otpWeak 0x400 s then 0 else otpLo 0x400 s

/-- The image-key hash is burned: any of its bits reads 1 (R404). -/
def hashBurned (s : State) : Bool := (List.range 8).any (fun i => otpLo (0x408 + i) s ≠ 0)

/-- A key of four words at `w` with valid field `v` and destroyed field `d` is usable (R404). -/
def keyUsable (w v d : Nat) (s : State) : Bool :=
  keyField v s && !keyField d s && otpSound w 4 s && !otpWeak 0x208 s

/-- A read of word `w` through the readable window: zero in the key rows; the differing bits of a weak word are free (R27, R403, log 19). -/
def otpWindow (w : Nat) (s : State) : Nat × State :=
  if 0x200 ≤ w ∧ w < 0x400 then (0, s)
  else if otpWeak w s then
    let (k, s) := s.draw
    (otpHi w s ||| (otpLo w s &&& (Config.otpBits k).toNat), s)
  else (otpLo w s, s)

/-- A fault event of source OTP: MFAIL and the offset; a severe one sets VLOCK, KLOCK, CLOCK and RBLOCK (R406, R408, R422). -/
def otpFault (w : Nat) (s : State) : State :=
  let s := (s.p F.otpStatMfail 1).p F.otpMfaddrOfs (4 * w)
  let (sev, s) := faultPush srcOtp s
  if sev then s.p F.otpLockLocks (s.g F.otpLockLocks ||| 0xF) else s

/-- The words sensed at step 4 of R92: vendor trim, life cycle, customer configuration. -/
def senseEarly (w : Nat) : Bool := (decide (2 ≤ w) && decide (w < 0x1F8)) || w = 0x400 || (decide (0x600 ≤ w) && decide (w < 0x604))

/-- Sensing of the words a test selects: each weak word counts, and the lowest found since the reset is recorded (R95, R406). -/
def senseWords (sel : Nat → Bool) (s : State) : State :=
  match (List.range 2048).filter (fun w => sel w && otpWeak w s) with
  | [] => s
  | w :: t =>
    let low := if s.b F.sysBootstatOtpweak then min w (s.g F.otpMfaddrOfs / 4) else w
    otpFault low (((s.p F.otpWeakCount (s.g F.otpWeakCount + t.length + 1)).p F.sysBootstatOtpweak 1))

/-- KEYBAD follows the NVS root; setting it is a fault event of source NVS (R351, R363). -/
def nvsKey (s : State) : State :=
  if s.sec.root.isSome then s.p F.nvsStatKeybad 0
  else
    let (sev, s) := faultPush srcNvs (s.p F.nvsStatKeybad 1)
    if sev then s.p F.nvsStatWlock 1 else s

/-- A word of the TRNG (log 18). -/
def rngWord (s : State) : Nat × State :=
  let (k, s) := s.draw
  ((Config.rngWord k).toNat, s)

/-- A fresh nonce (R415). -/
def freshNonce (s : State) : State :=
  (List.range 4).foldl (fun t k =>
    let (v, t) := rngWord t
    t.p1 F.lcsNonceNonce k v) s

/-- Sensing at step 7: the remaining rows, the keys derived from them, the NVS key and the nonce (R92, R404, R406, R415). -/
def senseLate (s : State) : State :=
  let s := senseWords (fun w => !senseEarly w) s
  let dev := if keyUsable 0x204 1 3 s then some (beNum (otpBytes 0x204 4 s)) else none
  let root := if keyUsable 0x200 0 2 s then some (beNum (otpBytes 0x200 4 s)) else none
  freshNonce (nvsKey (s.modSec (fun x => { x with dev := dev, root := root })))

/-! ### Program commands (R407 to R412) -/

/-- Check 1 of R407 on the word: outside the reserved and life-cycle rows. -/
def rowOk (w : Nat) : Bool :=
  decide (w ≤ 0x208) || w = 0x400 || (decide (0x408 ≤ w) && decide (w < 0x600))

/-- Check 2 of R407: the key rows. -/
def keyRowOk (w req : Nat) (trng : Bool) (s : State) : Bool :=
  if 0x200 ≤ w ∧ w < 0x204 then trng && !keyField 0 s
  else if 0x204 ≤ w ∧ w < 0x208 then !trng && !keyField 1 s
  else if w = 0x208 then decide (req < 2 ^ 16)
  else true

/-- The requested bits lie in the vendor region: vendor rows, NVS root, NVSV (R409, R410). -/
def reqVendor (w req : Nat) : Bool := decide (w < 0x204) || (w = 0x208 && decide (req % 256 ≠ 0))

/-- The requested bits touch the device key or DKV. -/
def reqKey (w req : Nat) : Bool := (decide (0x204 ≤ w) && decide (w < 0x208)) || (w = 0x208 && decide (req / 256 ≠ 0))

/-- The word lies in the anti-rollback thermometer. -/
def reqRb (w : Nat) : Bool := decide (0x410 ≤ w) && decide (w < 0x418)

/-- The count a direct anti-rollback program would reach. -/
def reqRbTop (w req : Nat) : Nat :=
  (List.range 32).foldl (fun m b => if req.testBit b then 32 * (w - 0x410) + b + 1 else m) 0

/-- Check 3 of R407: the state permits a direct program of the region (R409). -/
def stateAllows (w req : Nat) (s : State) : Bool :=
  let st := s.g F.lcsStateState
  if reqVendor w req then decide (st = 0) && !reqKey w req
  else if reqRb w then decide (st = 1) || (decide (st = 2) && decide (reqRbTop w req ≤ s.g F.lcsRbrunRbver))
  else decide (st = 1)

/-- Check 4 of R407: the lock of the region (R410). -/
def regionLocked (w req : Nat) (s : State) : Bool :=
  let l := s.g F.otpLockLocks
  if reqVendor w req then l.testBit 0
  else if reqKey w req then l.testBit 1
  else if reqRb w then l.testBit 3
  else l.testBit 2

/-- Check 5 of R407: an OTP, LCS or mailbox command runs, or the supply warns. -/
def secBusy (s : State) : Bool := s.sec.cmd.isSome || s.b F.sysSupstatWarn

/-- The command starts (R407). -/
def startProgram (w req : Nat) (mail : Bool) (rb : Option Nat) (s : State) : State :=
  (s.p F.otpStatBusy 1).modSec (fun x => { x with cmd := some (.program w req mail rb) })

/-- A write of OTP_PCMD (R407). -/
def pcmdW (v : Nat) (s : State) : Code × State :=
  let trng := v.testBit 0
  let ofs := s.g F.otpPaddrOfs
  let w := ofs / 4
  let (req, s) := if trng && !s.sec.rngOut then rngWord s else (s.g F.otpPdataData, s)
  if v / 2 ^ 16 % 2 ^ 16 ≠ 0x0B17 ∨ ofs % 4 ≠ 0 ∨ !rowOk w ∨ (req = 0 ∧ !(trng && s.sec.rngOut)) then (.invalid, s)
  else if !keyRowOk w req trng s then (.invalid, s)
  else if !stateAllows w req s then (.lifecycle, s)
  else if regionLocked w req s then (.denied, s)
  else if secBusy s || (trng && s.sec.rngOut) then (.busy, s)
  else (.ok, startProgram w req false none s)

/-- A write of OTP_RBADV (R412). -/
def rbadvW (v : Nat) (s : State) : Code × State :=
  let n := v % 512
  let st := s.g F.lcsStateState
  let w := 0x410 + (n - 1) / 32
  if n = 0 ∨ 256 < n then (.invalid, s)
  else if n ≤ s.g F.lcsRbcntCount then (.ok, s)
  else if st = 2 ∧ s.g F.lcsRbrunRbver < n then (.denied, s)
  else if st ≠ 1 ∧ st ≠ 2 then (.lifecycle, s)
  else if (s.g F.otpLockLocks).testBit 3 then (.denied, s)
  else if secBusy s then (.busy, s)
  else (.ok, startProgram w (2 ^ ((n - 1) % 32)) false (some n) s)

/-- A mailbox command ends: its code, a fresh nonce (R415, R416). -/
def mailEnd (c : Code) (s : State) : State :=
  freshNonce ((s.p F.lcsAstatBusy 0).p F.lcsAstatCode c.num)

/-- The burn rounds of a program command end. `failLo`, `failHi`: the requested bits that still read 0 at each margin after the last round (R408). -/
def burnDone (failLo failHi : Nat) (s : State) : State :=
  match s.sec.cmd with
  | some (.program w req mail rb) =>
    let lo := req &&& (2 ^ 32 - 1 - failLo % 2 ^ 32)
    let hi := lo &&& (2 ^ 32 - 1 - failHi % 2 ^ 32)
    let s := otpBurn w lo hi s
    let ok := decide (otpHi w s &&& req = req)
    let s := ((s.p F.otpStatBusy 0).modSec (fun x => { x with cmd := none })).p F.otpStatCode
      (if ok then 0 else Code.num .integrity)
    let s := if ok then (match rb with
        | some n => s.p F.lcsRbcntCount n
        | none => s) else otpFault w s
    let s := if mail then mailEnd (if ok then .ok else .integrity) s else s
    raiseLine lineCryDone s
  | _ => s

/-! ### Transitions (R413, R414) -/

/-- Each target's precondition (R413). -/
def transPre (target : Nat) (s : State) : Bool :=
  match target with
  | 1 => s.sec.root.isSome && (deviceId s).any (fun b => b ≠ 0)
  | 2 => s.sec.dev.isSome && hashBurned s
  | _ => true

/-- A transition starts (R414). -/
def startTransition (target : Nat) (mail : Bool) (s : State) : State :=
  (s.p F.lcsStateBusy 1).modSec (fun x => { x with cmd := some (.transition target mail) })

/-- A write of LCS_CMD (R410, R413). -/
def lcsCmdW (id v : Nat) (s : State) : Code × State :=
  let t := v % 8
  let st := s.g F.lcsStateState
  if v / 2 ^ 16 % 2 ^ 16 ≠ 0x1CE5 then (.invalid, s)
  else if (s.g F.otpLockLocks).testBit 4 then (.denied, s)
  else if t ≤ st ∨ 4 < t then (.invalid, s)
  else if st = 0 ∧ t ≠ 1 ∧ t ≠ 4 then (.invalid, s)
  else if st = 0 ∧ id ≠ idDebug then (.denied, s)
  else if 2 ≤ st then (.denied, s)
  else if !transPre t s then (.invalid, s)
  else if secBusy s then (.busy, s)
  else (.ok, startTransition t false s)

/-- A burn of word `w` within a transition: all of `req`, or only free bits of it when it is the burn that fails (R408, log 19). -/
def transBurn (fail : Option Nat) (p : Bool × State) (e : Nat × Nat) : Bool × State :=
  if !p.1 then p
  else if fail = some e.1 then
    let (k, s) := p.2.draw
    let (j, s) := s.draw
    let lo := e.2 &&& (Config.otpBits k).toNat
    (false, otpFault e.1 (otpBurn e.1 lo (lo &&& (Config.otpBits j).toNat) s))
  else (true, otpBurn e.1 e.2 e.2 p.2)

/-- The rows step 2 scans (R414). -/
def scanRow (target w : Nat) : Bool :=
  decide (w < 0x200) || (decide (target < 3) && decide (0x200 ≤ w) && decide (w ≤ 0x208)) || w = 0x400 ||
    (decide (0x408 ≤ w) && decide (w < 0x600))

/-- Step 3: every key slot is cleared, KEYBAD is set, and the keys are destroyed (R414). -/
def dropKeys (s : State) : State :=
  let s := s.modSec (fun x => { x with dev := none, root := none, keys := [], linkKeys := [] })
  let s := (List.range 4).foldl (fun t k => t.p (F.crySlotstatOwner k) 0) s
  nvsKey ((s.p F.crySlotstatLoaded 0).p F.slkCmctlKeymap 0)

/-- The burns of step 3 in order: NVSD and DKD, then both keys whole. -/
def destroyWords : List (Nat × Nat) := (0x208, 0xFFFF0000) :: (List.range 8).map (fun i => (0x200 + i, 0xFFFFFFFF))

/-- A transition ends. `fail`: the word whose burn fails, if one does (R414). -/
def transitionEnd (fail : Option Nat) (s : State) : State :=
  match s.sec.cmd with
  | some (.transition target mail) =>
    let lower := (((List.range 4).filter (fun k => k + 1 < target ∧ 16 ≤ popBits 32 (otpLo (0x600 + k) s))).map
      (fun k => (0x600 + k, 0xFFFFFFFF)))
    let (ok, s) := lower.foldl (transBurn fail) (true, s)
    let (ok, s) := if !ok then (false, s) else
      match (List.range 2048).find? (fun w => scanRow target w && otpWeak w s) with
      | some w => (false, otpFault w s)
      | none => (true, s)
    let (ok, s) := if !ok || target < 3 then (ok, s) else destroyWords.foldl (transBurn fail) (true, dropKeys s)
    let (ok, s) := if !ok then (false, s) else transBurn fail (true, s) (0x600 + target - 1, 0xFFFFFFFF)
    let s := ((s.p F.lcsStateBusy 0).modSec (fun x => { x with cmd := none })).p F.lcsStateCode
      (if ok then 0 else Code.num .integrity)
    let s := if mail then mailEnd (if ok then .ok else .integrity) s else s
    if ok then { s with pow := { s.pow with lcr := true } } else raiseLine lineCryDone s
  | _ => s

/-! ### Authenticated commands (R415, R416) -/

/-- The state admits an operation of the mailbox (R415). -/
def opAdmitted (op arg : Nat) (s : State) : Bool :=
  let st := s.g F.lcsStateState
  match op with
  | 1 => decide (st = 2)
  | 2 => (decide (st = 2) && (arg = 3 || arg = 4)) || (decide (st = 3) && arg = 4)
  | 3 => decide (st = 3)
  | _ => false

/-- The signing key is the image key; otherwise the vendor key (R413, R415). -/
def byImageKey (op : Nat) (s : State) : Bool := op = 1 || (op = 2 && s.g F.lcsStateState = 2)

/-- First word of the reference hash. -/
def refHash (op : Nat) (s : State) : Nat := if byImageKey op s then 0x408 else 0x1F8

/-- Bytes of sixteen registers, in address order (R152, R415). -/
def regBytes (f : Fam) (n : Nat) (s : State) : List (BitVec 8) := (List.range n).flatMap (fun k => leBytes 4 (s.g1 f k))

/-- The signed message (R415). -/
def mailMessage (s : State) : List (BitVec 8) :=
  deviceId s ++ regBytes F.lcsNonceNonce 4 s ++
    leBytes 4 (s.g F.lcsAcmdOp + 256 * s.g F.lcsAcmdArg) ++ leBytes 4 (s.g F.lcsAaddrAddr) ++ leBytes 4 (s.g F.lcsAdataData)

/-- Check 4 of R416: the public key against the reference hash, and the signature. -/
def mailVerifies (op : Nat) (s : State) : Bool :=
  let pub := regBytes F.lcsApubWord 16 s
  let sg := regBytes F.lcsAsigWord 16 s
  decide (sha256 pub = otpBytes (refHash op s) 8 s) &&
    ecdsaVerify (beNum (sha256 (mailMessage s))) (beNum (pub.take 32)) (beNum (pub.drop 32)) (beNum (sg.take 32)) (beNum (sg.drop 32))

/-- AFAIL, and the severe action of source LCS (R416, R422). -/
def mailFail (s : State) : State :=
  let (sev, s) := faultPush srcLcs (s.p F.lcsAstatAfail 1)
  let s := if sev then s.p F.otpLockLocks (s.g F.otpLockLocks ||| 0x40) else s
  mailEnd .denied s

/-- A verified PROGRAM (R407, R415): checks 1, 2 and 5 on a customer row or the thermometer. -/
def mailProgram (s : State) : State :=
  let a := s.g F.lcsAaddrAddr
  let w := a / 4
  let req := s.g F.lcsAdataData
  if a % 4 ≠ 0 ∨ !rowOk w ∨ req = 0 ∨ !keyRowOk w req false s then mailEnd .invalid s
  else if reqVendor w req then mailEnd .lifecycle s
  else startProgram w req true none (s.p F.lcsAstatBusy 1)

/-- A verified TRANSITION (R413, R415). -/
def mailTransition (s : State) : State :=
  let t := s.g F.lcsAcmdArg
  if t ≤ s.g F.lcsStateState ∨ 4 < t ∨ !transPre t s then mailEnd .invalid s
  else startTransition t true (s.p F.lcsAstatBusy 1)

/-- A verified ANALYSIS (R415). -/
def mailAnalysis (s : State) : State := mailEnd .ok (s.modSec (fun x => { x with analysis := true }))

/-- A write of 1 to LCS_AGO: checks 1 to 3 fail it at once, and so does a withheld nonce or a mailbox command that still runs; the verification and what follows it go to LCS_ASTAT.CODE (R416, R420, log 60). -/
def lcsAgoW (s : State) : Code × State :=
  let op := s.g F.lcsAcmdOp
  let h := refHash op s
  if (s.g F.otpLockLocks).testBit 6 then (.denied, s)
  else if !opAdmitted op (s.g F.lcsAcmdArg) s then (.lifecycle, s)
  else if (List.range 8).all (fun i => otpLo (h + i) s = 0) || !otpSound h 8 s then (.integrity, s)
  else if s.sec.rngOut || s.b F.lcsAstatBusy then (.busy, s)
  else if !mailVerifies op s then (.ok, mailFail s)
  else if secBusy s then (.ok, mailEnd .busy s)
  else (.ok, match op with
    | 1 => mailProgram s
    | 2 => mailTransition s
    | _ => mailAnalysis s)

/-! ### The TAP (R417) -/

/-- The debug path is open in the state the chip decoded (R96, R411, R417). -/
def debugOpen (s : State) : Bool :=
  match s.g F.lcsStateState with
  | 0 => s.b F.sysBootstatStep
  | 1 => !(s.g F.otpLockLocks).testBit 5 && !(otpConfig s).testBit 8
  | _ => false

/-- VTEST is permitted (R415, R417). -/
def vtestOpen (s : State) : Bool :=
  (s.g F.lcsStateState = 0 && s.b F.sysBootstatStep) || (s.g F.lcsStateState = 3 && s.sec.analysis)

/-- Load a TAP instruction; a gated one selects the bypass register (R417). -/
def tapLoad (i : TapInst) (s : State) : State :=
  let ok := match i with
    | .debug => debugOpen s
    | .vtest => vtestOpen s
    | _ => true
  s.modSec (fun x => { x with tap := if ok then i else .bypass })

/-- EXTEST: every input to OFF as a hardware change of mode, and BYP high, before the boundary register takes the pins (R417). -/
def tapExtest (s : State) : State :=
  let s := if (List.range 8).any (fun x => pstMode x s ≠ 0) then
      oneEdge (fun t => ((List.range 8).foldl (fun u x => pstTripOff x u) t).p F.pstBypByp 1) s else s
  tapLoad .extest s

/-- SAMPLE/PRELOAD: the boundary register takes the pins, whose order the spec does not give, or a shifted-in value (R417, log 23). -/
def tapSample (preload : Option Nat) (s : State) : State :=
  let s := tapLoad .sample s
  match preload with
  | some v => s.modSec (fun x => { x with bsr := v })
  | none =>
    let (k, s) := s.draw
    s.modSec (fun x => { x with bsr := Config.boundary k })

/-- The identification register (R417). -/
def idcodeWord : Nat := 0x208165CB

/-! ### CRY (R418 to R420, R424) -/

/-- A user key slot is loaded by another ID (R419). -/
def slotForeign (k id : Nat) (s : State) : Bool :=
  (s.g F.crySlotstatLoaded).testBit k && decide (s.g (F.crySlotstatOwner k) ≠ id)

/-- Load a user key slot (R419, R424). -/
def slotLoad (k id key : Nat) (s : State) : State :=
  ((s.p F.crySlotstatLoaded (s.g F.crySlotstatLoaded ||| 2 ^ k)).p (F.crySlotstatOwner k) id).modSec
    (fun x => { x with keys := Tab.set x.keys k key })

/-- Clear a user key slot (R424). -/
def slotClear (k : Nat) (s : State) : State :=
  ((s.p F.crySlotstatLoaded (s.g F.crySlotstatLoaded &&& (15 - 2 ^ k))).p (F.crySlotstatOwner k) 0).modSec
    (fun x => { x with keys := Tab.erase x.keys k })

/-- The judgement of a START (R419). -/
def cryJudge (op k id len : Nat) (s : State) : Code :=
  if s.b F.cryStatBusy then .busy
  else if op = 0 ∨ 6 < op ∨ (op = 2 ∧ len % 16 ≠ 0) then .invalid
  else if (op = 2 ∨ op = 3 ∨ op = 5) ∧ slotForeign k id s then .denied
  else if (op = 2 ∨ op = 3) ∧ !(s.g F.crySlotstatLoaded).testBit k then .invalid
  else if op = 5 ∧ s.sec.dev.isNone then .integrity
  else if op = 6 ∧ s.sec.rngOut then .busy
  else .ok

/-- A write of CRY_CMD (R418, R419): a START that is accepted runs with the operands in force. -/
def cryCmdW (id v : Nat) (s : State) : Code × State :=
  let op := v % 16
  let k := v / 16 % 4
  if !v.testBit 31 then (.ok, (s.p F.cryCmdOp op).p F.cryCmdKsel k)
  else match cryJudge op k id (s.g F.cryLenLen) s with
    | .ok =>
      let c : CryCmd := {
        op := op, ksel := k, id := id, src := s.g F.crySrcAddr, dst := s.g F.cryDstAddr, len := s.g F.cryLenLen }
      (.ok, (((s.p F.cryCmdOp op).p F.cryCmdKsel k).p F.cryStatBusy 1).modSec (fun x => { x with cry := some c }))
    | c => (c, s)

/-- CRY_KEYLD.LOAD (R424). -/
def keyLoad (id k : Nat) (s : State) : Code × State :=
  if slotForeign k id s then (.denied, s)
  else
    let key := beNum (regBytes F.cryKeyWord 4 s)
    let s := slotLoad k id key s
    (.ok, (List.range 4).foldl (fun t i => t.p1 F.cryKeyWord i 0) s)

/-- CRY_KEYLD.CLR (R424). -/
def keyClear (id k : Nat) (s : State) : Code × State :=
  if slotForeign k id s then (.denied, s) else (.ok, slotClear k s)

/-- A write of CRY_KEYLD: LOAD, then CLR (R424). -/
def keyldW (id v : Nat) (s : State) : Code × State :=
  let k := v % 4
  let (c, s) := if v.testBit 8 then keyLoad id k s else (Code.ok, s)
  if v.testBit 9 then
    let (d, s) := keyClear id k s
    (if c = .ok then d else c, s)
  else (c, s)

/-- A TRNG health test fails (R420, R422). -/
def rngFail (s : State) : State :=
  (faultPush srcCry ((s.p F.cryStatRngfail 1).modSec (fun x => { x with rngOut := true }))).2

/-- The start-up test passes after RNGFAIL is cleared (R420). -/
def rngPass (s : State) : State :=
  if s.b F.cryStatRngfail then s else s.modSec (fun x => { x with rngOut := false })

/-! ### Registers (R423, R424) -/

/-- Writes of the OTP and LCS block (R407, R412, R413, R416). -/
def otpWrite (id addr v : Nat) (s : State) : Code × State :=
  if addr = F.otpPdataData.addr then (.ok, s.p F.otpPdataData v)
  else if addr = F.otpPcmdKey.addr then pcmdW v s
  else if addr = F.otpRbadvN.addr then rbadvW v s
  else if addr = F.lcsCmdKey.addr then lcsCmdW id v s
  else if addr = F.lcsAgoGo.addr then (if v.testBit 0 then lcsAgoW s else (.ok, s))
  else genWrite id addr v s

/-- Reads of the OTP and LCS block: the nonce reads zero while TRNG output is withheld (R420). -/
def otpRead (addr : Nat) (s : State) : Code × Nat × State :=
  if 0x4000FC00 ≤ addr ∧ addr < 0x4000FC10 ∧ s.sec.rngOut then (if addr % 4 = 0 then .ok else .invalid, 0, s)
  else genRead addr s

/-- Writes of the CRY block (R419, R424). -/
def cryWrite (id addr v : Nat) (s : State) : Code × State :=
  if addr = F.cryCmdOp.addr then cryCmdW id v s
  else if 0x40014020 ≤ addr ∧ addr < 0x40014030 ∧ addr % 4 = 0 then (.ok, s.p1 F.cryKeyWord ((addr - 0x40014020) / 4) v)
  else if addr = F.cryKeyldSlot.addr then keyldW id v s
  else genWrite id addr v s

end Sys2Proof.Machine
end

