-- ==== Sys2Proof/Machine/Slk.lean ====
section
/-! DEFINITION. The string link: frames, reception, the transmit queue, commissioning, capture and its registers (R202 to R236). -/

namespace Sys2Proof.Machine

/-! ### Frames (R206, R207) -/

/-- A frame as received or sent. -/
structure Frame where
  dtype : Nat
  ver : Nat
  daddr : Nat
  r2 : Nat
  src : Nat
  ftype : Nat
  seq : Nat
  r9 : Nat
  len : Nat
  payload : List (BitVec 8)
  mac : List (BitVec 8)
  crc : Nat
deriving DecidableEq, Repr

/-- The fields of the bytes after the sync (R206). -/
def parseFrame (bs : List (BitVec 8)) : Frame :=
  let w0 := ofBe (bs.take 2)
  let w1 := ofBe ((bs.drop 2).take 2)
  let l := ofBe ((bs.drop 9).take 1)
  let len := l % 64
  { dtype := w0 / 2 ^ 14, ver := w0 / 2 ^ 12 % 4, daddr := w0 % 2 ^ 12, r2 := w1 / 2 ^ 12, src := w1 % 2 ^ 12
    ftype := ofBe ((bs.drop 4).take 1), seq := ofBe ((bs.drop 5).take 4), r9 := l / 64, len := len
    payload := (bs.drop 10).take len, mac := (bs.drop (10 + len)).take 8, crc := ofBe ((bs.drop (18 + len)).take 2) }

/-- Header and payload bytes of a frame to send. -/
def frameBody (dtype daddr src ftype seq : Nat) (p : List (BitVec 8)) : List (BitVec 8) :=
  beBytes 2 (dtype * 2 ^ 14 + daddr) ++ beBytes 2 src ++ beBytes 1 ftype ++ beBytes 4 seq ++ beBytes 1 p.length ++ p

/-- The MAC of header and payload under a key (R207). -/
def frameMac (key strid : Nat) (body : List (BitVec 8)) : List (BitVec 8) := (cmac key (beBytes 2 strid ++ body)).take 8

/-- A key derived from the device key: KD_MAC from 1, KD_ENC from 2 (R211). -/
def kd (i : Nat) (s : State) : Option Nat :=
  s.sec.dev.map (fun k => beNum (aes (bytes16 k) (BitVec.ofNat 8 i :: List.replicate 15 0)))

/-- The key a frame is verified or sent under (R211). -/
def frameKey (dtype ftype : Nat) (s : State) : Option Nat :=
  if dtype = 3 then kd 1 s
  else if 128 ≤ ftype then Tab.get s.sec.linkKeys 3
  else Tab.get s.sec.linkKeys dtype

/-- The bytes of a queued frame on the air (R206, R207). -/
def wireBytes (f : TxFrame) (s : State) : List (BitVec 8) :=
  let src := if f.dtype = 3 then 0 else s.g F.slkAddrAddr
  let strid := if f.dtype = 3 then 0 else s.g F.slkGwStrid
  let body := frameBody f.dtype f.daddr src f.ftype f.seq f.payload
  let body := body ++ (match frameKey f.dtype f.ftype s with
    | some k => frameMac k strid body
    | none => List.replicate 8 0)
  body ++ beBytes 2 (crc16 body)

/-! ### The signal on a medium (R203, R204) -/

/-- The low `n` bits of a word, the most significant first. -/
def msbBits (n w : Nat) : List Bool := (List.range n).map (fun i => w.testBit (n - 1 - i))

/-- The bits of a frame on the pair: preamble, sync word, and its bytes, each from its most significant bit (R204). -/
def pairBits (bs : List (BitVec 8)) : List Bool :=
  msbBits 32 0xAAAAAAAA ++ msbBits 16 0xB38F ++ bs.flatMap (fun b => msbBits 8 b.toNat)

/-- The line levels of a frame on the pair by half bits: a 1 goes from low to high at mid-bit (R204). -/
def pairLine (bs : List (BitVec 8)) : List Bool := (pairBits bs).flatMap (fun b => [!b, b])

/-- A symbol of the carrier: an up-chirp at a phase in quarter turns, or a down-chirp (R203). -/
inductive Chirp where
  | up (phase : Nat)
  | down
deriving DecidableEq, Repr

/-- The phase advance of a dibit in quarter turns (R203). -/
def dibitTurn (d : Nat) : Nat :=
  match d with
  | 0 => 0
  | 1 => 1
  | 3 => 2
  | _ => 3

/-- Data symbols, each keyed against the one before (R203). -/
def chirps : Nat → List Nat → List Chirp
  | _, [] => []
  | p, d :: ds => let q := (p + dibitTurn d) % 4; .up q :: chirps q ds

/-- The symbols of a frame on the carrier: eight up-chirps at one phase, two down-chirps, and the dibits of its bytes from the most significant (R203). -/
def carrierSymbols (bs : List (BitVec 8)) : List Chirp :=
  List.replicate 8 (.up 0) ++ List.replicate 2 .down ++
    chirps 0 (bs.flatMap (fun b => [b.toNat / 64 % 4, b.toNat / 16 % 4, b.toNat / 4 % 4, b.toNat % 4]))

/-- What the node drives on SP_A and SP_B in half bit `n` of its transmission; none while its driver is off (R204). -/
def pairLevel (n : Nat) (s : State) : Option Bool :=
  s.link.pr.tx.bind (fun f => (pairLine (wireBytes f s))[n]?)

/-- What the node sends on PLC_TX in symbol `n` of its transmission; none while it sends nothing (R83, R203). -/
def carrierSymbol (n : Nat) (s : State) : Option Chirp :=
  s.link.car.tx.bind (fun f => (carrierSymbols (wireBytes f s))[n]?)

/-- FTYPE is defined and fits the DTYPE (R215). -/
def typeFits (ft dt : Nat) : Bool :=
  if ft = 0x01 then dt = 2
  else if ft = 0x02 ∨ ft = 0x82 then decide (dt < 3)
  else if ft = 0x03 ∨ ft = 0x83 then dt = 0
  else if ft = 0x04 ∨ ft = 0x05 ∨ ft = 0x06 then dt = 3
  else ((decide (0x10 ≤ ft) && decide (ft ≤ 0x3F)) || (decide (0x90 ≤ ft) && decide (ft ≤ 0xBF))) && decide (dt < 3)

/-- Check 2 of R209. -/
def formatOk (f : Frame) : Bool :=
  f.ver = 0 && f.r2 = 0 && f.r9 = 0 && decide (f.len ≤ 48) && typeFits f.ftype f.dtype &&
    (decide (f.ftype ≠ 0x02 ∧ f.ftype ≠ 0x82) || decide (2 ≤ f.len)) &&
    (decide (f.ftype ≠ 0x01) || (decide (f.len = 8) && decide (ofBe (f.payload.take 4) % 4 = 0)))

/-! ### Sequence windows (R213, R233) -/

/-- Number the window family: gateway, peer, commissioner. -/
def winFam (f : Frame) : Nat := if f.dtype = 3 then 2 else if 128 ≤ f.ftype then 1 else 0

/-- The window of a sender after it accepts a SEQ; none where it refuses (R213). -/
def windowAccept (fam src seq : Nat) (ws : List Window) : Option (List Window) :=
  match ws.find? (fun w => w.fam = fam ∧ w.src = src) with
  | none => if 64 ≤ ws.length then none else some (ws ++ [⟨fam, src, seq, 1⟩])
  | some w =>
    let put := fun (w' : Window) => ws.map (fun x => if x.fam = fam ∧ x.src = src then w' else x)
    if w.high < seq then
      let d := seq - w.high
      some (put { w with high := seq, bitmap := if d < 64 then (w.bitmap * 2 ^ d + 1) % 2 ^ 64 else 1 })
    else
      let d := w.high - seq
      if 64 ≤ d ∨ w.bitmap.testBit d then none
      else some (put { w with bitmap := w.bitmap + 2 ^ d })

/-- The stored form of a window; an empty record stands for none (R233, log 25). -/
def windowBytes (w : Window) : List (BitVec 8) := leBytes 4 w.high ++ leBytes 8 w.bitmap

/-- Write the window of a family to its ring record (R213, R233). -/
def storeWindow (fam : Nat) (s : State) : State :=
  let (base, rid) := if fam = 0 then (0x10020A00, 0x0A00) else (0x10020B00, 0x0B00)
  match s.link.wins.find? (fun w => w.fam = fam && (fam ≠ 0 || w.src = s.g F.slkGwGwaddr)) with
  | some w => (ringUpdate base rid 8 (windowBytes w) portLink s).2
  | none => (ringUpdate base rid 8 [] portLink s).2

/-- A window read back from its record (R213, R360). -/
def loadWindow (fam src base rid : Nat) (s : State) : List Window :=
  match newestSlot base rid 8 s with
  | some (i, _) =>
    let a := base + 32 * i
    if s.word (a + 4) / 2 ^ 16 % 256 < 12 then []
    else [⟨fam, src, s.word (a + 8), s.bytesLE (a + 12) 8⟩]
  | none => []

/-! ### Judgement of a received frame (R208, R209) -/

/-- What a frame comes to. -/
inductive Verdict where
  /-- Dropped: the counter, if one counts it, and SLK_RXSTAT.LAST. -/
  | drop (cnt : Option Fam) (last : Nat)
  | pass (f : Frame)
deriving DecidableEq, Repr

/-- The device identity as a frame carries it, most significant byte first like every multi-byte field of a frame (R206, R208, log 102). -/
def frameIdentity (s : State) : List (BitVec 8) := (deviceId s).reverse

/-- Check 3: the destination (R208). -/
def destOk (f : Frame) (s : State) : Bool :=
  match f.dtype with
  | 0 => s.b F.slkAddrValid && decide (f.daddr = s.g F.slkAddrAddr)
  | 1 => (List.range 8).any (fun k => s.b1 F.slkGrpValid k && s.g1 F.slkGrpGroup k = f.daddr)
  | 2 => true
  | _ => decide (f.payload.take 8 = frameIdentity s)

/-- Checks 1 to 8 of R209, with whether check 6 was passed. A frame whose bytes end before the length LEN implies fails check 1; one with LEN above 48 is abandoned at its header. -/
def judgeFrame (bs : List (BitVec 8)) (s : State) : Verdict × Bool :=
  let f := parseFrame bs
  if 10 ≤ bs.length ∧ 48 < f.len then (.drop (some F.slkErrcnt0Fmt) 2, false)
  else if bs.length ≠ 20 + f.len ∨ f.crc ≠ crc16 (bs.take (18 + f.len)) then (.drop (some F.slkErrcnt0Crc) 1, false)
  else if !formatOk f then (.drop (some F.slkErrcnt0Fmt) 2, false)
  else if !destOk f s then (.drop none 5, false)
  else if f.dtype < 3 ∧ s.b F.slkAddrValid ∧ f.src = s.g F.slkAddrAddr then (.drop none 5, false)
  else match (if s.b F.hkrDomstatPg ∧ (s.g F.hkrDomstatPg).testBit 12 then frameKey f.dtype f.ftype s else none) with
    | none => (.drop (some F.slkErrcnt2Nokey) 5, false)
    | some k =>
      let strid := if f.dtype = 3 then 0 else s.g F.slkGwStrid
      if f.mac ≠ frameMac k strid (bs.take (10 + f.len)) then (.drop (some F.slkErrcnt1Mac) 4, false)
      else if f.dtype < 3 ∧ f.ftype < 128 ∧ f.src ≠ s.g F.slkGwGwaddr then (.drop (some F.slkErrcnt2Badsrc) 5, true)
      else if f.ftype ≠ 0x02 ∧ f.ftype ≠ 0x82 ∧ (windowAccept (winFam f) f.src f.seq s.link.wins).isNone then
        (.drop (some F.slkErrcnt1Stale) 5, true)
      else (.pass f, true)

/-! ### Replies by JOIN and commissioning (R231, R232) -/

/-- The JOIN payload (R231). -/
def joinPayload (s : State) : List (BitVec 8) :=
  frameIdentity s ++ beBytes 2 (s.g F.slkAddrAddr + 2 ^ 15 * s.g F.slkAddrValid) ++ beBytes 1 (s.g F.slkCmctlKeymap * 16) ++
    beBytes 1 s.link.cmCode ++ beBytes 4 s.link.cmSeq

/-- The contention slot a JOIN takes in the superframe of the last beacon: none without contention slots, else uniform by the TRNG, CFIRST while its output is withheld (R231, R420). -/
def joinSlot (s : State) : Option Nat × State :=
  match s.link.plan with
  | none => (none, s)
  | some j =>
    if j.count = 0 then (none, s)
    else if s.sec.rngOut then (some j.first, s)
    else
      let (v, s) := rngWord s
      (some (j.first + v % j.count), s)

/-- The medium a JOIN goes on: where the last beacon was heard, else the one given (R231, log 104). -/
def joinMed (pair : Bool) (s : State) : Nat := if ((s.link.plan.map (·.pair)).getD pair) then 2 else 1

/-- Queue a JOIN, for the medium the last beacon was heard on; with the reply part full it is dropped (R223, R231). -/
def queueJoin (pair : Bool) (s : State) : State :=
  if 8 ≤ replyUsed s then s.p F.slkStatTxdrop 1
  else
    let (slot, s) := joinSlot s
    let p := joinPayload s
    let med := joinMed pair s
    enqueueTx (fun q => {
      seq := q, kind := .join slot, med := med, dtype := 3, daddr := 0, ftype := 0x04, payload := p }) s

/-- ASSIGN or KEYLOAD has an outcome: a JOIN answers it, and answers end the backoff (R231, R232). -/
def commissioned (pair : Bool) (c : Code) (seq : Nat) (s : State) : State :=
  queueJoin pair (s.modLink (fun l => { l with cmCode := c.num, cmSeq := seq, joinWait := 0, joinB := 1 }))

/-- Set the own identity from the identity line's fields (R232, R233, R236). -/
def setIdentity (addr valid gw strid : Nat) (s : State) : State :=
  (((s.p F.slkAddrAddr addr).p F.slkAddrValid valid).p F.slkGwGwaddr gw).p F.slkGwStrid strid

/-- ASSIGN (R232, R233). -/
def assign (pair : Bool) (f : Frame) (s : State) : State :=
  let p := f.payload
  let addr := ofBe ((p.drop 8).take 2) % 2 ^ 12
  let gw := ofBe ((p.drop 10).take 2) % 2 ^ 12
  let strid := ofBe ((p.drop 12).take 2)
  let line := leBytes 4 (addr + 2 ^ 31) ++ leBytes 4 gw ++ leBytes 4 strid ++ List.replicate 20 0
  let (ok, s) := writeLine 0x10020800 line portLink s
  if ok then
    let s := (setIdentity addr 1 gw strid s).modLink (fun l => { l with wins := l.wins.filter (fun w => w.fam ≠ 1) })
    commissioned pair .ok f.seq s
  else commissioned pair .integrity f.seq s

/-- Unwrap a key into a link key slot (R212, R232). -/
def unwrapInto (slot : Nat) (wrapped : List (BitVec 8)) (s : State) : State :=
  match kd 2 s with
  | some k =>
    (s.p F.slkCmctlKeymap (s.g F.slkCmctlKeymap ||| 2 ^ slot)).modSec (fun x => { x with
      linkKeys := Tab.set x.linkKeys slot (beNum (aesInv (bytes16 k) wrapped)) })
  | none => s

/-- KEYLOAD (R232, R233). -/
def keyload (pair : Bool) (f : Frame) (s : State) : State :=
  let p := f.payload
  let slot := ofBe ((p.drop 8).take 1)
  let kver := ofBe ((p.drop 9).take 1)
  if 3 < slot ∨ kver ≠ 0 then commissioned pair .invalid f.seq s
  else
    let w := padTo 16 ((p.drop 10).take 16)
    let (ok, s) := writeLine (0x10020820 + 0x20 * slot) (w ++ [0, 1] ++ List.replicate 14 0) portLink s
    if ok then commissioned pair .ok f.seq (unwrapInto slot w s) else commissioned pair .integrity f.seq s

/-- Key slots unwrapped again from the link area (R212, R236, R402). -/
def loadKeys (s : State) : State :=
  let s := (s.p F.slkCmctlKeymap 0).modSec (fun x => { x with linkKeys := [] })
  (List.range 4).foldl (fun t k =>
    let a := 0x10020820 + 0x20 * k
    let (ok, t) := checkLine a portLink t
    if ok ∧ (t.byte (a + 17)).toNat = 1 then unwrapInto k (t.byteList a 16) t else t) s

/-- Link keys are lost while D12 is off (R402). -/
def dropLinkKeys (s : State) : State := (s.p F.slkCmctlKeymap 0).modSec (fun x => { x with linkKeys := [] })

/-- The link area read before step 5 of R100: identity, keys, transmit counter, windows (R212 to R214, R236). -/
def linkLoad (s : State) : State :=
  let (ok, s) := checkLine 0x10020800 portLink s
  let w := fun i => if ok then s.word (0x10020800 + 4 * i) else 0
  let s := setIdentity (w 0 % 2 ^ 12) (w 0 / 2 ^ 31) (w 1 % 2 ^ 12) (w 2 % 2 ^ 16) s
  let s := loadKeys s
  let s := scanRing 0x10020900 8 portLink s
  let e := match ringData 0x10020900 0x0900 8 s with
    | some d => ofLe (d.take 4)
    | none => 0
  let s := scanRing 0x10020B00 8 portLink (scanRing 0x10020A00 8 portLink s)
  let ws := loadWindow 0 (s.g F.slkGwGwaddr) 0x10020A00 0x0A00 s ++ loadWindow 2 0 0x10020B00 0x0B00 s
  s.modLink (fun l => { l with txNext := e, txEnd := e, wins := ws })

/-- FORGET (R232). -/
def forget (s : State) : State :=
  let zero := List.replicate 32 (0 : BitVec 8)
  let s := (List.range 5).foldl (fun t k => (writeLine (0x10020800 + 0x20 * k) zero portLink t).2) s
  let s := dropLinkKeys (s.p F.slkAddrValid 0)
  storeWindow 0 (s.modLink (fun l => { l with wins := l.wins.filter (fun w => w.fam ≠ 0) }))

/-! ### Reception (R209, R216, R219, R220, R225) -/

/-- The receiver of a medium is on: the medium is enabled and not transmitting (R205). -/
def rxOn (pair : Bool) (s : State) : Bool := medEnabled pair s && (s.link.medium pair).tx.isNone

/-- A preamble with no frame current: the receiver locks (R225). -/
def receptionStart (pair : Bool) (rssi : Nat) (s : State) : State :=
  let m := s.link.medium pair
  if rxOn pair s ∧ m.rx.isNone then s.modLink (fun l => l.setMedium pair { m with rx := some rssi }) else s

/-- A new preamble during a reception (R225). -/
def preambleDetect (pair : Bool) (rssi : Nat) (s : State) : State :=
  let m := s.link.medium pair
  match m.rx with
  | none => s
  | some cur =>
    if cur + s.g F.slkCfgMargin ≤ rssi then
      (((s.p F.slkRxstatRssi (min cur 255)).p F.slkRxstatLast 3).sat F.slkCapturesCount 1).modLink (fun l =>
        l.setMedium pair { m with rx := some rssi })
    else s.sat F.slkCollideCount 1

/-- The current frame of a medium ends: the receiver is free and RSSI is recorded. -/
def endReception (pair : Bool) (s : State) : State :=
  let m := s.link.medium pair
  let s := match m.rx with
    | some r => s.p F.slkRxstatRssi (min r 255)
    | none => s
  s.modLink (fun l => l.setMedium pair { l.medium pair with rx := none })

/-- A frame was verified on a medium (R229). -/
def markSeen (pair : Bool) (s : State) : State :=
  s.modLink (fun l => l.setMedium pair { l.medium pair with seen := true })

/-- A frame of the queue is a JOIN. -/
def TxFrame.isJoin (f : TxFrame) : Bool :=
  match f.kind with
  | .join _ => true
  | _ => false

/-- A JOIN that is queued when a beacon arrives takes a slot of that beacon's superframe, on its medium (R231). -/
def joinRedraw (s : State) : State :=
  if s.link.txq.any (·.isJoin) then
    let (slot, s) := joinSlot s
    s.modLink (fun l => { l with txq := l.txq.map (fun f =>
      if f.isJoin then { f with kind := .join slot, med := joinMed (f.med = 2) s } else f) })
  else s

/-- The JOIN schedule a beacon carries, `ofs` ahead of the node's string time (R220). -/
def noteOpen (pair : Bool) (ofs : Int) (p : List (BitVec 8)) (s : State) : State :=
  let at_ := fun i => ofBe ((p.drop i).take 1)
  joinRedraw (s.modLink (fun l => { l with
    plan := if (at_ 4).testBit 1 then some ⟨at_ 5, at_ 6, pair, ofs⟩ else none }))

/-- A node without a BCST key takes CYCLE and the JOIN schedule from any beacon whose CRC verifies: its sync field ended `ago` SCLK edges ago (R44, R220). -/
def hearBeacon (pair : Bool) (ago : Nat) (bs : List (BitVec 8)) (s : State) : State :=
  let f := parseFrame bs
  if bs.length = 20 + f.len ∧ f.crc = crc16 (bs.take (18 + f.len)) ∧ formatOk f ∧ f.ftype = 1
      ∧ (Tab.get s.sec.linkKeys 2).isNone then
    noteOpen pair ((ofBe (f.payload.take 4) * cycleUnit : Nat) - accAt (beaconAgo ago s) s) f.payload s
  else s

/-- A drop is counted and shown (R209). -/
def dropFrame (cnt : Option Fam) (last : Nat) (s : State) : State :=
  match cnt with
  | some f => (s.sat f 1).p F.slkRxstatLast last
  | none => s.p F.slkRxstatLast last

/-- A frame that fails a check of R209 ends on a medium, `ago` SCLK after its sync field: it is dropped and counted; nothing where the frame passes or no reception is current. -/
def frameDropped (pair : Bool) (ago : Nat) (bs : List (BitVec 8)) (s : State) : State :=
  if (s.link.medium pair).rx.isNone then s
  else match judgeFrame bs s with
    | (.drop cnt last, seen) =>
      let s := hearBeacon pair ago bs (endReception pair s)
      dropFrame cnt last (if seen then markSeen pair s else s)
    | _ => s

/-- A frame ends on a medium: a drop, or the handling of its type; nothing where it is of another type or no reception is current. -/
def receive (pair : Bool) (ago : Nat) (bs : List (BitVec 8)) (isType : Nat → Bool) (handle : Frame → State → State) (s : State) : State :=
  if (s.link.medium pair).rx.isNone then s
  else match judgeFrame bs s with
    | (.drop _ _, _) => frameDropped pair ago bs s
    | (.pass f, _) =>
      if !isType f.ftype then s
      else
        let s := markSeen pair (endReception pair s)
        let s := if f.ftype = 0x02 ∨ f.ftype = 0x82 then s
          else match windowAccept (winFam f) f.src f.seq s.link.wins with
            | some ws => s.modLink (fun l => { l with wins := ws })
            | none => s
        handle f (s.p F.slkRxstatLast 0)

/-- The medium whose beacons are reference events (R220, R229). -/
def beaconMedium (s : State) : Bool :=
  let b := s.b F.slkCfgBcnmed
  if medGone b s && !medGone (!b) s then !b else b

/-- A verified BEACON (R43, R44, R220, R227, R228). -/
def onBeacon (pair : Bool) (ago : Nat) (f : Frame) (s : State) : State :=
  let cycle := ofBe (f.payload.take 4)
  let shut := (ofBe ((f.payload.drop 4).take 1)).testBit 0
  let s := storeWindow 0 (raiseLine lineSlkBeacon (s.p F.slkBcnlastCycle cycle))
  let s := noteOpen pair 0 f.payload s
  let s := if shut then s else s.modLink (fun l => { l with kaSeen := true, kaSince := true })
  if pair = beaconMedium s then beaconReference ago cycle s else s

/-- A verified COMMAND becomes a journal request (R109, R211, R216). -/
def onCommand (pair : Bool) (f : Frame) (s : State) : State :=
  submit {
    src := if f.ftype = 0x02 then idGateway else idPeer, addr := f.src, seq := f.seq
    kind := ofBe (f.payload.take 2), payload := f.payload.drop 2, pair := pair } s

/-- A verified frame for the receive ring: stored with the stamp at the end of its sync, `ago` SCLK edges ago, or dropped with RXOVF (R219). -/
def onRing (pair : Bool) (ago : Nat) (f : Frame) (s : State) : State :=
  let n := s.g F.slkRxheadCount
  if 16 ≤ n then s.p F.slkStatRxovf 1
  else
    let t := (accAt ago s % (2 ^ 80 : Int)).toNat / 2 ^ 32
    let e : RxEntry := {
      src := f.src, dtype := f.dtype, pair := pair, ftype := f.ftype, seq := f.seq
      cycle := t / 2 ^ 16, phase := t % 2 ^ 16, payload := f.payload }
    let i := (s.g F.slkRxheadHead + n) % 16
    raiseLine lineSlkRx ((s.p F.slkRxheadCount (n + 1)).modLink (fun l => { l with ring := Tab.set l.ring i e }))

/-- A verified JOIN is dropped (R215). -/
def onJoin (_ : Frame) (s : State) : State := s.p F.slkRxstatLast 5

/-- A verified device frame from the commissioner: its window is kept, and it is acted on while COMMISS is 1 (R213, R232). -/
def onCommission (act : Bool → Frame → State → State) (pair : Bool) (f : Frame) (s : State) : State :=
  let s := storeWindow 2 s
  if s.b F.slkCmctlCommiss then act pair f s else s

/-- The words of a ring slot (R219). -/
def ringWord (i w : Nat) (s : State) : Nat :=
  match Tab.get s.link.ring i with
  | none => 0
  | some e =>
    match w with
    | 0 => e.src + e.dtype * 2 ^ 12 + bit e.pair * 2 ^ 14 + e.ftype * 2 ^ 16 + e.payload.length * 2 ^ 24
    | 1 => e.seq
    | 2 => e.cycle
    | 3 => e.phase * 2 ^ 16
    | _ => ofLe (padTo 4 ((e.payload.drop (4 * (w - 4))).take 4))

/-! ### Transmission (R221 to R224, R230, R231) -/

/-- Airtime of a payload on a medium, in SCLK (R202, R207). -/
def airtime (pair : Bool) (len : Nat) (s : State) : Nat :=
  if pair then (48 + 8 * (20 + len)) * (if s.b F.slkCfgPrate then 192 else 768)
  else (10 + 4 * (20 + len)) * (match s.g F.slkCfgCrate with
    | 0 => 96000
    | 1 => 24000
    | _ => 6000)

/-- Where a queued frame stands: discarded, waiting, or bound for a medium (R205, R223, R230, R231). -/
inductive TxDest where
  | discard
  | wait
  | on (pair : Bool)
deriving DecidableEq, Repr

/-- Where a queued frame stands. -/
def txDest (f : TxFrame) (s : State) : TxDest :=
  match f.kind with
  | .join _ =>
    if medEnabled (decide (f.med = 2)) s && !(medDrvFault false s && medDrvFault true s) then .on (decide (f.med = 2)) else .wait
  | _ =>
    if !s.b F.slkAddrValid then (if f.isSend then .discard else .wait)
    else if f.isSend ∧ f.med ≠ 0 then
      let p := decide (f.med = 2)
      if medEnabled p s && !medFailed p s then .on p else .discard
    else
      let m := if f.med ≠ 0 ∧ !medGone (decide (f.med = 2)) s then some (decide (f.med = 2)) else mainMedium s
      match m with
      | none => .wait
      | some p =>
        if medEnabled p s then .on p
        else if f.isSend then .discard
        else if f.med = 0 ∧ medEnabled (!p) s ∧ !medGone (!p) s then .on (!p)
        else .wait

/-- A frame leaves the queue with a code; only one that was transmitted reports its entry (R196, R218, R224). -/
def txLeave (f : TxFrame) (c : Code) (s : State) : State :=
  let s := s.modLink (fun l => { l with txq := l.txq.erase f })
  match f.kind with
  | .send => raiseLine lineSlkTxdone ((s.p F.slkTxlastSeq f.seq).p F.slkTxlcodeCode c.num)
  | .complete anum | .ack (some anum) =>
    flushCompletes (if c = .ok then modEntry anum (fun e => { e with reported := true }) s else s)
  | .join _ =>
    flushCompletes (s.modLink (fun l => { l with joinWait := 2 ^ l.joinB, joinB := min 6 (l.joinB + 1) }))
  | _ => flushCompletes s

/-- SEND frames that R223 discards leave with BUSY. -/
def sweepTx (s : State) : State :=
  s.link.txq.foldl (fun t f =>
    if t.link.car.tx ≠ some f ∧ t.link.pr.tx ≠ some f ∧ txDest f t = .discard then txLeave f .busy t else t) s

/-- The next frame of a medium, in order of number; SEND frames wait while SLK is SEVERE (R223, R234). -/
def txHead (pair : Bool) (s : State) : Option TxFrame :=
  s.link.txq.find? (fun f => txDest f s = .on pair && !(isSevere srcSlk s && f.isSend) &&
    decide (s.link.car.tx ≠ some f) && decide (s.link.pr.tx ≠ some f))

/-- The window of a medium: FIRST, COUNT, PER, OFFSET (R222). -/
def txWindow (pair : Bool) (s : State) : Nat × Nat × Nat × Nat :=
  if pair then (s.g F.slkTxwinpFirst, s.g F.slkTxwinpCount, s.g F.slkTxwinpPer, s.g F.slkTxwinpOffset)
  else (s.g F.slkTxwincFirst, s.g F.slkTxwincCount, s.g F.slkTxwincPer, s.g F.slkTxwincOffset)

/-- The slot in progress at a time in accumulator units (R221). -/
def slotNumber (t : Nat) : Nat := t / 2 ^ 48 % 4 * 16 + t / 2 ^ 44 % 16

/-- The time of the JOIN schedule: the node's own, or that of the beacon it was taken from (R220, R231). -/
def joinTime (s : State) : Nat := (((accNow s : Int) + ((s.link.plan.map (·.ofs)).getD 0)) % (2 ^ 80 : Int)).toNat

/-- The time that places the slots of the medium's next frame (R220, R221). -/
def slotTime (pair : Bool) (s : State) : Nat :=
  match txHead pair s with
  | some f => if f.isJoin then joinTime s else accNow s
  | none => accNow s

/-- Ticks an airtime lasts at the present increment. -/
def airTicks (pair : Bool) (f : TxFrame) (s : State) : Nat :=
  (airtime pair f.payload.length s * s.g F.stmIncInc + 2 ^ 32 - 1) / 2 ^ 32

/-- The frame goes on the air. -/
def txBegin (pair : Bool) (f : TxFrame) (s : State) : State :=
  s.modLink (fun l => l.setMedium pair { l.medium pair with tx := some f, rx := none })

/-- NOTBEFORE holds a frame (R172, R223). -/
def txHeld (f : TxFrame) (s : State) : Bool :=
  match f.notBefore with
  | some c => !stampDue (c * 2 ^ 16) (stampNow s)
  | none => false

/-- The next frame of a medium at a slot boundary: it starts inside the window, or is discarded if it can never fit; a JOIN starts in its contention slot, one to a superframe (R222, R231). -/
def txStart (pair : Bool) (s : State) : State :=
  let s := sweepTx s
  let slotNow := slotNumber (slotTime pair s)
  if (s.link.medium pair).tx.isSome ∨ slotTime pair s / 2 ^ 32 % 0x1000 ≠ 0 then s
  else match txHead pair s with
    | none => s
    | some f =>
      match f.kind with
      | .join slot =>
        let sf := slotTime pair s / 2 ^ 50
        if slot = some slotNow ∧ (s.link.medium pair).rx.isNone ∧ s.b F.slkCmctlCommiss ∧ s.link.joinSf ≠ some sf then
          (txBegin pair f s).modLink (fun l => { l with joinSf := some sf })
        else s
      | _ =>
        let (first, count, per, ofs) := txWindow pair s
        let air := airTicks pair f s
        if count = 0 then s
        else if count * 0x1000 < air + 256 then txLeave f .invalid s
        else if cycleNow s / 4 % 2 ^ per ≠ ofs then s
        else if slotNow < first ∨ first + count ≤ slotNow then s
        else if (first + count - slotNow) * 0x1000 < air + 256 then s
        else if txHeld f s then s
        else txBegin pair f s

/-- The transmission on a medium ends (R218, R224). -/
def txEnd (pair : Bool) (s : State) : State :=
  match (s.link.medium pair).tx with
  | none => s
  | some f => txLeave f .ok (s.modLink (fun l => l.setMedium pair { l.medium pair with tx := none }))

/-- An unaddressed node queues a JOIN after its backoff (R231). -/
def joinSend (s : State) : State :=
  match s.link.plan with
  | some j =>
    let pend := s.link.txq.any (·.isJoin)
    if !s.b F.slkAddrValid ∧ s.b F.slkCmctlCommiss ∧ j.count ≠ 0 ∧ s.link.joinWait = 0 ∧ !pend then queueJoin j.pair s else s
  | none => s

/-! ### Registers (R227, R228, R236) -/

/-- The checks of SLK_COMMIT (R236). -/
def slkCheck (s : State) : Bool :=
  let v := fun f => s.sv 5 f
  let win := fun (first count per ofs : Nat) =>
    decide (first + count ≤ 64) && decide (count ≤ 64) && decide (ofs < 2 ^ per)
  decide (v F.slkCfgCrate ≠ 3) && decide (3 ≤ v F.slkCfgMargin) &&
    !(decide (v F.slkCfgBcnmed = 0) && decide (v F.slkCfgCrate = 0)) &&
    win (v F.slkTxwincFirst) (v F.slkTxwincCount) (v F.slkTxwincPer) (v F.slkTxwincOffset) &&
    win (v F.slkTxwinpFirst) (v F.slkTxwinpCount) (v F.slkTxwinpPer) (v F.slkTxwinpOffset)

/-- A medium under a new configuration: a disabled one receives and transmits nothing, and what it was sending stays queued; one that works takes back its roles (R205, R229, log 26). -/
def mediumApply (pair : Bool) (s : State) : State :=
  let m := s.link.medium pair
  let on := medEnabled pair s
  s.modLink (fun l => l.setMedium pair { m with
    moved := m.moved && medFailed pair s, rx := if on then m.rx else none, tx := if on then m.tx else none })

/-- An accepted configuration (R229, R236). -/
def slkApply (s : State) : State := mediumApply true (mediumApply false (s.applyStage 5))

/-- A write of SLK_COMMIT (R236). -/
def slkCommit (id : Nat) (s : State) : Code × State := commitWith 5 id slkCheck slkApply s

/-- A write of SLK_KA: the superframe in which EN is set counts as one that had a beacon (R227). -/
def slkKaW (id addr v : Nat) (s : State) : Code × State :=
  let was := s.b F.slkKaEn
  let (c, s) := genWrite id addr v s
  (c, if s.b F.slkKaEn && !was then s.modLink (fun l => { l with kaSeen := true }) else s)

/-- A write of SLK_STAT: KALOSS clears only after a keep-alive beacon since the loss (R228). -/
def slkStatW (id addr v : Nat) (s : State) : Code × State :=
  let k := s.g F.slkStatKaloss
  let (c, s) := genWrite id addr v s
  (c, if s.link.kaSince then s else s.p F.slkStatKaloss k)

/-- A write of SLK_RXPOP (R219, R236). -/
def rxPop (v : Nat) (s : State) : Code × State :=
  let n := s.g F.slkRxheadCount
  if !v.testBit 0 then (.ok, s)
  else if n = 0 then (.invalid, s)
  else (.ok, (s.p F.slkRxheadHead (s.g F.slkRxheadHead + 1)).p F.slkRxheadCount (n - 1))

/-- A write of SLK_CMCTL (R231, R232). -/
def cmctlW (v : Nat) (s : State) : Code × State :=
  let s := s.p F.slkCmctlCommiss (v % 2)
  (.ok, if v.testBit 1 then forget s else s)

/-- The receive ring's address range (R219). -/
def ringAddr (addr : Nat) : Bool := decide (0x40005800 ≤ addr) && decide (addr < 0x40005C00)

/-- Writes of the SLK block (R219, R227, R228, R236). -/
def slkWrite (id addr v : Nat) (s : State) : Code × State :=
  if ringAddr addr then (.denied, s)
  else if addr = F.slkCommitCommit.addr then (if v.testBit 0 then slkCommit id s else (.ok, s))
  else if addr = F.slkKaEn.addr then slkKaW id addr v s
  else if addr = F.slkStatKaloss.addr then slkStatW id addr v s
  else if addr = F.slkRxpopPop.addr then rxPop v s
  else if addr = F.slkCmctlCommiss.addr then cmctlW v s
  else genWrite id addr v s

/-- Reads of the SLK block (R219, R236). -/
def slkRead (addr : Nat) (s : State) : Code × Nat × State :=
  if ringAddr addr then (.ok, ringWord ((addr - 0x40005800) / 0x40) (addr % 0x40 / 4) s, s)
  else if addr = F.slkTxqUsed.addr then (.ok, sendUsed s + 2 ^ 8 * replyUsed s, s)
  else genRead addr s

end Sys2Proof.Machine
end

