-- ==== Sys2Proof/Machine/Power.lean ====
section
/-! DEFINITION. Power domains: which target lies in which, switching them off and on, sleep and wake (R77 to R81, R357, R402, R431, R497). -/

namespace Sys2Proof.Machine

/-! ### Targets and domains (R119, R497) -/

/-- PST_BYP, PST_FORCE and PST_SCALE, in the block of input A or of input E (R259). -/
def pstNode (addr : Nat) : Bool :=
  (decide (0x40006380 ≤ addr) && decide (addr < 0x4000638C)) || (decide (0x40007380 ≤ addr) && decide (addr < 0x4000738C))

/-- The power domain of a mapped address (R497). -/
def domainOf (addr : Nat) : Nat :=
  if addr < 0x00080000 then 2
  else if addr < 0x00100000 then 3
  else if addr < 0x20000000 then 11
  else if addr < 0x30000000 then 12
  else if addr < 0x30010000 then 1
  else if addr < 0x40000000 then 4
  else if pstNode addr then 1
  else match blockOf addr with
    | 6 => 7
    | 7 => 8
    | 8 => 4
    | 10 => 0
    | 11 => 0
    | 12 => 11
    | 13 => 13
    | 15 => 12
    | 17 => 0
    | 19 => 4
    | 20 => 12
    | _ => 1

/-- A domain is on and at power good (R79). -/
def domUp (n : Nat) (s : State) : Bool := (s.g F.hkrDomstatPg).testBit n

/-- An event of a block acts while SCLK runs and the block's domain is at power good (R79, R81). -/
def onDomain (n : Nat) (f : State → State) (s : State) : State := if awake s && domUp n s then f s else s

/-- The FLT sources of the blocks inside a domain (R425, R497). -/
def domainSources (n : Nat) : List Nat :=
  match n with
  | 4 => [srcCe]
  | 7 => [srcPst 0, srcPst 1, srcPst 2, srcPst 3]
  | 8 => [srcPst 4, srcPst 5, srcPst 6, srcPst 7]
  | 11 => [srcNvs]
  | 12 => [srcOtp, srcLcs, srcCry]
  | 13 => [srcDma]
  | _ => []

/-- A burn that is cut short leaves free bits of the word it was burning (R408, log 19). -/
def cutBurn (s : State) : State :=
  match s.sec.cmd with
  | some (.program w req _ _) =>
    let (k, s) := s.draw
    let (j, s) := s.draw
    let lo := req &&& (Config.otpBits k).toNat
    (otpBurn w lo (lo &&& (Config.otpBits j).toNat) s).modSec (fun x => { x with cmd := none })
  | some (.transition t _) =>
    let (k, s) := s.draw
    let (j, s) := s.draw
    let lo := (Config.otpBits k).toNat
    (otpBurn (0x600 + t - 1) lo (lo &&& (Config.otpBits j).toNat) s).modSec (fun x => { x with cmd := none })
  | none => s

/-! ### Losing and gaining power (R79, R80, R357, R402) -/

/-- Registers that a switched-off domain loses: OTP_LOCK and the decoded state stay (R410, R423), every other one returns at its reset value (R80). -/
def lostWith (n : Nat) (x : Fld) : Bool :=
  let a := x.key / 32
  decide (domainOf a = n) && decide (a ≠ F.otpLockLocks.addr) && decide (x.key ≠ F.lcsStateState.key 0 0)

/-- A bank of SRAM loses its contents: every word reads as poisoned until it is written whole (R80, R101). -/
def poisonBank (n : Nat) (s : State) : State :=
  let inBank := fun (w : Nat) => decide (w / 0x10000 = n - 2)
  { s with sramGood := s.sramGood.filter (fun w => !inBank w), sramOne := s.sramOne.filter (fun w => !inBank w) }

/-- Trace RAM reads zero (R80, R101). -/
def clearTrace (s : State) : State :=
  { s with mem := s.mem.filter (fun c => c.1 < 0x30010000 || 0x30018000 ≤ c.1), ce := { s.ce with trcBad := [] } }

/-- The inputs of a stage domain. -/
def domainInputs (n : Nat) : List Nat := if n = 7 then [0, 1, 2, 3] else if n = 8 then [4, 5, 6, 7] else []

/-- A medium without its domain: nothing is received or sent on it. -/
def dropMedium (pair : Bool) (s : State) : State :=
  s.modLink (fun l => l.setMedium pair { l.medium pair with rx := none, tx := none })

/-- What a domain loses beside its registers. -/
def loseState (n : Nat) (s : State) : State :=
  match n with
  | 2 => { s with pow := { s.pow with kept := if s.b F.hkrDomretRet2 then NSet.add s.pow.kept 2 else NSet.del s.pow.kept 2 } }
  | 3 => { s with pow := { s.pow with kept := if s.b F.hkrDomretRet3 then NSet.add s.pow.kept 3 else NSet.del s.pow.kept 3 } }
  | 4 => clearTrace { s with ce := {} }
  | 5 => adcDomainOff 0 s
  | 6 => adcDomainOff 1 s
  | 7 => (domainInputs 7).foldl (fun t x => { t with pst := Tab.erase t.pst x }) s
  | 8 => (domainInputs 8).foldl (fun t x => { t with pst := Tab.erase t.pst x }) s
  | 9 => dropMedium false s
  | 10 => dropMedium true s
  | 11 => { s with nvs := { s.nvs with q := [], wait := [], turns := 0 } }
  | 12 => dropLinkKeys ((cutBurn s).modSec (fun x => { x with cry := none, keys := [], rngOut := false }))
  | 13 => { s with dma := {} }
  | 14 => fanDomain s
  | 15 => chgSleep s
  | _ => s

/-- The stages of the blocks in a domain. -/
def domainStages (n : Nat) : List Nat :=
  match n with
  | 4 => [8]
  | 7 => [32, 33, 34, 35]
  | 8 => [36, 37, 38, 39]
  | 11 => [12]
  | 13 => [13]
  | _ => []

/-- The staged copy of a block that loses power is lost; a discard noted before stays noted (R80, R81, R127). -/
def loseStage (k : Nat) (s : State) : State :=
  match (s.stage k).owner with
  | some _ => s.setStage k {}
  | none => s

/-- A domain leaves power good and its contents are lost (R79, R80). -/
def domainLose (n : Nat) (s : State) : State :=
  let s := s.p F.hkrDomstatPg (s.g F.hkrDomstatPg &&& (0xFFFF - 2 ^ n))
  let s := (loseState n s).restore (lostWith n)
  (domainStages n).foldl (fun t k => loseStage k t) s

/-- What a domain does at power good (R80, R301, R357, R402, R466). -/
def gainState (n : Nat) (s : State) : State :=
  match n with
  | 2 => if NSet.has s.pow.kept 2 then s else poisonBank 2 s
  | 3 => if NSet.has s.pow.kept 3 then s else poisonBank 3 s
  | 4 =>
    let s := (s.p F.ceStatA0ok (s.g F.adcStatOk0)).p F.ceStatA1ok (s.g F.adcStatOk1)
    s.p F.ceStatFovr (bit (!(s.b F.ceStatA0ok && s.b F.ceStatA1ok)))
  | 11 => nvsKey s
  | 12 => freshNonce s
  | 14 => fanDomain s
  | _ => s

/-- A domain reaches power good; once D11 and D12 are both up the link keys are restored (R78, R402). -/
def domainGain (n : Nat) (s : State) : State :=
  let s := gainState n (s.p F.hkrDomstatPg (s.g F.hkrDomstatPg ||| 2 ^ n))
  let s := { s with pow := { s.pow with kept := NSet.del s.pow.kept n } }
  if (n = 11 ∨ n = 12) ∧ domUp 11 s ∧ domUp 12 s then loadKeys s else s

/-! ### HKR_DOMCTL (R77, R78, R431) -/

/-- D0, D1, D11 and D15, which firmware never switches (R77). -/
def domFixed : Nat := 0x8803

/-- The condition of R77 for switching a domain off, judged against a requested state. -/
def mayOff (want n : Nat) (s : State) : Bool :=
  match n with
  | 4 => (List.range 8).all (fun x => pstMode x s = 0 || pstMode x s = 4)
  | 5 => want.testBit 6 || !want.testBit 4
  | 6 => want.testBit 5 || !want.testBit 4
  | 7 => (domainInputs 7).all (fun x => pstMode x s = 0)
  | 8 => (domainInputs 8).all (fun x => pstMode x s = 0)
  | 12 => !want.testBit 9 && !want.testBit 10
  | 13 => (List.range 32).all (fun c => !dmaActive c s)
  | 14 => fanState s = fanStopped || fanState s = fanStalled || fanState s = fanNopower
  | _ => true

/-- Refused bits keep their value and the rest is judged again, until none is refused (R78). -/
def domJudge : Nat → Nat → State → Nat
  | 0, want, _ => want
  | k + 1, want, s =>
    let on := s.g F.hkrDomctlOn
    let bad := (List.range 16).filter (fun n => on.testBit n && !want.testBit n && !mayOff want n s)
    if bad.isEmpty then want else domJudge k (bad.foldl (fun w n => w ||| 2 ^ n) want) s

/-- The order in which domains are switched on: ascending, D12 before D11 (R78). -/
def onOrder : List Nat := [2, 3, 4, 5, 6, 7, 8, 9, 10, 12, 11, 13, 14, 15]

/-- BUSY while a transition is pending (R78). -/
def domBusy (s : State) : State := s.p F.hkrDomstatBusy (bit (!(s.pow.offs.isEmpty && s.pow.ons.isEmpty)))

/-- The transitions of a requested state begin: domains to switch off are isolated at once (R78, R79, R431). -/
def domSwitch (want : Nat) (s : State) : State :=
  let on := s.g F.hkrDomctlOn
  let offs := (List.range 16).filter (fun n => on.testBit n && !want.testBit n)
  let ons := onOrder.filter (fun n => want.testBit n && !on.testBit n)
  let s := carryLost (offs.flatMap domainSources) s
  let s := offs.reverse.foldl (fun t n => domainLose n t) (s.p F.hkrDomctlOn want)
  domBusy { s with pow := { s.pow with offs := offs, ons := ons } }

/-- A write of HKR_DOMCTL (R77, R78). -/
def domctlW (v : Nat) (s : State) : Code × State :=
  if s.b F.hkrDomstatBusy then (.busy, s)
  else
    let ask := v % 2 ^ 16 ||| domFixed
    let want := domJudge 16 ask s
    let s := if want = ask then s else s.p F.hkrDomstatRefused 1
    (if want = ask then .ok else .busy, domSwitch want s)

/-- The first domain that is switching off, from D15 down, has powered down (R78). -/
def domainOffDone (s : State) : State :=
  match s.pow.offs.getLast? with
  | some n => domBusy { s with pow := { s.pow with offs := NSet.del s.pow.offs n } }
  | none => s

/-- The domain that is switching on reaches power good, once every switch-off is complete (R78). -/
def domainGood (s : State) : State :=
  match s.pow.offs, s.pow.ons with
  | [], n :: rest => domBusy (domainGain n { s with pow := { s.pow with ons := rest } })
  | _, _ => s

/-- A write of HKR_DOMRET: clearing a bit while its bank is off ends retention (R80). -/
def domretW (id addr v : Nat) (s : State) : Code × State :=
  let (c, s) := genWrite id addr v s
  let drop := fun (n : Nat) (f : Fam) (t : State) =>
    if !domUp n t && !t.b f then { t with pow := { t.pow with kept := NSet.del t.pow.kept n } } else t
  (c, drop 3 F.hkrDomretRet3 (drop 2 F.hkrDomretRet2 s))

/-! ### Sleep and wake (R81) -/

/-- What refuses sleep with BUSY (R81). -/
def sleepBusy (s : State) : Bool :=
  (List.range 8).any (fun x => pstMode x s ≠ 0) || (List.range 32).any (fun c => dmaActive c s) ||
    !s.nvs.q.isEmpty || !s.nvs.wait.isEmpty || s.jnl.writing.isSome || !s.jnl.reqs.isEmpty ||
    s.seq.ctxs.any (fun e => match e.2.wait with
      | some (.write _ _ _) => true
      | _ => false) ||
    s.sec.cry.isSome || s.sec.cmd.isSome || s.adc.run.isSome || s.link.car.tx.isSome || s.link.pr.tx.isSome ||
    s.b F.hkrDomstatBusy

/-- Entry into sleep (R81, R227, R346, R450, R466): stages are discarded, bypass closes and every domain but D0 goes off. -/
def sleepEnter (s : State) : State :=
  let s := (s.discardAll.p F.pstBypByp 1).p F.slkKaEn 0
  let s := trimAbort 4 s
  let on := s.g F.hkrDomctlOn
  let s := (((List.range 16).filter (fun n => on.testBit n && decide (2 ≤ n))).reverse).foldl (fun t n => domainLose n t) s
  let s := s.p F.hkrDomstatPg 1
  { s with pow := { s.pow with phase := .asleep, wakeOn := on }, flt := { s.flt with disag := none } }

/-- A write of HKR_SLEEP (R81). -/
def sleepW (id addr v : Nat) (s : State) : Code × State :=
  if !v.testBit 0 then genWrite id addr v s
  else if v / 256 % 16 = 0 then (.invalid, s)
  else if sleepBusy s then (.busy, s)
  else
    let (c, s) := genWrite id addr v s
    (c, sleepEnter (s.p F.hkrSleepCause 0))

/-- Writes of the domain controls (R78, R80, R81). -/
def domWrite (id addr v : Nat) (s : State) : Code × State :=
  if addr = F.hkrDomctlOn.addr then domctlW v s
  else if addr = F.hkrDomretRet2.addr then domretW id addr v s
  else if addr = F.hkrSleepEnter.addr then sleepW id addr v s
  else genWrite id addr v s

/-- The phase a wake returns to. -/
def wakePhase (s : State) : Phase := if s.pow.release then .running else .unreleased

/-- Transitions in progress run to their end under the power controller: every domain on its way off is down, then each one on its way on is at power good (R78, R101). -/
def domSettle : Nat → State → State
  | 0, s => s
  | n + 1, s =>
    if !s.pow.offs.isEmpty then domSettle n (domainOffDone s)
    else if !s.pow.ons.isEmpty then domSettle n (domainGood s)
    else s

/-- The node wakes: the clocks run on the internal oscillator, the domains of the entry return, the STM is FREE (R81, R357, R438, R451). -/
def wakeUp (s : State) : State :=
  let on := s.pow.wakeOn ||| 2 ^ 11 ||| 2 ^ 12
  let ons := onOrder.filter (fun n => on.testBit n)
  let s := (s.p F.hkrDomctlOn on).p F.hkrDomstatPg 3
  let s := { s with pow := { s.pow with phase := wakePhase s, offs := [], ons := ons } }
  let s := domBusy ((s.p F.stmClkAct 0).p F.stmClkXtok 0)
  let s := (setStmState stFree s).modStm (fun t => { t with lastRef := none, missed := 0, pause := 0 })
  safeAfresh (rtcWake s)

/-- A wake source is seen in sleep: 0 two-wire, 1 RTC, 2 VHV, 3 SAFE; an enabled one wakes the node (R81). -/
def wakeSource (k : Nat) (s : State) : State :=
  if s.pow.phase ≠ .asleep ∨ 4 ≤ k then s
  else
    let en := match k with
      | 0 => s.b F.hkrSleepWkTwb
      | 1 => s.b F.hkrSleepWkRtc
      | 2 => s.b F.hkrSleepWkVhv
      | _ => s.b F.hkrSleepWkSafe
    if en then wakeUp (s.p F.hkrSleepCause (s.g F.hkrSleepCause ||| 2 ^ k)) else s

end Sys2Proof.Machine
end

