-- ==== Sys2Proof/Machine/Acc.lean ====
section
/-! DEFINITION. Access tables: which target and sub-region an address lies in, the rights of an initiator, denials, and the ACC registers (R116 to R126, R132). -/

namespace Sys2Proof.Machine

/-- What an access does to its target (R121, R132). -/
inductive AccKind where
  | read | write | fetch
deriving DecidableEq, Repr

/-- The bit of a right, and the KIND of a denial (R121, R132). -/
def AccKind.num : AccKind → Nat
  | .read => 0
  | .write => 1
  | .fetch => 2

/-- A register stands at an address, whose low two bits are left aside (R117). -/
def regMapped (addr : Nat) : Bool :=
  let a := addr / 4 * 4
  !(fieldsAt a).isEmpty || pstNode a || ringAddr a || fltReserved a

/-- An address lies in a memory range of R116. -/
def memMapped (addr : Nat) : Bool :=
  decide (addr < 0x00100000) ||
  (decide (0x10000000 ≤ addr) && decide (addr < 0x10080000)) ||
  (decide (0x20000000 ≤ addr) && decide (addr < 0x20002000)) ||
  (decide (0x30000000 ≤ addr) && decide (addr < 0x30018000))

/-- An address lies in the peripheral range of R116. -/
def periMapped (addr : Nat) : Bool := decide (0x40000000 ≤ addr) && decide (addr < 0x40016000)

/-- An address lies in a range of R116: all that check 1 asks of a fetch (R165). -/
def inMap (addr : Nat) : Bool := memMapped addr || periMapped addr

/-- An address lies in a range of R116, and on a register inside a peripheral block (R117). -/
def mapped (addr : Nat) : Bool := memMapped addr || (periMapped addr && regMapped addr)

/-- The sub-region that three boundaries give a 4 KiB unit (R120). -/
def splitSub (u s1 s2 s3 : Nat) : Nat :=
  if u < s1 then 0 else if u < s2 then 1 else if u < s3 then 2 else 3

/-- The target and sub-region of a mapped address (R119, R120). -/
def targetOf (addr : Nat) (s : State) : Nat × Nat :=
  if addr < 0x00080000 then (0, splitSub (addr / 0x1000) (s.g F.accSplitaS1) (s.g F.accSplitaS2) (s.g F.accSplitaS3))
  else if addr < 0x00100000 then
    (1, splitSub ((addr - 0x00080000) / 0x1000) (s.g F.accSplitbS1) (s.g F.accSplitbS2) (s.g F.accSplitbS3))
  else if addr < 0x20000000 then (2, (addr - 0x10000000) / 0x20000)
  else if addr < 0x30000000 then (3, (addr - 0x20000000) / 0x800)
  else if addr < 0x30010000 then (4, (addr - 0x30000000) / 0x4000)
  else if addr < 0x40000000 then (5, (addr - 0x30010000) / 0x2000)
  else (blockOf addr + 6, addr % 0x1000 / 0x400)

/-- The table entry of a target for an initiator ID (R119, R132). -/
def rightsOf (t id : Nat) (s : State) : Nat := s.g2 F.accEntryRights t id

/-- A table entry grants a right in a sub-region (R121). -/
def hasRight (t sub id : Nat) (k : AccKind) (s : State) : Bool := (rightsOf t id s).testBit (3 * sub + k.num)

/-- The access table grants an access (R121, R122). -/
def granted (id addr : Nat) (k : AccKind) (s : State) : Bool :=
  let (t, sub) := targetOf addr s
  hasRight t sub id k s

/-- The report of a denied access (R123). -/
def accDeny (id addr tgt : Nat) (k : AccKind) (s : State) : State :=
  let s := (s.p F.accStatDeny 1).sat F.accDencntCount 1
  (((s.p F.accDenlogId id).p F.accDenlogTgt tgt).p F.accDenlogKind k.num).p F.accDenaddrAddr addr

/-! ### The ACC registers (R124 to R126, R132) -/

/-- A split's boundaries are in order and inside the bank (R126). -/
def splitOk (s1 s2 s3 : Nat) : Bool := decide (s1 ≤ s2) && decide (s2 ≤ s3) && decide (s3 ≤ 128)

/-- The W bits and the X bits of an entry, and R with W (R121). -/
def allW : Nat := 0x492
/-- The X bits of an entry (R121). -/
def allX : Nat := 0x924
/-- R and W on all four sub-regions (R132). -/
def allRW : Nat := 0x6DB

/-- One staged entry meets R126. -/
def entryOk (t id e : Nat) : Bool :=
  (e &&& allX = 0 || (decide (t ≤ 1) && decide (6 ≤ id) && decide (id ≤ 13))) &&
  (e &&& allW = 0 || t ≠ 3) &&
  (id ≠ 4 || e = 0) &&
  (t ≠ 8 || id ≠ 15 || e &&& allRW = allRW)

/-- The check of ACC_COMMIT over staged and committed values (R126). -/
def accCheck (s : State) : Bool :=
  splitOk (s.sv 2 F.accSplitaS1) (s.sv 2 F.accSplitaS2) (s.sv 2 F.accSplitaS3) &&
  splitOk (s.sv 2 F.accSplitbS1) (s.sv 2 F.accSplitbS2) (s.sv 2 F.accSplitbS3) &&
  (List.range 28).all (fun t => (List.range 16).all (fun i => entryOk t i (s.sv2 2 F.accEntryRights t i)))

/-- ACC_COMMIT (R126). -/
def accCommit (id : Nat) (s : State) : Code × State := commitWith 2 id accCheck (fun t => t.applyStage 2) s

/-- Registers that ACC_LOCK closes to every initiator but BOOT (R124). -/
def accGuarded (addr : Nat) : Bool :=
  addr = F.accSplitaS1.addr || addr = F.accSplitbS1.addr || addr = F.accCommitCommit.addr || decide (0x40002100 ≤ addr)

/-- Writes of the ACC block (R124, R126, R132). A write of ACC_COMMIT whose COMMIT bit is 0 is no COMMIT write: it completes with OK and does nothing, whoever owns the stage; so in every block (log 89). -/
def accWrite (id addr v : Nat) (s : State) : Code × State :=
  if accGuarded addr ∧ s.b F.accLockLock ∧ id ≠ idBoot then (.denied, s)
  else if addr = F.accCommitCommit.addr then if v.testBit 0 then accCommit id s else (.ok, s)
  else genWrite id addr v s

end Sys2Proof.Machine
end

