-- ==== Sys2Proof/Machine/Jnlr.lean ====
section
/-! DEFINITION. The journal's registers: configuration, host submission and host query (R198, R199, R201). -/

namespace Sys2Proof.Machine

/-- The checks of JNL_COMMIT (R201). -/
def jnlCheck (s : State) : Bool :=
  let low := s.sv 4 F.jnlCfgLowat
  decide (s.sv 4 F.jnlCfgHold ≠ 0) && decide (low ≤ 2047) && decide (s.sv 4 F.jnlCfgRsv < low)

/-- A write of JNL_COMMIT (R201); FULL is judged again against the levels in force, and the class queues against SERIAL (R189, R197). -/
def jnlCommit (id : Nat) (s : State) : Code × State := commitWith 4 id jnlCheck (fun t => serveTakes (jnlRefresh (t.applyStage 4))) s

/-- The host's request, as its submission registers spell it (R198). -/
def hostReq (s : State) : JReq := {
  src := idHost, addr := 0, seq := s.g F.jnlHseqSeq, kind := s.g F.jnlHkindKind
  payload := ((List.range 10).flatMap (fun k => leBytes 4 (s.g1 F.jnlHbufData k))).take (s.g F.jnlHkindLen) }

/-- A write of 1 to JNL_HGO (R198): PEND is set and the request becomes ready. -/
def hostSubmit (id : Nat) (s : State) : Code × State :=
  if id ≠ idHost then (.denied, s)
  else if s.b F.jnlHstatPend then (.busy, s)
  else (.ok, submit (hostReq s) (s.p F.jnlHstatPend 1))

/-- A submission register lies at the offset (R198). -/
def hostReg (off : Nat) : Bool := decide (0x400 ≤ off) && decide (off < 0x430)

/-- Writes of the JNL block but for JNL_COMMIT (R198, R201). Writing 0 to HGO submits nothing (R11). -/
def jnlWrite (id addr v : Nat) (s : State) : Code × State :=
  let off := addr % 0x1000
  if (fieldsAt addr).isEmpty then (.invalid, s)
  else if off = 0x004 then if v.testBit 0 then jnlCommit id s else (.ok, s)
  else if off = 0x430 then
    if id ≠ idHost then (.denied, s) else if s.b F.jnlHstatPend then (.busy, s)
    else if v.testBit 0 then hostSubmit id s else (.ok, s)
  else if off = 0x438 then (.ok, hostQuery v s)
  else if hostReg off && s.b F.jnlHstatPend then (.busy, s)
  else genWrite id addr v s

end Sys2Proof.Machine
end

