-- ==== Sys2Proof/Machine/Nvsr.lean ====
section
/-! DEFINITION. The NVS controller's registers and line buffer (R356, R358, R363, R364). -/

namespace Sys2Proof.Machine

/-- A write of NVS_STAT: INTEG, then WLOCK while INTEG and KEYBAD are clear after it (R363, R496). -/
def nvsStatW (id addr v : Nat) (s : State) : Code × State :=
  let lk := s.g F.nvsStatWlock
  let (c, t) := genWrite id addr v s
  (c, if t.b F.nvsStatInteg || t.b F.nvsStatKeybad then t.p F.nvsStatWlock lk else t)

/-- The line address a commit names: inside the array and on a line boundary (R358). -/
def laddrOk (a : Nat) : Bool := decide (nvsBase ≤ a) && decide (a ≤ 0x1007FFE0) && decide (a % 32 = 0)

/-- The line the line buffer would write: staged words, else committed ones (R128, R358). -/
def lineStaged (s : State) : List (BitVec 8) :=
  (List.range 8).flatMap (fun k => leBytes 4 (s.sv1 12 F.nvsLdataData k))

/-- A line operation reaches the controller, or waits at the arbiter while four are held (R356). -/
def nvsQueue (op : NvsOp) (s : State) : State :=
  if s.nvs.q.length < 4 then { s with nvs := { s.nvs with q := s.nvs.q ++ [op] } }
  else { s with nvs := { s.nvs with wait := s.nvs.wait ++ [op] } }

/-- NVS_COMMIT: the address check, then an access by the committing initiator, judged and queued (R354, R356, R358, R363). `right`: the access table grants the write; a refusal is recorded by `deny` (R123). None when the access is queued, its completion still to come. -/
def nvsCommitW (id : Nat) (right : Nat → Bool) (deny : Nat → State → State) (pg : Bool) (s : State) : Option Code × State :=
  match (s.stage 12).owner with
  | some o =>
    let a := s.sv 12 F.nvsLaddrAddr
    if o ≠ id then (some .busy, s)
    else if !laddrOk a then (some .stageReject, s.release 12)
    else if !right a then (some .denied, deny a (s.release 12))
    else if !pg then (some .busy, s.release 12)
    else if nvsPrivate a then (some .denied, s.release 12)
    else if s.b F.nvsStatWlock then (some .busy, s.release 12)
    else
      let op : NvsOp := { id := id, addr := a, data := lineStaged s, cls := (idCls id).num }
      (none, nvsQueue op ((s.applyStage 12).release 12))
  | none =>
    if (s.stage 12).gone = some id then (some .timeout, s.release 12) else (some .ok, s)

/-- Writes of the NVS controller's registers but for NVS_COMMIT (R364). -/
def nvsRegWrite (id addr v : Nat) (s : State) : Code × State :=
  if addr = F.nvsStatInteg.addr then nvsStatW id addr v s else genWrite id addr v s

/-- The NVS interrupt (R364). -/
def nvsIrq (s : State) : Bool :=
  decide ((s.g F.nvsStatInteg + 2 * s.g F.nvsStatKeybad + 4 * s.g F.nvsStatWlock) &&& s.g F.nvsIenIen ≠ 0)

end Sys2Proof.Machine
end

