-- ==== Sys2Proof/Machine/Twb.lean ====
section
/-! DEFINITION. The two-wire registers: the target port's flags, configuration and alert, and the second port (R390 to R401). -/

namespace Sys2Proof.Machine

/-- Change the two-wire ports behind their registers. -/
def State.modTwb (s : State) (f : Twb → Twb) : State := { s with twb := f s.twb }

/-! ### Target port -/

/-- A TWB_STAT flag is set (R392, R399). -/
def twbFlag (f : Fam) (s : State) : State := alertEvent 2 (raiseLine lineTwbHost (s.p f 1))

/-- An access of the host completed other than OK (R388). -/
def twbRecord (c : Code) (wr : Bool) (addr : Nat) (s : State) : State :=
  twbFlag F.twbStatAccerr (((s.p F.twbLastCode c.num).p F.twbLastDir (bit wr)).p F.twbLastaddrAddr addr)

/-- A committed configuration takes effect at a STOP or bus-free point (R400). -/
def twbConfig (s : State) : State :=
  s.modTwb (fun t => { t with
    cfg := ⟨s.g F.twbCfgAddr, s.b F.twbCfgPec, s.b F.twbCfgToen, s.b F.twbCfgWake⟩ })

/-- The bus is seen free (R385, R400). -/
def twbFree (s : State) : State := (twbConfig s).modTwb (fun t => { t with free := true, hs := false })

/-- A target address the port may take: no reserved address, and not the Alert Response Address (R400). -/
def twbAddrOk (a : Nat) : Bool := decide (8 < a) && decide (a ≠ 0x0C) && decide (a < 0x78)

/-- The check of TWB_COMMIT (R400). -/
def twbCheck (s : State) : Bool := twbAddrOk (s.sv 14 F.twbCfgAddr)

/-- TWB_COMMIT (R400). -/
def twbCommit (id : Nat) (s : State) : Code × State := commitWith 14 id twbCheck (fun t => t.applyStage 14) s

/-- A write of TWB_ALERT: its fields, then SW, whose event wins over a clear of PEND in the same write (R9, R392). -/
def twbAlertW (id addr v : Nat) (s : State) : Code × State :=
  let (c, s) := genWrite id addr v s
  let s := s.p F.twbAlertSw 0
  (c, if v.testBit 8 then alertEvent 3 s else s)

/-- The target abandons the transaction in progress and waits for the bus to be free (R385, R390, R395). -/
def twbAbandon (s : State) : State :=
  (s.p F.twbStatBusbusy 0).modTwb (fun t => { t with
    open_ := false, free := false, wrote := false, seen := [], body := [], writing := false, nacked := false })

/-- SCL has been low for the timeout in a transaction (R390). -/
def clockLow (s : State) : State :=
  if s.twb.cfg.toen ∧ s.twb.open_ then twbAbandon (twbFlag F.twbStatClto s) else s

/-- SDA has been low for the timeout while SCL is high (R390). -/
def dataLow (s : State) : State :=
  if s.twb.cfg.toen then twbAbandon (twbFlag F.twbStatDlto s) else s

/-- A read of the Alert Response Address: answered with the node's own address while PEND is 1; a won response clears PEND (R392). -/
def alertResponse (won : Bool) (s : State) : State :=
  if s.b F.twbAlertPend ∧ s.twb.free then
    let s := s.answer .ok (2 * s.twb.cfg.addr)
    if won then (s.p F.twbAlertPend 0).p F.twbAlertAra 1 else s
  else s

/-! ### Second port (R396 to R398, R401) -/

/-- A release of the second port: its fields at reset (R396). -/
def twb2Relinquish (s : State) : State :=
  s.restore (fun x => decide (0x4000E800 ≤ x.fam.addr) && decide (x.fam.addr < 0x4000F000))

/-- A write of TWB2_OWN (R71, R396). -/
def twb2OwnW (id v : Nat) (s : State) : Code × State :=
  ownWrite F.twb2OwnOwner F.twb2OwnHeld 0 id v twb2Relinquish s

/-- A transfer runs on the second port (R398). -/
def twb2Run (s : State) : Bool := s.b F.twb2StatState

/-- An SCL pin and an SDA pin select the second port (R396, R397). -/
def twb2Pins (s : State) : Bool :=
  (s.g1 F.sysGpFunc 6 = 3 || s.g1 F.sysGpFunc 18 = 3) && (s.g1 F.sysGpFunc 7 = 3 || s.g1 F.sysGpFunc 19 = 3)

/-- What a write of TWB2_CMD.GO meets (R397). -/
def twb2GoCode (s : State) : Code :=
  if twb2Run s then .busy else if !twb2Pins s then .invalid else if !s.twb.lines2 then .busy else .ok

/-- A write of TWB2_CMD: a refused GO changes nothing; otherwise its fields, then GO unless a field was refused (R15, R396, R397). -/
def twb2CmdW (id addr v : Nat) (s : State) : Code × State :=
  if v.testBit 31 ∧ twb2GoCode s ≠ .ok then (twb2GoCode s, s)
  else
    let r := genWrite id addr v s
    let s := r.2.p F.twb2CmdGo 0
    (r.1, if r.1 = .ok ∧ v.testBit 31 then (s.p F.twb2StatState 1).modTwb (fun t => { t with rlen2 := s.g F.twb2CmdRlen }) else s)

/-- Writes of the second port's registers but for TWB2_OWN (R396). -/
def twb2Write (id addr v : Nat) (s : State) : Code × State :=
  if (fieldsAt addr).all (fun x => x.fam.acc = .ro) then genWrite id addr v s
  else
    match claimCheck F.twb2OwnOwner F.twb2OwnHeld 0 id s with
    | .ok =>
      if addr = F.twb2CmdAddr.addr then twb2CmdW id addr v s
      else if twb2Run s then (.busy, s)
      else genWrite id addr v s
    | c => (c, s)

/-- How a transfer of the second port ends: 0 all acknowledged, 1 a NACK, 2 arbitration lost, 3 the clock-low timeout (R398). -/
def twb2Code (k : Nat) : Code :=
  match k with
  | 0 => .ok
  | 1 => .invalid
  | 2 => .busy
  | _ => .timeout

/-- The bytes received stand in the RX registers, zeros beyond (R398). -/
def twb2Rx (bs : List (BitVec 8)) (s : State) : State :=
  (List.range 4).foldl (fun t k => t.p1 F.twb2RxData k (ofLe ((padTo 16 bs).drop (4 * k) |>.take 4))) s

/-- A transfer of the second port ends (R398); the timeout is judged only with TOEN (R397). -/
def twb2Done (k npos : Nat) (rx : List (BitVec 8)) (s : State) : State :=
  if !twb2Run s || (decide (3 ≤ k) && !s.b F.twb2CfgToen) then s
  else
    let s := (s.p F.twb2StatState 0).p F.twb2StatCode (twb2Code k).num
    let s := if k = 1 then s.p F.twb2StatNpos npos else s
    let s := s.p F.twb2StatArbl (bit (decide (k = 2)))
    raiseLine lineTwb2Done (twb2Rx (rx.take s.twb.rlen2) s)

/-- Writes of the TWB block (R396, R400, R401). -/
def twbWrite (id addr v : Nat) (s : State) : Code × State :=
  if addr = F.twbCommitCommit.addr then if v.testBit 0 then twbCommit id s else (.ok, s)
  else if addr = F.twbAlertEn.addr then twbAlertW id addr v s
  else if addr = F.twb2OwnHeld.addr then twb2OwnW id v s
  else if 0x4000E800 ≤ addr then twb2Write id addr v s
  else genWrite id addr v s

end Sys2Proof.Machine
end

