-- ==== Sys2Proof/Machine/Bus.lean ====
section
/-! DEFINITION. The interconnect: one access, judged in the order of R122 and served by its target (R110, R115 to R118, R122, R123, R129 to R131, R134). -/

namespace Sys2Proof.Machine

/-! ### Memory targets -/

/-- Which widths a target takes, in bytes, aligned (R116). -/
def widthOk (addr width : Nat) : Bool :=
  addr % width = 0 &&
  (if addr < 0x00100000 then width = 1 || width = 2 || width = 4 || width = 8
  else if addr < 0x20000000 then width = 1 || width = 2 || width = 4
  else width = 4)

/-- A read of SRAM (R130, R131). -/
def sramRead (id addr width : Nat) (s : State) : Code × Nat × State :=
  if NSet.has s.sramGood (addr / 8) then
    (.ok, s.bytesLE addr width, if NSet.has s.sramOne (addr / 8) then sramCorr addr s else s)
  else (.integrity, 0, sramUncorr id addr s)

/-- A write of SRAM: a whole 64-bit word replaces it, a part is merged into a word that verifies (R129, R131). -/
def sramWrite (id addr width v : Nat) (s : State) : Code × State :=
  let w := addr / 8
  if width = 8 then
    let s := s.setBytesLE addr 8 v
    (.ok, { s with sramGood := NSet.add s.sramGood w, sramOne := NSet.del s.sramOne w })
  else if NSet.has s.sramGood w then
    (.ok, (if NSet.has s.sramOne w then sramCorr addr s else s).setBytesLE addr width v)
  else (.integrity, sramUncorr id addr s)

/-- Line operations already granted are served before an access that comes after them (R356). -/
def nvsDrain (s : State) : State := (s.nvs.q ++ s.nvs.wait).foldl (fun t _ => lineDone true t) s

/-- A read of the NVS array (R352). -/
def nvsRead (id addr width : Nat) (s : State) : Code × Nat × State :=
  let (ok, s) := checkLine addr (.read id) (nvsDrain s)
  if ok then (.ok, s.bytesLE addr width, s) else (.integrity, 0, s)

/-- A write of part of a line of the NVS array (R129, R353, R354, R363). -/
def nvsWrite (id addr width v : Nat) (s : State) : Code × State :=
  if nvsPrivate addr then (.denied, s)
  else if s.b F.nvsStatWlock then (.busy, s)
  else
    let (ok, s) := rmwLine addr width v (.rmw id) (nvsDrain s)
    (if ok then .ok else .integrity, s)

/-- A read of the OTP window (R403). -/
def otpWindowRead (addr : Nat) (s : State) : Code × Nat × State :=
  let (v, s) := otpWindow ((addr - 0x20000000) / 4) s
  (.ok, v, s)

/-- The number of the context RAM word at an address: 16 c + r (R134). -/
def ctxWord (addr : Nat) : Nat := (addr - 0x30000000) / 4

/-- A read of context RAM (R118, R134). -/
def ctxRamRead (addr : Nat) (s : State) : Code × Nat × State :=
  let w := ctxWord addr
  if NSet.has s.seq.badPar w then (.integrity, 0, s) else (.ok, (Tab.val 0 s.seq.gregs w : Word).toNat, s)

/-- A write of context RAM, while the context is in HALT or FAULT (R118, R134). -/
def ctxRamWrite (addr v : Nat) (s : State) : Code × State :=
  let w := ctxWord addr
  if ctxEditable (w / 16) s then
    let s := s.setGr (w / 16) (w % 16) (BitVec.ofNat 32 v)
    (.ok, { s with seq := { s.seq with badPar := NSet.del s.seq.badPar w } })
  else (.busy, s)

/-- A read of trace RAM (R118). -/
def traceRead (addr : Nat) (s : State) : Code × Nat × State :=
  if NSet.has s.ce.trcBad ((addr - 0x30010000) / 4) then (.integrity, 0, s) else (.ok, s.bytesLE addr 4, s)

/-- A write of trace RAM: only by CE (R116). -/
def traceWrite (id addr v : Nat) (s : State) : Code × State :=
  if id = idCe then (.ok, trcWord addr v s) else (.denied, s)

/-! ### Peripheral targets -/

/-- A write of NVS_COMMIT; the line address is judged as an access of its own (R122, R358). None while the line write is queued. -/
def nvsCommit (id : Nat) (s : State) : Option Code × State :=
  nvsCommitW id (fun a => granted id a .write s) (fun a t => accDeny id a 2 .write t) (domUp 11 s) s

/-- A write of NVS_COMMIT that waits for its line write to end (R356, R358). -/
def nvsCommitWait (id : Nat) (s : State) : Code × State :=
  match nvsCommit id s with
  | (some c, s) => (c, s)
  | (none, s) =>
    let s := nvsDrain s
    (s.resp.code, s)

/-- A register write reaches its block: check 5 of R122. -/
def regWrite (id addr v : Nat) (s : State) : Code × State :=
  if pstNode addr then pstWrite id addr v s
  else
    match blockOf addr with
    | 0 => sysWrite id addr v s
    | 1 => stmWrite id addr v s
    | 2 => accWrite id addr v s
    | 3 => seqWrite id addr v s
    | 4 => jnlWrite id addr v s
    | 5 => slkWrite id addr v s
    | 6 => pstWrite id addr v s
    | 7 => pstWrite id addr v s
    | 8 => ceWrite id addr v s
    | 9 => adcWrite id addr v s
    | 10 => if 0xF00 ≤ addr % 0x1000 then domWrite id addr v s else hkrWrite id addr v s
    | 11 => chgWrite id addr v s
    | 12 =>
      if addr = F.nvsCommitCommit.addr then if v.testBit 0 then nvsCommitWait id s else (.ok, s)
      else nvsRegWrite id addr v s
    | 13 => dmaWrite id addr v s
    | 14 => twbWrite id addr v s
    | 15 => otpWrite id addr v s
    | 16 => fltWrite id addr v s
    | 17 => rtcWrite id addr v s
    | 18 => fanWrite id addr v s
    | 19 => trcWrite id addr v s
    | 20 => cryWrite id addr v s
    | 21 => tmrWrite id addr v s
    | _ => (.invalid, s)

/-- A register read reaches its block. -/
def regRead (id addr : Nat) (s : State) : Code × Nat × State :=
  if pstNode addr then pstRead addr s
  else
    match blockOf addr with
    | 0 => sysRead addr s
    | 1 => stmRead id addr s
    | 3 => seqRead id addr s
    | 5 => slkRead addr s
    | 6 => pstRead addr s
    | 7 => pstRead addr s
    | 8 => ceRead id addr s
    | 9 => adcRead addr s
    | 15 => otpRead addr s
    | 16 => fltRead id addr s
    | 17 => rtcRead id addr s
    | 18 => fanRead addr s
    | _ => genRead addr s

/-! ### One access -/

/-- The target serves a write that passed checks 1 to 4 (R122). -/
def serveWrite (id addr width v : Nat) (s : State) : Code × State :=
  if addr < 0x00100000 then sramWrite id addr width v s
  else if addr < 0x20000000 then nvsWrite id addr width v s
  else if addr < 0x30000000 then (.denied, s)
  else if addr < 0x30010000 then ctxRamWrite addr v s
  else if addr < 0x40000000 then traceWrite id addr v s
  else regWrite id addr v s

/-- The target serves a read that passed checks 1 to 4 (R122). -/
def serveRead (id addr width : Nat) (s : State) : Code × Nat × State :=
  if addr < 0x00100000 then sramRead id addr width s
  else if addr < 0x20000000 then nvsRead id addr width s
  else if addr < 0x30000000 then otpWindowRead addr s
  else if addr < 0x30010000 then ctxRamRead addr s
  else if addr < 0x40000000 then traceRead addr s
  else regRead id addr s

/-- Checks 1 to 4 of R122; a code when one fails, with the report of a denial (R123). -/
def busCheck (id addr width : Nat) (k : AccKind) (s : State) : Option Code × State :=
  if !mapped addr then (some .invalid, s)
  else if !granted id addr k s then (some .denied, accDeny id addr (targetOf addr s).1 k s)
  else if !widthOk addr width then (some .invalid, s)
  else if !domUp (domainOf addr) s then (some .busy, s)
  else (none, s)

/-- A write access (R122). The report of R123 belongs to the access table's refusal; a DENIED of the target's own rules leaves none. -/
def busWrite (id addr width v : Nat) (s : State) : Code × State :=
  match busCheck id addr width .write s with
  | (some c, s) => (c, s)
  | (none, s) => serveWrite id addr width v s

/-- A read access (R122). -/
def busRead (id addr width : Nat) (s : State) : Code × Nat × State :=
  match busCheck id addr width .read s with
  | (some c, s) => (c, 0, s)
  | (none, s) => serveRead id addr width s

/-- An instruction fetch, judged by the ranges of R116, the X right, the alignment and the domain; X stands in SRAM alone (R121, R122, R165). -/
def busFetch (id addr : Nat) (s : State) : Code × Nat × State :=
  if !inMap addr then (.invalid, 0, s)
  else if !granted id addr .fetch s then (.denied, 0, accDeny id addr (targetOf addr s).1 .fetch s)
  else if !widthOk addr 4 then (.invalid, 0, s)
  else if !domUp (domainOf addr) s then (.busy, 0, s)
  else serveRead id addr 4 s

/-! ### Flags that hardware sets on the edge of an access (R9, R496) -/

/-- The bits of a register that hardware may set and a write of 1 clears. -/
def w1cMask (addr : Nat) : Nat :=
  (fieldsAt addr).foldl (fun m x => if x.fam.acc = .w1c then m + (2 ^ x.fam.w - 1) * 2 ^ x.fam.lo else m) 0

/-- Hardware sets W1C bits of a register. -/
def hwSet (addr bits : Nat) (s : State) : State :=
  (fieldsAt addr).foldl (fun t x => if x.fam.acc = .w1c then t.pf x (t.gf x ||| x.bits bits) else t) s

/-- Hardware counts in the RC fields of a register, or sets them: what falls on the edge of a read is kept behind its clear (R9). -/
def hwCount (addr n : Nat) (s : State) : State :=
  (fieldsAt addr).foldl (fun t x =>
    if x.fam.acc = .rc then t.pf x (min (t.gf x + x.bits n) (2 ^ x.fam.w - 1)) else t) s

/-! ### Initiators (R109, R110) -/

/-- A port exists that emits the ID while commands reach it: never 4 or 15, and 3 only while the debug path is open (R29, R109, R110). -/
def idLive (id : Nat) (s : State) : Bool :=
  awake s && decide (id < 15) && decide (id ≠ 4) && (id ≠ idDebug || (s.sec.tap = .debug && debugOpen s))

end Sys2Proof.Machine
end

