-- ==== Sys2Proof/Machine/Arb.lean ====
section
/-! DEFINITION. Arbitration at a target among the requests that wait there: those of contexts and of DMA channels (R112, R113, R115, log 99). -/

namespace Sys2Proof.Machine

/-! ### What waits (R112, R368 to R372) -/

/-- A source whose request waits: a context, or a DMA channel (R115). -/
inductive ReqSource where
  | ctx (c : Nat)
  | chan (n : Nat)
deriving DecidableEq, Repr

/-- A request that waits at a target: its source, class and initiator ID. -/
structure Waiting where
  src : ReqSource
  cls : Nat
  id : Nat
deriving DecidableEq, Repr

/-- The initiator ID of a context (R109). -/
def ctxId (c : Nat) (s : State) : Nat := idFd (s.ctx c).dom

/-- The address of the descriptor at HEAD (R371). -/
def dmaDesc (n : Nat) (s : State) : Nat := s.g1 F.dmaChRbaseBase n + 16 * s.g1 F.dmaChPosHead n

/-- The address of the access a channel makes at its step (R369, R371, R372). -/
def dmaAddr (n : Nat) (s : State) : Nat :=
  match (s.chan n).step with
  | .fetch0 => dmaDesc n s
  | .fetch1 => dmaDesc n s + 8
  | .read => (s.chan n).src
  | .write => (s.chan n).dst
  | .word3 => dmaDesc n s + 12
  | .word0 => dmaDesc n s

/-- The class of a channel's request: its class field, and CONTROL once a BULK one has waited 32 SCLK (R112, R113). -/
def dmaCls (n : Nat) (s : State) : Cls :=
  if s.b1 F.dmaChCfgClass n || decide ((s.chan n).issued + 32 ≤ s.stm.sclk) then .control else .bulk

/-- The request of a context's load or store in flight, at target `t`. -/
def ctxWaiting (t : Nat) (s : State) (e : Nat × Ctx) : Option Waiting :=
  match e.2.st, e.2.infl with
  | .run, some f =>
    if mapped f.addr ∧ (targetOf f.addr s).1 = t then some ⟨.ctx e.1, f.cls.num, idFd e.2.dom⟩ else none
  | _, _ => none

/-- The request of a channel's access in flight, at target `t`. -/
def dmaWaiting (t : Nat) (s : State) (e : Nat × DmaChan) : Option Waiting :=
  let a := dmaAddr e.1 s
  if e.2.infl ∧ dmaState e.1 s = dmaRun ∧ mapped a ∧ (targetOf a s).1 = t then
    some ⟨.chan e.1, (dmaCls e.1 s).num, s.g1 F.dmaChStatOwner e.1⟩
  else none

/-- The requests that wait at a target (R113, R115). -/
def rivals (t : Nat) (s : State) : List Waiting :=
  s.seq.ctxs.filterMap (ctxWaiting t s) ++ s.dma.chans.filterMap (dmaWaiting t s)

/-! ### Grants (R113) -/

/-- How far initiator `id` stands behind the one a target granted last, in the rotation (R113). -/
def rotation (t id : Nat) (s : State) : Nat :=
  match Tab.get s.seq.granted t with
  | some g => (id + 16 - g - 1) % 16
  | none => id

/-- At target `t`, a request of class `k` by `a` is granted ahead of one of class `l` by `b`: the higher class, and within a class the rotation by initiator ID (R113). -/
def aheadOf (t k a l b : Nat) (s : State) : Bool :=
  decide (l < k) || (decide (k = l) && decide (rotation t a s < rotation t b s))

/-- No waiting request is granted ahead of one of initiator `id` in class `k` (R113). -/
def arbGrants (t k id : Nat) (s : State) : Bool := (rivals t s).all (fun r => !aheadOf t r.cls r.id k id s)

/-- A request at an address may be granted now; one that reaches no target meets no rival (R113, R117). -/
def mayGrant (addr : Nat) (k id : Nat) (s : State) : Bool := !mapped addr || arbGrants (targetOf addr s).1 k id s

/-- The target of an access remembers the initiator it granted (R113). -/
def noteGrant (addr id : Nat) (s : State) : State :=
  if mapped addr then { s with seq := { s.seq with granted := Tab.set s.seq.granted (targetOf addr s).1 id } } else s

end Sys2Proof.Machine
end

