-- ==== Sys2Proof/Machine/Dma.lean ====
section
/-! DEFINITION. The DMA engine: which channel issues, and what a channel does when its access completes (R368 to R378). -/

namespace Sys2Proof.Machine

/-! ### Issue (R374, R375) -/

/-- A paced channel's request stands (R374). -/
def dmaPaced (n : Nat) (s : State) : Bool :=
  match s.g1 F.dmaChCfgReq n with
  | 1 => adcDmaReq 0 s
  | 2 => adcDmaReq 1 s
  | _ => true

/-- Channel `n` is ready to issue its next access (R374, R375). -/
def dmaReady (n : Nat) (s : State) : Bool :=
  decide (dmaState n s = dmaRun) && !(s.chan n).infl && ((s.chan n).step ≠ .read || dmaPaced n s)

/-- The first of some channels in rotation after the one that issued last (R375). -/
def dmaRotate (last : Option Nat) (ns : List Nat) : Option Nat :=
  match last with
  | some l => (ns.find? (fun n => decide (l < n))).orElse (fun _ => ns.head?)
  | none => ns.head?

/-- The key of a class and priority in the record of who issued last. -/
def dmaLevel (n : Nat) (s : State) : Nat := 4 * s.g1 F.dmaChCfgClass n + s.g1 F.dmaChCfgPri n

/-- The channel that some candidates of one class issue: the highest priority, then rotation (R375). -/
def dmaBest (ns : List Nat) (s : State) : Option Nat :=
  let top := ns.foldl (fun m n => max m (s.g1 F.dmaChCfgPri n)) 0
  let l := ns.filter (fun n => s.g1 F.dmaChCfgPri n = top)
  dmaRotate ((l.head?).bind (fun n => Tab.get s.dma.last (dmaLevel n s))) l

/-- The channel the block selects: class, then starved channels, then priority and rotation (R375). -/
def dmaPick (s : State) : Option Nat :=
  let ready := (List.range 32).filter (fun n => dmaReady n s)
  let ctl := ready.filter (fun n => s.b1 F.dmaChCfgClass n)
  let ns := if ctl.isEmpty then ready else ctl
  let starved := ns.filter (fun n => (s.chan n).starved)
  dmaBest (if starved.isEmpty then ns else starved) s

/-- The block issues one access (R375). -/
def dmaIssue (s : State) : State :=
  match dmaPick s with
  | some n =>
    let s := s.modChan n (fun c => { c with infl := true, issued := s.stm.sclk, starved := false })
    { s with dma := { s.dma with last := Tab.set s.dma.last (dmaLevel n s) n } }
  | none => s

/-- The SCLK count since which channel `n` has been ready: its access is due, and its request stands where it is paced (R374, R375). -/
def dmaReadySince (n : Nat) (s : State) : Nat :=
  let c := s.chan n
  match (if c.step = .read then s.g1 F.dmaChCfgReq n else 0) with
  | 1 => max c.since (s.conv 0).reqAt
  | 2 => max c.since (s.conv 1).reqAt
  | _ => c.since

/-- Channel `n` has been ready for 256 SCLK without issuing (R375). -/
def dmaStarve (n : Nat) (s : State) : State :=
  if dmaReady n s && decide (dmaReadySince n s + 256 ≤ s.stm.sclk) then s.modChan n (fun c => { c with starved := true }) else s

/-! ### Completion (R368 to R373, R376, R378) -/

/-- An address of the DMA block, which no channel may reach (R368). -/
def dmaOwnBlock (addr : Nat) : Bool := decide (0x4000D000 ≤ addr) && decide (addr < 0x4000E000)

/-- A channel's read under its owner's ID (R111, R368). -/
def dmaRead (n addr width : Nat) (s : State) : Code × Nat × State :=
  let id := s.g1 F.dmaChStatOwner n
  if dmaOwnBlock addr then
    match busCheck id addr width .read s with
    | (some c, s) => (c, 0, s)
    | (none, s) => (.denied, 0, s)
  else busRead id addr width s

/-- A channel's write under its owner's ID (R111, R368). -/
def dmaStore (n addr width v : Nat) (s : State) : Code × State :=
  let id := s.g1 F.dmaChStatOwner n
  if dmaOwnBlock addr then
    match busCheck id addr width .write s with
    | (some c, s) => (c, s)
    | (none, s) => (.denied, s)
  else busWrite id addr width v s

/-- The transfer's CNT, WIDTH, SINC and DINC: of the descriptor in ring mode, else of the registers (R369, R370). -/
def dmaShape (n : Nat) (s : State) : Nat × Nat × Bool × Bool :=
  if s.b1 F.dmaChCfgMode n then
    let w := (s.chan n).w0
    (w % 2 ^ 20, widthBytes (w / 2 ^ 20 % 4), w.testBit 22, w.testBit 23)
  else (s.g1 F.dmaChCntCnt n, widthBytes (s.g1 F.dmaChCfgWidth n), s.b1 F.dmaChCfgSinc n, s.b1 F.dmaChCfgDinc n)

/-- A channel moves to its next access, or to IDLE when an ABORT waits (R378). -/
def dmaGo (n : Nat) (st : DmaStep) (s : State) : State :=
  if (s.chan n).abort then (s.p1 F.dmaChStatState n dmaIdle).modChan n (fun _ => {})
  else s.modChan n (fun c => { c with infl := false, step := st, since := s.stm.sclk })

/-- A channel stops in IDLE. -/
def dmaRest (n : Nat) (s : State) : State := (s.p1 F.dmaChStatState n dmaIdle).modChan n (fun _ => {})

/-- What a failed access leaves in the channel's registers (R376). -/
def dmaNote (n : Nat) (c : Code) (phase : Nat) (wr : Bool) (addr : Nat) (s : State) : State :=
  (((s.p1 F.dmaChStatCode n c.num).p1 F.dmaChStatErrph n phase).p1 F.dmaChStatSide n (bit wr)).p1 F.dmaChErraddrAddr n addr

/-- A failed access stops the channel: ERROR, or IDLE when an ABORT waits (R376, R378). -/
def dmaHalt (n : Nat) (s : State) : State :=
  if (s.chan n).abort then dmaRest n s else dmaFail n (s.modChan n (fun _ => {}))

/-- A data access failed: write-back in ring mode, else ERROR (R376). -/
def dmaDataError (n : Nat) (c : Code) (wr : Bool) (addr : Nat) (s : State) : State :=
  let s := dmaNote n c 0 wr addr s
  if s.b1 F.dmaChCfgMode n then dmaGo n .word3 (s.modChan n (fun x => { x with code := c.num, failed := true }))
  else dmaHalt n s

/-- A read of words 0 and 1 completes (R371, R373). -/
def dmaFetch0 (n : Nat) (s : State) : State :=
  let a := dmaDesc n s
  let (c, d, s) := dmaRead n a 8 s
  if c ≠ .ok then dmaHalt n (dmaNote n c 1 false a s)
  else if !d.testBit 31 then
    if s.b1 F.dmaChStatKpend n then dmaGo n .fetch0 (s.p1 F.dmaChStatKpend n 0)
    else if (s.chan n).abort then dmaRest n s
    else (s.p1 F.dmaChStatState n dmaEmpty).modChan n (fun _ => {})
  else dmaGo n .fetch1 (s.modChan n (fun x => { x with w0 := d % 2 ^ 32, src := d / 2 ^ 32, code := 0, failed := false }))

/-- A read of words 2 and 3 completes, and the descriptor is checked (R371). -/
def dmaFetch1 (n : Nat) (s : State) : State :=
  let a := dmaDesc n s + 8
  let (c, d, s) := dmaRead n a 8 s
  if c ≠ .ok then dmaHalt n (dmaNote n c 1 false a s)
  else
    let s := (s.p1 F.dmaChPosDone n 0).modChan n (fun x => { x with dst := d % 2 ^ 32 })
    let x := s.chan n
    let (cnt, w, _, _) := dmaShape n s
    if x.w0 / 2 ^ 26 % 32 ≠ 0 ∨ x.src % w ≠ 0 ∨ x.dst % w ≠ 0 then
      dmaGo n .word3 (s.modChan n (fun x => { x with code := Code.invalid.num }))
    else dmaGo n (if cnt = 0 then .word3 else .read) s

/-- A source read completes (R369). -/
def dmaElemRead (n : Nat) (s : State) : State :=
  let a := (s.chan n).src
  let (_, w, _, _) := dmaShape n s
  let (c, d, s) := dmaRead n a w s
  if c = .ok then dmaGo n .write (s.modChan n (fun x => { x with data := d })) else dmaDataError n c false a s

/-- A destination write completes: the element is done, and the transfer with its last one (R369). -/
def dmaElemWrite (n : Nat) (s : State) : State :=
  let x := s.chan n
  let (cnt, w, sinc, dinc) := dmaShape n s
  let (c, s) := dmaStore n x.dst w x.data s
  if c ≠ .ok then dmaDataError n c true x.dst s
  else
    let k := s.g1 F.dmaChPosDone n + 1
    let step := fun (on : Bool) (a : Nat) => if on then (a + w) % 2 ^ 32 else a
    let s := (s.p1 F.dmaChPosDone n k).modChan n (fun y => { y with src := step sinc y.src, dst := step dinc y.dst })
    if k < cnt then dmaGo n .read s
    else if s.b1 F.dmaChCfgMode n then dmaGo n .word3 s
    else
      let s := dmaRest n (s.p1 F.dmaChStatCode n 0)
      if s.b1 F.dmaChCfgIe n then dmaEvent n s else s

/-- The write-back of word 3 completes (R372). -/
def dmaWord3 (n : Nat) (s : State) : State :=
  let a := dmaDesc n s + 12
  let (c, s) := dmaStore n a 4 ((s.chan n).code + 2 ^ 8 * s.g1 F.dmaChPosDone n) s
  if c = .ok then dmaGo n .word0 s else dmaHalt n (dmaNote n c 2 true a s)

/-- The write-back of word 0 completes: the descriptor is done (R371, R372, R376, R378). -/
def dmaWord0 (n : Nat) (s : State) : State :=
  let a := dmaDesc n s
  let x := s.chan n
  let (c, s) := dmaStore n a 4 (x.w0 % 2 ^ 31) s
  if c ≠ .ok then dmaHalt n (dmaNote n c 3 true a s)
  else
    let s := s.p1 F.dmaChPosHead n ((s.g1 F.dmaChPosHead n + 1) % s.g1 F.dmaChRsizeSize n)
    let s := s.p1 F.dmaChStatCode n x.code
    let s := if x.w0.testBit 24 || x.code ≠ 0 then dmaEvent n s else s
    if x.failed then dmaHalt n s
    else if x.w0.testBit 25 then dmaRest n s
    else dmaGo n .fetch0 s

/-- The access in flight of channel `n` completes (R371). -/
def dmaServe (n : Nat) (s : State) : State :=
  if dmaState n s ≠ dmaRun || !(s.chan n).infl then s
  else
    let step := match (s.chan n).step with
      | .fetch0 => dmaFetch0 n
      | .fetch1 => dmaFetch1 n
      | .read => dmaElemRead n
      | .write => dmaElemWrite n
      | .word3 => dmaWord3 n
      | .word0 => dmaWord0 n
    oneEdge step (noteGrant (dmaAddr n s) (s.g1 F.dmaChStatOwner n) s)

/-- The access of channel `n` completes once its target grants it (R113, R371, R375). -/
def dmaDone (n : Nat) (s : State) : State :=
  if mayGrant (dmaAddr n s) (dmaCls n s).num (s.g1 F.dmaChStatOwner n) s then dmaServe n s else s

end Sys2Proof.Machine
end

