-- ==== Sys2Proof/Machine/LelasCore.lean ====
section
/-! DEFINITION. The Lelas engine: fields of an instruction word, fetch and prefetch, the issue of one instruction, and how it retires (R133, R136, R137, R156 to R165). -/

namespace Sys2Proof.Machine

/-! ### Fields of an instruction word (R156) -/

/-- OP, bits [31:26] (R156). -/
def lwOp (w : Nat) : Nat := w / 2 ^ 26 % 64
/-- RD, bits [25:22] (R156). -/
def lwRd (w : Nat) : Nat := w / 2 ^ 22 % 16
/-- RA, bits [21:18] (R156). -/
def lwRa (w : Nat) : Nat := w / 2 ^ 18 % 16
/-- RB, bits [17:14] (R156). -/
def lwRb (w : Nat) : Nat := w / 2 ^ 14 % 16
/-- FUNC, bits [3:0] (R156). -/
def lwFunc (w : Nat) : Nat := w % 16
/-- IMM, bits [17:0] (R156). -/
def lwImm (w : Nat) : BitVec 18 := BitVec.ofNat 18 w
/-- RA of format B, bits [25:22] (R156). -/
def lwBa (w : Nat) : Nat := lwRd w
/-- RB of format B, bits [21:18] (R156). -/
def lwBb (w : Nat) : Nat := lwRa w
/-- TGT of format J, bits [25:0] (R156). -/
def lwTgt (w : Nat) : Nat := w % 2 ^ 26
/-- X of format E, bits [17:16] (R156). -/
def lwX (w : Nat) : Nat := w / 2 ^ 16 % 4
/-- K of format E, bits [15:0] (R156). -/
def lwK (w : Nat) : Nat := w % 2 ^ 16

/-- What an instruction's row fixes: OP, FUNC under OP 0x01, the bits that must be zero, whether RD must be even, and the registers it reads (R156, R157, R160). -/
structure LelasRow where
  op : Nat
  func : Option Nat := none
  zero : Nat := 0
  even : Bool := false
  src : Nat → List Nat := fun _ => []

/-- A word carries the row's opcode, and its FUNC under OP 0x01 (R160, R161). -/
def LelasRow.names (r : LelasRow) (w : Nat) : Bool :=
  decide (lwOp w = r.op) && (match r.func with
    | some f => decide (lwFunc w = f)
    | none => true)

/-- A word of the row obeys the encoding rules (R156, R157). -/
def LelasRow.legal (r : LelasRow) (w : Nat) : Bool := decide (w &&& r.zero = 0) && (!r.even || decide (lwRd w % 2 = 0))

/-- The opcodes of R160. -/
def lelasOps : List Nat :=
  (List.range 13).map (· + 1) ++ (List.range 7).map (· + 0x10) ++ (List.range 5).map (· + 0x18) ++
    (List.range 11).map (· + 0x20) ++ (List.range 7).map (· + 0x30) ++ (List.range 8).map (· + 0x38)

/-! ### Issue rule (R136, R137) -/

/-- The contexts in READY. -/
def readyCtxs (s : State) : List Nat := (s.seq.ctxs.filter (fun e => e.2.st = .ready)).map (·.1)

/-- The context the engine issues next: the highest effective priority, and in that level rotation after the one that issued last (R136). -/
def lelasPick (s : State) : Option Nat :=
  let r := readyCtxs s
  let top := r.foldl (fun m c => max m (epri s c)) 0
  let l := r.filter (fun c => epri s c = top)
  match Tab.get s.seq.last top with
  | some k => (l.find? (fun c => decide (k < c))).orElse (fun _ => l.head?)
  | none => l.head?

/-- The engine executes user instructions: boot's last step has released the entry fronds (R96, R98, R100). -/
def released (s : State) : Bool := s.pow.phase = .running

/-- The engine issues an instruction of context `c` (R136). -/
def lelasTurn (c : Nat) (s : State) : Bool := released s && decide (lelasPick s = some c)

/-- The class of a context's requests (R112, R163). -/
def ctxCls (c : Nat) (s : State) : Cls :=
  match epri s c with
  | 0 => .bulk
  | 1 => .control
  | 2 => .control
  | _ => .urgent

/-! ### Fetch (R158, R165) -/

/-- The word at the PC: a prefetched one, or a fetch (R165). -/
def ctxFetch (c : Nat) (s : State) : Code × Nat × State :=
  let x := s.ctx c
  match x.pre.find? (fun e => e.1 = x.pc) with
  | some e => (.ok, e.2, s)
  | none => busFetch (ctxId c s) x.pc s

/-- A word the engine can prefetch: one that would read cleanly (log 28). -/
def canPrefetch (id a : Nat) (s : State) : Bool :=
  decide (a % 4 = 0) && decide (a < 0x100000) && granted id a .fetch s && domUp (domainOf a) s &&
    NSet.has s.sramGood (a / 8) && !NSet.has s.sramOne (a / 8)

/-- The next two sequential words are prefetched; a word already there stays as it was (R158, R165). -/
def prefetch (c : Nat) (s : State) : State :=
  let x := s.ctx c
  let id := ctxId c s
  let one := fun (a : Nat) =>
    match x.pre.find? (fun e => e.1 = a) with
    | some e => [e]
    | none => if canPrefetch id a s then [(a, s.word a)] else []
  s.setCtx c { x with pre := one ((x.pc + 4) % 2 ^ 32) ++ one ((x.pc + 8) % 2 ^ 32) }

/-! ### Retirement (R148, R157, R158) -/

/-- The PC moves to the next instruction, and the context is READY (R158). -/
def lelasNext (c : Nat) (s : State) : State :=
  let x := s.ctx c
  s.setCtx c { x with st := .ready, infl := none, pc := (x.pc + 4) % 2 ^ 32 }

/-- The instruction writes a register and retires (R157). -/
def lelasSet (c rd : Nat) (v : Word) (s : State) : State := lelasNext c (s.setGr c rd v)

/-- The instruction writes a register pair and retires (R157). -/
def lelasSet2 (c rd : Nat) (v v1 : Word) (s : State) : State := lelasNext c ((s.setGr c rd v).setGr c (rd + 1) v1)

/-- The instruction writes a completion code and retires. -/
def lelasCode (c rd : Nat) (k : Code) (s : State) : State := lelasSet c rd (BitVec.ofNat 32 k.num) s

/-- A taken transfer: the PC, and a fresh prefetch (R158, R166). -/
def lelasJump (c : Nat) (pc : Nat) (s : State) : State :=
  s.setCtx c { s.ctx c with st := .ready, pc := pc % 2 ^ 32, pre := [] }

/-- The instruction's issue is counted at its level (R136, R137). -/
def lelasCount (c : Nat) (s : State) : State :=
  let p := epri s c
  let s := { s with seq := { s.seq with last := Tab.set s.seq.last p c } }
  if p = 3 then s.setCtx c { s.ctx c with urg := (s.ctx c).urg + 1 } else s

/-- The context has issued all it may at effective priority 3 (R137). -/
def urgSpent (c : Nat) (s : State) : Bool :=
  decide (epri s c = 3) && decide (s.g F.seqCfgUrgmax ≤ (s.ctx c).urg)

/-- A source register fails parity (R118, R134). -/
def parityBad (c : Nat) (rs : List Nat) (s : State) : Bool := rs.any (fun r => NSet.has s.seq.badPar (16 * c + r))

/-- What stands between an instruction's issue and its effect, in order: URG_OVERRUN, ILLEGAL, PARITY (R137, R148, R156, R157). -/
def lelasFault (r : LelasRow) (w c : Nat) (s : State) : Option Nat :=
  if urgSpent c s then some causeUrgOverrun
  else if !r.legal w then some causeIllegal
  else if parityBad c (r.src w) s then some causeParity
  else none

/-- Context `c` issues one instruction of a row: nothing happens when the engine would issue another context, or its word is no instruction of this row (R136, R156 to R158). -/
def lelasIssue (r : LelasRow) (body : Nat → Nat → State → State) (c : Nat) (s : State) : State :=
  if !lelasTurn c s then s
  else
    match ctxFetch c s with
    | (.ok, w, t) =>
      if !r.names w then s
      else
        match lelasFault r w c s with
        | some cause => ctxFault c cause 0 (lelasCount c t)
        | none => body w c (prefetch c (lelasCount c t))
    | _ => s

/-! ### Loads and stores in flight (R113, R158, R163, R164) -/

/-- A load or store leaves the context: it is in RUN until the access completes (R135, R163, R164). -/
def lelasAccess (op : MemOp) (rd a c : Nat) (s : State) : State :=
  s.setCtx c { s.ctx c with st := .run, infl := some { op := op, addr := a, rd := rd, cls := ctxCls c s } }

/-- The access in flight of a context may complete (R113, R117). -/
def accessTurn (c : Nat) (f : InFlight) (s : State) : Bool := mayGrant f.addr f.cls.num (ctxId c s) s

/-- The context's instruction has retired: a STOP that waited for it takes effect (R135, R150). -/
def lelasRetired (c : Nat) (s : State) : State := if (s.ctx c).stop then haltCtx c s else s

/-- A value of n bytes, extended to 32 bits (R163). -/
def loadExt (bytes : Nat) (signed : Bool) (d : Nat) : Word :=
  match bytes with
  | 1 => if signed then (BitVec.ofNat 8 d).signExtend 32 else BitVec.ofNat 32 (d % 2 ^ 8)
  | 2 => if signed then (BitVec.ofNat 16 d).signExtend 32 else BitVec.ofNat 32 (d % 2 ^ 16)
  | _ => BitVec.ofNat 32 d

/-- The access of a load or store completes and the instruction retires, or faults with DATA (R148, R163, R164). -/
def lelasComplete (c : Nat) (f : InFlight) (s : State) : State :=
  let id := ctxId c s
  let ends := fun (k : Code) (t u : State) => if k = .ok then lelasRetired c u else ctxFault c causeData k.num t
  match f.op with
  | .load n sg =>
    let (k, d, s) := busRead id f.addr n s
    ends k s (lelasSet c f.rd (loadExt n sg d) s)
  | .loadPair =>
    let (k, d, s) := busRead id f.addr 8 s
    ends k s (lelasSet2 c f.rd (BitVec.ofNat 32 d) (BitVec.ofNat 32 (d / 2 ^ 32)) s)
  | .loadChecked =>
    let (k, d, s) := busRead id f.addr 4 s
    let v := if k = .ok then d else 0
    lelasRetired c (lelasSet2 c f.rd (BitVec.ofNat 32 v) (BitVec.ofNat 32 k.num) s)
  | .store n v =>
    let (k, s) := busWrite id f.addr n v s
    ends k s (lelasNext c s)
  | .storeChecked v =>
    let (k, s) := busWrite id f.addr 4 v s
    lelasRetired c (lelasSet c (f.rd + 1) (BitVec.ofNat 32 k.num) s)

/-- The word at the PC of the context in turn is no instruction: the fetch fails, or its opcode is reserved (R148, R156, R165). -/
def lelasNoInstr (c : Nat) (s : State) : State :=
  match ctxFetch c s with
  | (.ok, w, t) =>
    if lelasOps.contains (lwOp w) then s
    else ctxFault c (if urgSpent c s then causeUrgOverrun else causeIllegal) 0 (lelasCount c t)
  | (k, _, t) => ctxFault c causeFetch k.num (lelasCount c t)

/-- The access of a context returns, or the word it would issue is no instruction (R148, R158, R164). -/
def retireOne (c : Nat) (s : State) : State :=
  match (s.ctx c).st, (s.ctx c).infl with
  | .run, some f => if accessTurn c f s then lelasComplete c f (noteGrant f.addr (ctxId c s) s) else s
  | _, _ => if lelasTurn c s then lelasNoInstr c s else s

/-- INSTRUCTION_RETIRE: context `c`, and on the same edge another one; faults of one edge are one event of source SEQ, whose severe action takes the domain of each (R148, R150, R158, R164, R426). -/
def instructionRetire (c : Nat) (also : Option Nat) (s : State) : State :=
  if !awake s then s
  else oneEdge (fun s =>
    let s := retireOne c s
    match also with
    | some d => if d = c then s else retireOne d s
    | none => s) s

/-- A BULK request of a context that has waited 32 SCLK is promoted (R113). -/
def bulkPromote (c : Nat) (s : State) : State :=
  match (s.ctx c).st, (s.ctx c).infl with
  | .run, some f =>
    if awake s ∧ f.cls = .bulk then s.setCtx c { s.ctx c with infl := some { f with cls := .control } } else s
  | _, _ => s

end Sys2Proof.Machine
end

