-- ==== Sys2Proof/Machine/Port.lean ====
section
/-! DEFINITION. The accesses of initiator ports that a command completes at once: what their target grants ahead of them, and then the access (R110, R112, R113, R115). -/

namespace Sys2Proof.Machine

/-- The request that waits with a source is granted and completes (R113, R164, R371). -/
def serveWaiting (w : Waiting) (s : State) : State :=
  match w.src with
  | .ctx c =>
    match (s.ctx c).infl with
    | some f => lelasComplete c f (noteGrant f.addr (ctxId c s) s)
    | none => s
  | .chan n => dmaServe n s

/-- Requests that wait at target `t` and are granted ahead of one of class `k` by `id` complete first, each when its turn comes (R113). -/
def serveAhead (t k id : Nat) : Nat → State → State
  | 0, s => s
  | n + 1, s =>
    match (rivals t s).find? (fun w => aheadOf t w.cls w.id k id s && arbGrants t w.cls w.id s) with
    | some w => serveAhead t k id n (serveWaiting w s)
    | none => s

/-- What the target of a port's access grants before it; the grant is remembered where other requests wait (R112, R113, log 99). -/
def portTurn (id addr : Nat) (s : State) : State :=
  if !mapped addr then s
  else
    let t := (targetOf addr s).1
    let l := rivals t s
    if l.isEmpty then s else noteGrant addr id (serveAhead t (idCls id).num id l.length s)

/-- A port's write (R113, R122). -/
def portStoreAt (id addr width v : Nat) (s : State) : Code × State := busWrite id addr width v (portTurn id addr s)

/-- A port's read (R113, R122). -/
def portLoadAt (id addr width : Nat) (s : State) : Code × Nat × State := busRead id addr width (portTurn id addr s)

/-- A write access by an initiator, whose code is the block's answer. -/
def portStore (id addr width v : Nat) (s : State) : State :=
  if idLive id s then
    let (c, s) := portStoreAt id addr width v s
    s.answer c
  else s

/-- A read access by an initiator, whose code and data are the block's answer. -/
def portLoad (id addr width : Nat) (s : State) : State :=
  if idLive id s then
    let (c, d, s) := portLoadAt id addr width s
    s.answer c d
  else s

end Sys2Proof.Machine
end

