-- ==== Sys2Proof/Machine/Image.lean ====
section
/-! DEFINITION. Program images: the header's structural checks, digest and signature, and how boot selects and copies one (R97, R152 to R154, R188). -/

namespace Sys2Proof.Machine

/-! ### Header fields (R152) -/

/-- The base of slot A (0) or B (1) (R355). -/
def slotBase (k : Nat) : Nat := 0x10040000 + 0x20000 * k

/-- A half-word of memory. -/
def State.half (s : State) (a : Nat) : Nat := s.bytesLE a 2

/-- IMGLEN (R152). -/
def imgLen (b : Nat) (s : State) : Nat := s.word (b + 0x008)
/-- VERSION (R152). -/
def imgVersion (b : Nat) (s : State) : Nat := s.word (b + 0x00C)
/-- RBVER (R152). -/
def imgRbver (b : Nat) (s : State) : Nat := s.half (b + 0x010)
/-- NENTRY (R152). -/
def imgEntries (b : Nat) (s : State) : Nat := s.half (b + 0x012)
/-- LOADADDR (R152). -/
def imgLoad (b : Nat) (s : State) : Nat := s.word (b + 0x014)
/-- CODELEN (R152). -/
def imgCode (b : Nat) (s : State) : Nat := s.word (b + 0x018)
/-- ACCOFS (R152). -/
def imgAccOfs (b : Nat) (s : State) : Nat := s.word (b + 0x01C)
/-- KINDOFS (R152). -/
def imgKindOfs (b : Nat) (s : State) : Nat := s.word (b + 0x020)
/-- KINDLEN (R152). -/
def imgKindLen (b : Nat) (s : State) : Nat := s.word (b + 0x024)
/-- SEMOFS (R152). -/
def imgSemOfs (b : Nat) (s : State) : Nat := s.word (b + 0x028)

/-- Entry record `i`: context, priority, domain, PC, REC (R153). -/
def imgEntry (b i : Nat) (s : State) : Nat × Nat × Nat × Nat × Bool :=
  let h := s.half (b + 0x100 + 8 * i)
  (h % 1024, h / 2 ^ 10 % 4, h / 2 ^ 12 % 8, s.word (b + 0x104 + 8 * i), h.testBit 15)

/-- The entry records in use. -/
def imgEntryList (b : Nat) (s : State) : List (Nat × Nat × Nat × Nat × Bool) :=
  (List.range (imgEntries b s)).map (fun i => imgEntry b i s)

/-- A record of the command-kind table (R188). -/
def kindAt (a : Nat) (s : State) : KindRec :=
  let f := (s.byte (a + 2)).toNat
  { kind := s.half a, rclass := f % 4, pri := f / 4 % 4, level := f.testBit 4, dom := f / 32
    srcMask := (s.byte (a + 3)).toNat, lenMax := (s.byte (a + 4)).toNat }

/-- The command-kind table (R188). -/
def imgKinds (b : Nat) (s : State) : List KindRec :=
  (List.range (imgKindLen b s / 8)).map (fun i => kindAt (b + imgKindOfs b s + 8 * i) s)

/-! ### Structural checks (R152 to R154, R188) -/

/-- `n` bytes are zero. -/
def zeroBytes (a n : Nat) (s : State) : Bool := (s.byteList a n).all (· = 0)

/-- No number occurs twice. -/
def distinct : List Nat → Bool
  | [] => true
  | a :: t => !t.contains a && distinct t

/-- The header's own fields (R152). -/
def headerOk (b : Nat) (s : State) : Bool :=
  decide (s.word b = 0x08161A6E) && decide (s.half (b + 4) = 1) && decide (s.half (b + 6) = 0) &&
  decide (imgLen b s % 32 = 0) && decide (0x240 ≤ imgLen b s) && decide (imgLen b s ≤ 131072) &&
  decide (imgRbver b s ≤ 256) && decide (1 ≤ imgEntries b s) && decide (imgEntries b s ≤ 32) &&
  decide (imgLoad b s % 8 = 0) && decide (imgLoad b s < 0x100000) && decide (imgCode b s % 8 = 0) &&
  decide (imgLoad b s + imgCode b s ≤ 0x100000) && zeroBytes (b + 0x02C) 20 s && zeroBytes (b + 0x0E0) 32 s

/-- The entry table (R152 to R154). -/
def entriesOk (b : Nat) (s : State) : Bool :=
  let es := imgEntryList b s
  (List.range 32).all (fun i =>
    if i < imgEntries b s then
      let pc := s.word (b + 0x104 + 8 * i)
      s.half (b + 0x102 + 8 * i) = 0 && pc % 4 = 0 && decide (imgLoad b s ≤ pc) && decide (pc < imgLoad b s + imgCode b s)
    else zeroBytes (b + 0x100 + 8 * i) 8 s) &&
  distinct (es.map (·.1)) && decide ((es.filter (fun e => e.2.2.2.2)).length ≤ 1)

/-- A section's start and length lie between the code and IMGLEN (R154). -/
def sectionIn (b o n : Nat) (s : State) : Bool := decide (0x200 + imgCode b s ≤ o) && decide (o + n ≤ imgLen b s)

/-- Two sections do not overlap (R154). -/
def apart (o n p m : Nat) : Bool := decide (o + n ≤ p) || decide (p + m ≤ o)

/-- The three sections lie in place (R154). -/
def sectionsOk (b : Nat) (s : State) : Bool :=
  let a := imgAccOfs b s
  let k := imgKindOfs b s
  let n := imgKindLen b s
  let m := imgSemOfs b s
  sectionIn b a 1800 s && sectionIn b k n s && sectionIn b m 64 s && apart a 1800 k n && apart a 1800 m 64 && apart k n m 64

/-- One kind record obeys its format (R188). -/
def kindOk (a : Nat) (s : State) : Bool :=
  let k := kindAt a s
  decide (1 ≤ k.kind) && decide (k.rclass < 3) && decide (k.srcMask < 8) && decide (k.lenMax ≤ 40) &&
    zeroBytes (a + 5) 3 s && (!k.level || (k.pri = 3 && k.rclass = 0))

/-- The command-kind table (R154, R188). -/
def kindsOk (b : Nat) (s : State) : Bool :=
  let n := imgKindLen b s
  let ks := imgKinds b s
  n % 8 = 0 && decide (8 ≤ n) && decide (n ≤ 2048) &&
    (List.range (n / 8)).all (fun i => kindOk (b + imgKindOfs b s + 8 * i) s) && distinct (ks.map (·.kind)) &&
    (!ks.any (fun k => k.rclass = 1) || (imgEntryList b s).any (fun e => e.2.2.2.2))

/-- Words of the access-table section (R152). -/
def imgTables (b : Nat) (s : State) : List Nat := (List.range 450).map (fun i => s.word (b + imgAccOfs b s + 4 * i))

/-- Reserved bits of the access-table and semaphore sections are zero (R152, R154). -/
def reservedOk (b : Nat) (s : State) : Bool :=
  (s.byteList (b + imgSemOfs b s) 64).all (fun x => decide (x.toNat < 16)) &&
    (match imgTables b s with
      | a :: c :: es => decide (a < 2 ^ 24) && decide (c < 2 ^ 24) && es.all (fun e => decide (e < 2 ^ 12))
      | _ => false)

/-- Boot reads `n` lines of the NVS; false at the first that completes with INTEGRITY (R97, R352). -/
def bootLines : Nat → Nat → State → Bool × State
  | 0, _, s => (true, s)
  | n + 1, a, s =>
    let (ok, s) := checkLine a (.read idBoot) s
    if ok then bootLines n (a + 32) s else (false, s)

/-- Boot reads the lines that `n` bytes at `a` lie in. -/
def bootSpan (a n : Nat) (s : State) : Bool × State :=
  if n = 0 then (true, s) else bootLines ((a + n - 1) / 32 - a / 32 + 1) (a / 32 * 32) s

/-- A slot is a candidate: header, sections and, where it applies, anti-rollback (R97, R154). -/
def candidate (k : Nat) (roll : Bool) (s : State) : Bool × State :=
  let b := slotBase k
  match bootLines 16 b s with
  | (false, s) => (false, s)
  | (true, s) =>
    if !(headerOk b s && entriesOk b s && sectionsOk b s) || (roll && decide (imgRbver b s < rbCount s)) then (false, s)
    else
      let (a, s) := bootSpan (b + imgAccOfs b s) 1800 s
      let (c, s) := bootSpan (b + imgKindOfs b s) (imgKindLen b s) s
      let (d, s) := bootSpan (b + imgSemOfs b s) 64 s
      (a && c && d && kindsOk b s && reservedOk b s, s)

/-! ### Digest, signature and copy (R97) -/

/-- The SHA-256 digest of an image equals its DIGEST (R152). -/
def digestOk (b : Nat) (s : State) : Bool :=
  decide (sha256 (s.byteList b 0x80 ++ s.byteList (b + 0x100) (imgLen b s - 0x100)) = s.byteList (b + 0x80) 32)

/-- The public key hashes to the image-key hash, which must be sound, and the signature verifies (R95, R97). -/
def signatureOk (b : Nat) (s : State) : Bool :=
  let pub := s.byteList (b + 0x40) 64
  let sg := s.byteList (b + 0xA0) 64
  otpSound 0x408 8 s && decide (sha256 pub = otpBytes 0x408 8 s) &&
    ecdsaVerify (beNum (s.byteList (b + 0x80) 32)) (beNum (pub.take 32)) (beNum (pub.drop 32)) (beNum (sg.take 32)) (beNum (sg.drop 32))

/-- A candidate verifies: every line, the digest and, when the state asks for it, the signature (R96, R97). -/
def imageVerifies (k : Nat) (signed : Bool) (s : State) : Bool × State :=
  let b := slotBase k
  match bootLines (imgLen b s / 32) b s with
  | (false, s) => (false, s)
  | (true, s) => (digestOk b s && (!signed || (hashBurned s && signatureOk b s)), s)

/-- Code copied to SRAM in 64-bit words, each of which is then sound (R80, R97); the copy is made even where HKR_DOMCTL keeps the bank's domain off after a warm reset, a case the spec leaves open (log 94). -/
def copyWords : Nat → Nat → Nat → State → State
  | 0, _, _, s => s
  | n + 1, a, d, s =>
    let s := s.setBytesLE d 8 (s.bytesLE a 8)
    copyWords n (a + 8) (d + 8) { s with sramGood := NSet.add s.sramGood (d / 8), sramOne := NSet.del s.sramOne (d / 8) }

/-- An image is taken: code, kinds, ranks, tables, entries and rollback version (R97, R152, R155, R412). -/
def takeImage (k : Nat) (s : State) : State :=
  let b := slotBase k
  let s := copyWords (imgCode b s / 8) (b + 0x200) (imgLoad b s) s
  let s := (List.range 64).foldl (fun t n => t.p1 F.seqSemRank n ((t.byte (b + imgSemOfs b t + n)).toNat % 16)) s
  let s := (s.p F.lcsRbrunRbver (imgRbver b s)).p F.sysBootstatSlot k
  let es := imgEntryList b s
  let ks := imgKinds b s
  let tb := imgTables b s
  let s := s.modJnl (fun j => { j with kinds := ks })
  { s with pow := { s.pow with entries := es, tables := tb, release := true }
           seq := { s.seq with recov := (es.find? (fun e => e.2.2.2.2)).map (·.1) } }

/-- The order in which boot tries the candidates: the higher version first, slot A on a tie (R97). -/
def tryOrder (a b : Bool) (s : State) : List Nat :=
  match a, b with
  | true, true => if imgVersion (slotBase 0) s < imgVersion (slotBase 1) s then [1, 0] else [0, 1]
  | true, false => [0]
  | false, true => [1]
  | false, false => []

/-- Boot tries candidates in order; where the first fails, FALLBACK is set and the other, if there is one, is tried (R97, R108). -/
def tryImages (signed : Bool) : List Nat → State → Bool × State
  | [], s => (false, s)
  | k :: rest, s =>
    match imageVerifies k signed s with
    | (true, s) => (true, takeImage k s)
    | (false, s) => tryImages signed rest (s.p F.sysBootstatFallback 1)

/-- Step 9 of R92: an image is selected, verified and copied, or none is (R96, R97, R98). -/
def selectImage (sealed : Bool) (s : State) : Bool × State :=
  let (a, s) := candidate 0 sealed s
  let (b, s) := candidate 1 sealed s
  let (ok, s) := tryImages (sealed || hashBurned s) (tryOrder a b s) s
  if ok then (true, s) else (false, s.p F.sysBootstatNoimage 1)

/-- Every poisoned line of both image slots is rewritten with zeros, while the key is usable (R351, R362). -/
def mendSlots (s : State) : State :=
  (s.nvsBad.filter (fun l => decide (0x2000 ≤ l) && decide (l < 0x4000))).foldl (fun t l =>
    if t.b F.nvsStatKeybad then t
    else (writeLine (lineAddr l) (List.replicate 32 0) (.commit idBoot) t).2) s

end Sys2Proof.Machine
end

