-- ==== Sys2Proof/Machine/TwbHost.lean ====
section
/-! DEFINITION. Host transactions on the two-wire bus: pointer, words, PEC, stretching, bus-free and wake (R384 to R394, R399). -/

namespace Sys2Proof.Machine

/-- A 7-bit address is a code that no target answers: general call or a 10-bit prefix (R384). -/
def twbReserved (dev : Nat) : Bool := dev = 0 || (decide (0x78 ≤ dev) && decide (dev < 0x7C))

/-- A 7-bit address is an HS-mode controller code (R384). -/
def twbHs (dev : Nat) : Bool := decide (4 ≤ dev) && decide (dev < 8)

/-- The target answers an address byte: awake, bus seen free, and its own address (R384, R385). -/
def twbAnswers (dev : Nat) (s : State) : Bool :=
  awake s && s.twb.free && !twbReserved dev && dev = s.twb.cfg.addr

/-- The pointer moves past a word (R386, R387). -/
def twbNext (s : State) : State := s.p F.twbPtrPtr ((s.g F.twbPtrPtr + 4) % 2 ^ 32)

/-- One word of a write transaction: an access of HOST at the pointer (R386, R388). True when it is acknowledged. -/
def hostWord (v : Nat) (s : State) : Bool × State :=
  let a := s.g F.twbPtrPtr
  let (c, s) := portStoreAt idHost a 4 v s
  let s := (twbNext s).modTwb (fun t => { t with wrote := t.wrote || c = .ok })
  let s := s.answer c
  if c = .ok then (true, s) else (false, twbRecord c true a s)

/-- The words of a write transaction, until one is not acknowledged (R386, R388). True when every one was acknowledged. -/
def hostWords : List (BitVec 8) → State → Bool × State
  | b0 :: b1 :: b2 :: b3 :: rest, s =>
    let (ok, s) := hostWord (ofLe [b0, b1, b2, b3]) s
    if ok then hostWords rest s else (false, s)
  | _, s => (true, s)

/-- The bytes of a write transaction without PEC take effect (R386). -/
def writePlain (bs : List (BitVec 8)) (s : State) : State :=
  if bs.length < 4 then s
  else
    let (ok, s) := hostWords (bs.drop 4) (s.p F.twbPtrPtr (ofBe (bs.take 4)))
    if ok then s else s.modTwb (fun t => { t with nacked := true })

/-- The bytes of a write transaction with PEC take effect: nothing before the PEC byte is there and right (R389). -/
def writePec (bs : List (BitVec 8)) (s : State) : State :=
  if bs.length = 9 then
    let s := s.p F.twbPtrPtr (ofBe (bs.take 4))
    if crc8 (s.twb.seen ++ bs.take 8) = ((bs[8]?).getD 0).toNat then (hostWord (ofLe ((bs.drop 4).take 4)) s).2
    else twbFlag F.twbStatPecerr s
  else s

/-- A STOP or repeated START left bytes that complete nothing (R386). -/
def leftOver (pec : Bool) (n : Nat) : Bool :=
  decide (n < 4) || (if pec then decide (5 ≤ n) && decide (n < 8) else decide (n % 4 ≠ 0))

/-- The write phase of a transaction ends (R386, R389). -/
def writeEnds (stop : Bool) (s : State) : State :=
  if !s.twb.writing || s.twb.nacked then s
  else
    let n := s.twb.body.length
    let pec := s.twb.cfg.pec
    let s := if leftOver pec n then twbFlag F.twbStatPartial s else s
    if pec ∧ n ≠ 9 then
      if stop then twbFlag F.twbStatAccerr ((s.p F.twbLastCode Code.invalid.num).p F.twbLastDir 1)
      else if 4 ≤ n then s.p F.twbPtrPtr (ofBe (s.twb.body.take 4))
      else s
    else s

/-- A transaction is over, or its phase is (R386 to R391, R399): after a STOP the bus is free. -/
def twbStop (s : State) : State :=
  let s := oneEdge (fun t => raiseIf t.twb.wrote lineTwbHost (writeEnds true t)) s
  twbFree ((s.p F.twbStatBusbusy 0).modTwb (fun t => { t with
    open_ := false, wrote := false, seen := [], body := [], writing := false, nacked := false }))

/-- A repeated START ends the phase in progress (R386, R391). -/
def twbRestart (s : State) : State :=
  let s := writeEnds false s
  s.modTwb (fun t => { t with seen := t.seen ++ t.body, body := [], writing := false, nacked := false })

/-- An address byte is acknowledged and opens a phase (R386, R387). -/
def twbOpen (dev : Nat) (rd : Bool) (s : State) : State :=
  (s.p F.twbStatBusbusy 1).modTwb (fun t => { t with
    open_ := true, seen := t.seen ++ [BitVec.ofNat 8 (2 * dev + bit rd)] })

/-- An address byte that another target's transaction carries, or none answers: our own transaction is over, and BUSBUSY shows the target's own (R384, R391, log 107). -/
def twbIgnore (dev : Nat) (s : State) : State :=
  let s := if s.twb.open_ then twbRestart s else s
  let s := (s.p F.twbStatBusbusy 0).modTwb (fun t => { t with seen := [] , open_ := false })
  if twbHs dev then s.modTwb (fun t => { t with free := false, hs := true }) else s

/-- A write transaction of the host: its address, the bytes after it and how it ends (R386, R388, R389). -/
def hostWrite (dev : Nat) (bs : List (BitVec 8)) (fin : HostEnd) (s : State) : State :=
  let s :=
    if twbAnswers dev s then
      let s := twbOpen dev false (if s.twb.open_ then twbRestart s else s)
      let s := s.modTwb (fun t => { t with body := bs, writing := true, nacked := false })
      if s.twb.cfg.pec then writePec bs s else writePlain bs s
    else if awake s ∧ s.twb.free then twbIgnore dev s
    else s
  if !awake s then s
  else
    match fin with
    | .stop => twbStop s
    | .rstart => s
    | .stall => s

/-- One word of a read transaction: an access of HOST at the pointer, and its four bytes (R387, R388). -/
def readWord (s : State) : Code × List (BitVec 8) × State :=
  let a := s.g F.twbPtrPtr
  let (c, d, s) := portLoadAt idHost a 4 s
  let s := (twbNext s).answer c d
  (c, leBytes 4 d, if c = .ok then s else twbRecord c false a s)

/-- The words of a read without PEC: one more than the host's acknowledged fourth bytes (R387). -/
def readWords : Nat → State → List (BitVec 8) × State
  | 0, s => ([], s)
  | n + 1, s =>
    let (_, b, s) := readWord s
    let (bs, s) := readWords n s
    (b ++ bs, s)

/-- A read with PEC: one word, and the PEC byte, complemented when the read failed (R389). -/
def readPec (acks : Nat) (s : State) : List (BitVec 8) × State :=
  let (c, b, s) := readWord s
  let pec : BitVec 8 := BitVec.ofNat 8 (crc8 (s.twb.seen ++ b))
  let out := b ++ [if c = .ok then pec else ~~~pec] ++ List.replicate (acks - 4) 0xFF#8
  (out, if 5 ≤ acks then (s.p F.twbLastCode Code.invalid.num).p F.twbLastDir 0 else s)

/-- A read transaction of the host: its address, how many bytes it acknowledges and how it ends (R387 to R389). -/
def hostRead (dev acks : Nat) (fin : HostEnd) (s : State) : State :=
  let s :=
    if twbAnswers dev s then
      let s := twbOpen dev true (if s.twb.open_ then twbRestart s else s)
      let (bs, s) := if s.twb.cfg.pec then readPec acks s else readWords (1 + acks / 4) s
      s.modTwb (fun t => { t with sent := bs.take (acks + 1) })
    else if awake s ∧ s.twb.free then twbIgnore dev s
    else s
  if !awake s then s
  else
    match fin with
    | .stop => twbStop s
    | .rstart => s
    | .stall => s

/-- A STOP, or both lines high for 50 µs; after an HS-mode controller code only the STOP counts (R384, R385, R391). -/
def busFree (stop : Bool) (s : State) : State :=
  if !awake s then s else if stop then twbStop s else if s.twb.hs then s else twbFree s

/-- An access holds SCL for 1 ms: the line is released and TIMEOUT recorded, and the access itself still completes (R388). `w`: the word of a write; none is a read. -/
def stretchLimit (w : Option Nat) (s : State) : State :=
  if !awake s || !s.twb.open_ then s
  else
    let a := s.g F.twbPtrPtr
    match w with
    | some v =>
      let (c, s) := portStoreAt idHost a 4 v s
      let s := (twbNext s).modTwb (fun t => { t with wrote := t.wrote || c = .ok, nacked := true })
      (twbRecord .timeout true a s).answer .timeout
    | none =>
      let (_, _, s) := portLoadAt idHost a 4 s
      let s := (twbNext s).modTwb (fun t => { t with sent := List.replicate 4 0xFF#8 })
      (twbRecord .timeout false a s).answer .timeout 0xFFFFFFFF

/-- In sleep, the matcher sees an address byte (R393, R394): a match wakes the node, and the transaction goes on or was refused as WAKE selects. -/
def addressWake (dev : Nat) (s : State) : State :=
  if s.pow.phase ≠ .asleep || !s.b F.hkrSleepWkTwb || twbReserved dev || dev ≠ s.twb.cfg.addr then s
  else
    let s := wakeSource 0 s
    if s.twb.cfg.wake then twbFlag F.twbStatNackf s
    else twbFlag F.twbStatWoke ((s.p F.twbStatBusbusy 1).modTwb (fun t => { t with open_ := true, free := true }))

end Sys2Proof.Machine
end

