-- ==== Sys2Proof/Machine/Boot.lean ====
section
/-! DEFINITION. Resets, brown-out, the held-off state, the boot ledger and boot's end (R85 to R105, R125, R362, R395, R411, R443). -/

namespace Sys2Proof.Machine

/-- Change the reset, boot and power state. -/
def State.modPow (s : State) (f : Pow → Pow) : State := { s with pow := f s.pow }

/-- D1 is powered: every phase but held-off and dark. -/
def d1Powered (s : State) : Bool :=
  match s.pow.phase with
  | .heldOff | .dark => false
  | _ => true

/-! ### What a reset takes away (R101, R127, R190, R357, R379, R395) -/

/-- What a line write leaves that a falling supply finds in service: its new contents, its old ones, or contents that fail verification (R353). -/
def fallLine (e : LineEnd) (a : Nat) (write : State → State) (s : State) : State :=
  match e with
  | .new => write s
  | .old => s
  | .torn => tearLine a (write s)

/-- The line at the front of the controller when the supply falls (R353). -/
def fallFront (e : LineEnd) (s : State) : State :=
  match s.nvs.q, e with
  | [], _ => s
  | _ :: _, .new => lineDone true s
  | _ :: _, .old => { s with nvs := { s.nvs with q := s.nvs.q.drop 1 } }
  | _ :: _, .torn => lineDone false s

/-- The line in service when the supply falls, a first one before it being complete (R90, R170, R185, R353). -/
def fallWrite (op : LineOp) (e : LineEnd) (s : State) : State :=
  match op with
  | .front => fallFront e s
  | .entry second =>
    match s.jnl.writing with
    | some (r, anum) =>
      match entryBytes r anum s with
      | some bytes =>
        let a := entryAddr anum
        let one := fun (t : State) => (writeLine (a + 32) (bytes.drop 32) portJnl t).2
        let two := fun (t : State) => (writeLine a (bytes.take 32) portJnl t).2
        if second then fallLine e a two (one s) else fallLine e (a + 32) one s
      | none => s
    | none => s
  | .move c second =>
    match (s.ctx c).st, (s.ctx c).wait with
    | .wait, some (.write anum _ op) =>
      let a := entryAddr anum
      match op with
      | .mark => fallLine e a (fun t => (rmwLine a 4 (entryWord0 anum 0x2) portJnl t).2) s
      | .finish okv res =>
        let one := fun (t : State) => (rmwLine (a + 56) 4 (finishWord okv res) portJnl t).2
        let two := fun (t : State) => (rmwLine a 4 (entryWord0 anum (if okv then 0x4 else 0x8)) portJnl t).2
        if second then fallLine e a two (one s) else fallLine e (a + 32) one s
    | _, _ => s

/-- The NVS line write in progress completes, or ends as the falling supply leaves it; what waits is discarded (R89, R353, R357). -/
def nvsStop (line : Option (LineOp × LineEnd)) (s : State) : State :=
  let s := match line with
    | some (op, e) => fallWrite op e s
    | none => fallFront .new s
  { s with nvs := { s.nvs with q := [], wait := [], turns := 0 } }

/-- The converters after a reset: what they hold of their calibration stays while they keep power (R101, R301). -/
def adcAfter (a : Adc) : Adc := { c0 := { loaded := a.c0.loaded }, c1 := { loaded := a.c1.loaded }, cal := a.cal }

/-- The state behind the registers of D1 and the switched domains, as every reset leaves it (R101). -/
def wipeCore (s : State) : State :=
  { s with
    stages := []
    seq := { gregs := s.seq.gregs, badPar := s.seq.badPar }
    jnl := {}
    link := {}
    flt := { pinA := s.flt.pinA, pinB := s.flt.pinB, dem := s.flt.dem, disag := s.flt.disag }
    pst := []
    ce := { trcBad := s.ce.trcBad }
    adc := adcAfter s.adc
    fan := { vm := s.fan.vm }
    dma := {}
    twb := { lines2 := s.twb.lines2 }
    sec := { s.sec with cry := none, keys := [], linkKeys := [], rngOut := false } }

/-- String time after POR, BOR and LCR: FREE, at its reset values (R37, R101). -/
def stmFresh (s : State) : State := { s with stm := { sclk := s.stm.sclk } }

/-- Every SRAM word is poisoned (R101). -/
def poisonAll (s : State) : State := { s with sramGood := [], sramOne := [] }

/-- The domains of HKR_DOMCTL's reset value (R77, R101). -/
def resetDomains : Nat := 0xB80F

/-- The domains change to 0xB80F (R101): those that go lose their state, those that come return as at power good (R80). -/
def domainsFresh (s : State) : State :=
  let pg := s.g F.hkrDomstatPg
  let ds := List.range 16
  -- HKR_DOMRET is cleared with the domains, so no bank that is off keeps its contents (R80)
  let s := s.modPow (fun p => { p with kept := [] })
  let s := ((ds.filter (fun n => pg.testBit n && !resetDomains.testBit n)).reverse).foldl (fun t n => domainLose n t) s
  let s := (ds.filter (fun n => !pg.testBit n && resetDomains.testBit n)).foldl (fun t n => domainGain n t) s
  s.modPow (fun p => { p with offs := [], ons := [] })

/-- The discrepancy timer runs on through a reset that restarts FLT_UST at 0 (R438, R440). -/
def keepTimer (s : State) : State :=
  { s with flt := { s.flt with disag := s.flt.disag.map (fun d => ((2 ^ 32 - disagTime d.1 s) % 2 ^ 32, d.2)) } }

/-- What POR, BOR and LCR do beyond the warm kinds (R101): the SAFE logic stops (R438). -/
def deepReset (k : ResetKind) (s : State) : State :=
  if k.deep then
    let s := clearTrace (stmFresh (domainsFresh s))
    let s := { s with flt := { s.flt with disag := none } }
    if k.full then
      let s := poisonAll s
      { s with hkr := {}, chg := {}, flt := { s.flt with dem := false } }
    else s
  else keepTimer (s.modStm (fun t => { t with usFrac := 0 }))

/-- The state behind the registers after a reset, its phase and its kind; ANALYSIS and the TAP instruction end at a POR (R415). -/
def afterReset (k : ResetKind) (s : State) : State :=
  let s := hsReset (wipeCore s)
  let s := if k = .por then s.modSec (fun x => { x with analysis := false, tap := .idcode }) else s
  s.modPow (fun p => { p with
    phase := .inReset k, kind := k, swr := false, lcr := false, wdt := 0, entries := [], release := false, rail := none, tables := [] })

/-- What the supplies show after a reset: VHV_OK and WARN follow the supplies (R88, R108, log 43). -/
def showSupply (s : State) : State := (s.p F.sysSupstatVhvOk (bit s.pow.vhv)).p F.sysSupstatWarn (bit s.pow.low)

/-- A reset is taken (R101): cut burns, the line write in progress, domains and time, every register its kind restores. -/
def takeResetWith (line : Option (LineOp × LineEnd)) (k : ResetKind) (s : State) : State :=
  let s := deepReset k (nvsStop line (cutBurn s))
  showSupply (afterReset k (s.restore (fun x => x.fam.kinds.restores k)))

/-- A reset during which the supplies hold up the line write in progress (R90). -/
def takeReset (k : ResetKind) (s : State) : State := takeResetWith none k s

/-! ### Causes (R86 to R91, R103 to R105, R414) -/

/-- POR: VHV rises through 7.0 V while D1 is unpowered (R86); VPRE rises with it, which ends the warning and the lockout of the held-off state (R88, R453). -/
def powerOnReset (s : State) : State :=
  if d1Powered s then s else takeReset .por (lockoutEnd (s.modPow (fun p => { p with vhv := true, low := false })))

/-- VHV rises while D1 is powered (R86): the pre-regulator runs again (R75); in sleep the rise may wake the node (R81). -/
def vhvRise (s : State) : State :=
  if !d1Powered s || s.pow.vhv then s
  else
    let s := ((s.modPow (fun p => { p with vhv := true })).p F.sysSupstatVhvOk 1).p F.sysSupstatVhvUp 1
    wakeSource 2 s

/-- VHV falls below 6.5 V, and the pre-regulator stops (R75, R85). -/
def vhvFall (s : State) : State := (s.modPow (fun p => { p with vhv := false })).p F.sysSupstatVhvOk 0

/-- The held-off state: every domain but D0 is off, D1 loses its state, rails, switches and the BAT switch are off, and the lockout is in force (R87, R335, R453). -/
def heldOff (line : Option (LineOp × LineEnd)) (s : State) : State :=
  let s := lockoutBegin (nvsStop line (cutBurn s))
  let s := s.modPow (fun p => { p with
    phase := .heldOff, swr := false, lcr := false, wdt := 0, entries := [], release := false, rail := none, tables := [], offs := [], ons := [], kept := [] })
  let s := batOpen (hkrOff s)
  let s := stmFresh (poisonAll (clearTrace (hsReset (wipeCore s))))
  (s.restore (fun x => domainOf (x.key / 32) ≠ 0)).p F.hkrDomstatPg 1

/-- VSYS falls below its brown-out threshold while VHV is below 6.5 V (R87). -/
def heldOffEntry (line : Option (LineOp × LineEnd)) (s : State) : State :=
  if d1Powered s && !s.pow.vhv then heldOff line s else s

/-- The hold of a BOR ends, and with it a lockout for which no warning stands (R89, R453). -/
def borRelease (s : State) : State :=
  if s.pow.phase = .borHeld then
    (if s.pow.low then s else lockoutEnd s).modPow (fun p => { p with phase := .inReset .bor })
  else s

/-- The watchdog's count has reached TIMEOUT (R105). -/
def wdtDue (s : State) : Bool :=
  awake s && s.b F.sysWdtctlEn && decide (192000 * s.g F.sysWdtctlTimeout ≤ s.pow.wdt)

/-- Whether a cause of a reset arises (R89, R91, R103 to R105, R414): the monitors watch while D1 has power, the clock monitor while SCLK runs. -/
def causeStands (s : State) : Cause → Bool
  | .supply _ => d1Powered s
  | .clock => clocked s
  | .glitch => d1Powered s
  | .lcr => awake s && s.pow.lcr
  | .pin => d1Powered s
  | .wdr => wdtDue s
  | .swr => awake s && s.pow.swr

/-- SYS_RSTCAUSE records a cause (R91, R108). -/
def noteCause (s : State) : Cause → State
  | .supply src => (s.p F.sysRstcauseBor 1).p F.sysRstcauseBorsrc (s.g F.sysRstcauseBorsrc ||| 2 ^ src.val)
  | .clock => (s.p F.sysRstcauseBor 1).p F.sysRstcauseClkmon 1
  | .glitch => (s.p F.sysRstcauseBor 1).p F.sysRstcauseGlitch 1
  | .lcr => s.p F.sysRstcauseLcr 1
  | .pin => s.p F.sysRstcausePin 1
  | .wdr => s.p F.sysRstcauseWdr 1
  | .swr => s.p F.sysRstcauseSwr 1

/-- A cause that is taken as a BOR (R89, R91). -/
def Cause.isBor : Cause → Bool
  | .supply _ | .clock | .glitch => true
  | _ => false

/-- A BOR (R89): the RTC write lockout, the reset, and the hold. -/
def borTake (line : Option (LineOp × LineEnd)) (s : State) : State :=
  (takeResetWith line .bor (lockoutBegin s)).modPow (fun p => { p with phase := .borHeld })

/-- A PIN reset is taken; in sleep the node wakes first; during another reset nRST only adds its cause (R81, R92, R103). -/
def pinTake (s : State) : State :=
  match s.pow.phase with
  | .inReset _ | .borHeld => s
  | .asleep => takeReset .pin (wakeUp s)
  | _ => takeReset .pin s

/-- The reset of causes that arise in one SCLK cycle: the one that reaches furthest is taken, in the order BOR, LCR, PIN, WDR, SWR (R14); a fall of VSYS without VHV is the held-off state (R87). -/
def causeTake (line : Option (LineOp × LineEnd)) (cs : List Cause) (s : State) : State :=
  if cs.any Cause.isBor then borTake line s
  else if cs.contains .lcr then takeReset .lcr s
  else if cs.contains .pin then pinTake s
  else if cs.contains .wdr then takeReset .wdr s
  else if cs.contains .swr then takeReset .swr s
  else s

/-- Causes of one SCLK cycle, of which the first must stand: the furthest is taken and every one is recorded (R14). -/
def takeCauses (line : Option (LineOp × LineEnd)) (c : Cause) (also : List Cause) (s : State) : State :=
  if !causeStands s c then s
  else
    let cs := c :: also.filter (causeStands s)
    if cs.contains (.supply 0) && !s.pow.vhv then heldOff line s
    else cs.foldl noteCause (causeTake line cs s)

/-- A monitored supply falls below its brown-out threshold: 0 VSYS, 1 VDD_CORE, 2 VIO, 3 VDDA (R87, R89, R108). -/
def brownOut (src : Fin 4) (line : Option (LineOp × LineEnd)) (also : List Cause) (s : State) : State :=
  takeCauses line (.supply src) also s

/-- SCLK has left its window (R36, R91). -/
def clockTrip (also : List Cause) (s : State) : State := takeCauses none .clock also s

/-- A glitch monitor has tripped (R29, R91). -/
def glitchTrip (also : List Cause) (s : State) : State := takeCauses none .glitch also s

/-- nRST is taken as a PIN reset (R103). -/
def pinReset (also : List Cause) (s : State) : State := takeCauses none .pin also s

/-- WDR (R105). -/
def watchdogExpiry (also : List Cause) (s : State) : State := takeCauses none .wdr also s

/-- SWR, 8 SCLK after its request (R104). -/
def softwareReset (also : List Cause) (s : State) : State := takeCauses none .swr also s

/-- LCR, 16 SCLK after the life-cycle word is burned (R414). -/
def lifeCycleReset (also : List Cause) (s : State) : State := takeCauses none .lcr also s

/-- VSYS and BAT are both absent: everything but what needs no power is lost (R443). -/
def d0Loss (s : State) : State :=
  if s.pow.phase = .dark || s.pow.vhv then s
  else
    let s := heldOff none s
    { s with regs := [], hkr := {}, chg := {}, rtc := {}, sec := { s.sec with dev := none, root := none, analysis := false, tap := .idcode } }
      |>.modPow (fun p => { p with phase := .dark })

/-- The supply warning (R88). -/
def supplyWarn (s : State) : State := if d1Powered s then supplyWarning s else s

/-! ### The default rail sequence (R94) -/

/-- Rails in the order of the sequence that are in strap mode without a strap fault, from `i` on. -/
def nextRail (i : Nat) (s : State) : Option Nat :=
  (List.range 8).find? (fun r => decide (i ≤ r) && !railReg r s && !railStrapFault r s)

/-- A step of the ledger is complete; STEP shows the highest one, so a step of the rail sequence, which runs beside the others, never takes it back (R92, log 92). -/
def bootStep (k : Nat) (s : State) : State := s.p F.sysBootstatStep (max k (s.g F.sysBootstatStep))

/-- The default sequence ends: step 8 (R92, R94). -/
def seqEnd (s : State) : State := bootStep 8 (s.modPow (fun p => { p with rail := none }))

/-- The sequence enables the next rail, or is complete (R94). -/
def seqRail (i : Nat) (s : State) : State :=
  match nextRail i s with
  | some r => (railStart r s).modPow (fun p => { p with rail := some r })
  | none => seqEnd s

/-- A rail's output has stayed in its window; the default sequence goes on when it waited for it, its first rail being step 6 (R92, R94, R315). -/
def railPowerGood (i : Nat) (s : State) : State :=
  let s := railGood i s
  if s.pow.rail = some i ∧ getBit F.hkrRailstatPg i s then seqRail (i + 1) (bootStep 6 s) else s

/-- The rail the sequence waits for has missed its 0.6 ms: it is switched off and the sequence stops (R94). -/
def seqTimeout (s : State) : State :=
  match s.pow.rail with
  | some i => seqEnd ((railStop i s).p F.sysBootstatRailstop 1)
  | none => s

/-! ### Boot (R92 to R99) -/

/-- Context RAM reads zero (R134). -/
def clearContexts (s : State) : State := { s with seq := { s.seq with gregs := [], badPar := [] } }

/-- Step 4: early rows are sensed, the life cycle is decoded, and the two-wire target takes its address (R92, R95, R96, R400). -/
def bootSense (s : State) : State :=
  let s := senseWords senseEarly s
  let lc := lcDecode s
  let s := ((s.p F.lcsStateState lc).p F.sysBootstatLc lc).p F.lcsRbcntCount (rbCount s)
  let c := otpConfig s
  let a := if c.testBit 7 then c % 128 else 0x26
  twbConfig (bootStep 4 (s.p F.twbCfgAddr a))

/-- Step 5: the straps are sampled and the default sequence starts (R93, R94). -/
def bootStraps (vsel : List Nat) (s : State) : State :=
  let s := (List.range 8).foldl (fun t i => strapSample i ((vsel[i]?).getD 0) t) s
  bootStep 5 (seqRail 0 s)

/-- Steps 9 and 10: image and journal, in OPEN and SEALED (R96 to R99). -/
def bootLoad (sealed : Bool) (s : State) : State :=
  match selectImage sealed s with
  | (true, s) =>
    let (lost, s) := jnlRecover (bootStep 9 s)
    jnlOpen (bootStep 10 (s.p F.sysBootstatJnlLost (bit lost)))
  | (false, s) => bootStep 9 s

/-- The boot ledger from the release of a reset, up to its end (R92, R102); transitions of domains that a warm reset found in progress have run to their end by then (R101, log 93). `vsel`: the readings of VSEL1 to VSEL8 in mV, used after POR and BOR; `nrst`: nRST is low at the end of step 2. -/
def bootStart (vsel : List Nat) (nrst : Bool) (s : State) : State :=
  match s.pow.phase with
  | .inReset k =>
    let s := showSupply ((domSettle 32 s).modPow (fun p => { p with phase := .booting }))
    let s := if k = .por ∧ nrst then s.p F.sysRstcausePin 1 else s
    let s := if k.deep then safeAfresh s else s
    let s := bootSense (clearContexts (bootStep 3 s))
    let s := if k.full then bootStraps vsel s else s
    let s := bootStep 7 (linkLoad (senseLate s))
    match s.g F.lcsStateState with
    | 1 => bootLoad false s
    | 2 => bootLoad true s
    | _ => s
  | _ => s

/-! ### Boot end (R100, R125, R411) -/

/-- A table that gives HOST some entries and BOOT what R126 asks for, and nothing else (R125, R126, R411, log 30): splits at their reset values, then the entries. -/
def hostTable (host : Nat → Nat) : List Nat :=
  [0x604020, 0x604020] ++ (List.range 28).flatMap (fun t => (List.range 16).map (fun i =>
    if i = 0 then host t else if i = 15 ∧ t = 8 then allRW else 0))

/-- The recovery table: HOST reads and writes the image slots and SYS sub-region 0 (R125). -/
def recoveryTable : List Nat := hostTable (fun t => if t = 2 then 0x6C0 else if t = 6 then 0x003 else 0)

/-- The table of RETURNED and SCRAPPED: HOST reads and writes OTP and LCS sub-region 3 and SYS sub-region 0 (R411). -/
def returnedTable : List Nat := hostTable (fun t => if t = 21 then 0x600 else if t = 6 then 0x003 else 0)

/-- The tables that boot commits (R100, R125, R411). -/
def bootTables (s : State) : List Nat :=
  if 3 ≤ s.g F.lcsStateState then returnedTable else if s.pow.release then s.pow.tables else recoveryTable

/-- The 450 words of a table section as staged values (R126, R152). -/
def stageTables (tb : List Nat) (s : State) : State :=
  let split := fun (f1 f2 f3 : Fam) (w : Nat) (t : State) =>
    ((t.stageKey 2 idBoot (f1.key 0 0) (w % 256)).stageKey 2 idBoot (f2.key 0 0) (w / 2 ^ 8 % 256)).stageKey 2 idBoot (f3.key 0 0) (w / 2 ^ 16 % 256)
  let s := split F.accSplitaS1 F.accSplitaS2 F.accSplitaS3 ((tb[0]?).getD 0) s
  let s := split F.accSplitbS1 F.accSplitbS2 F.accSplitbS3 ((tb[1]?).getD 0) s
  (List.range 448).foldl (fun t n =>
    t.stageKey 2 idBoot (F.accEntryRights.key (n / 16) (n % 16)) (((tb[n + 2]?).getD 0) % 2 ^ 12)) s

/-- Step 1 of R100: the tables are written, committed and locked; a set that R126 rejects leaves the tables as they were. -/
def bootCommit (s : State) : State :=
  let s := (accCommit idBoot (stageTables (bootTables s) (s.setStage 2 {}))).2
  s.p F.accLockLock 1

/-- OTP_LOCK as boot sets it for the decoded state (R411). -/
def bootLocks (s : State) : State :=
  let bits := match s.g F.lcsStateState with
    | 1 => if (otpConfig s).testBit 8 then 0x21 else 0x01
    | 2 => 0x37
    | _ => 0x3F
  s.p F.otpLockLocks (s.g F.otpLockLocks ||| bits)

/-- Step 2 of R100: the watchdog starts. -/
def bootWatchdog (s : State) : State :=
  ((s.p F.sysWdtctlEn 1).p F.sysWdtctlTimeout 1000).modPow (fun p => { p with wdt := 0 })

/-- Step 5 of R100: the entry fronds become READY; JNL_RECOVER is raised when the recovery frond has entries to take (R153). -/
def bootRelease (s : State) : State :=
  let s := s.pow.entries.foldl (fun t e =>
    t.setCtx e.1 { t.ctx e.1 with st := .ready, pri := e.2.1, dom := e.2.2.1, pc := e.2.2.2.1 }) s
  raiseIf (s.seq.recov.isSome && s.jnl.live.any (fun e => e.awaiting)) lineJnlRecover s

/-- Boot may end: the ledger's steps are complete, and not in TEST (R92, R96). -/
def bootReady (s : State) : Bool :=
  s.pow.phase = .booting && decide (s.g F.lcsStateState ≠ 0) && s.pow.rail.isNone

/-- Boot ends (R100). -/
def bootEnd (s : State) : State :=
  if !bootReady s then s
  else
    let s := if s.b F.sysBootstatNoimage then mendSlots s else s
    let s := bootWatchdog (bootLocks (bootCommit s))
    let s := bootStep 11 (s.p F.sysBootstatDone 1)
    let rel := s.pow.release
    let s := s.modPow (fun p => { p with phase := if rel then .running else .unreleased })
    if rel then bootRelease s else s

end Sys2Proof.Machine
end

