-- ==== Sys2Proof/Machine/LelasWait.lean ====
section
/-! DEFINITION. Lelas events, string time and semaphores (R139, R140, R143 to R145, R167). -/

namespace Sys2Proof.Machine

/-- A timeout operand: g[a][15:0] µs (R167). -/
def timeoutOf (w c : Nat) (s : State) : Nat := (s.gr c (lwRa w)).toNat % 2 ^ 16

/-- The SCLK count at which a timeout that begins now elapses, counted in steps of 192 SCLK (R140). -/
def timeoutDue (w c : Nat) (s : State) : Nat := s.stm.sclk + 192 * timeoutOf w c s

/-- WAIT: a LATCH wait takes a pending latch; a timeout of 0 only tests; else the context waits (R139, R140). -/
def waitBody (w c : Nat) (s : State) : State :=
  let line := lwK w / 256
  let latch := decide (lwX w % 2 = 1)
  if latch && s.seq.latch.getLsbD line then
    lelasCode c (lwRd w) .ok { s with seq := { s.seq with latch := s.seq.latch &&& ~~~(1#256 <<< line) } }
  else if timeoutOf w c s = 0 then lelasCode c (lwRd w) .timeout s
  else enterWait c (.event line latch (lwRd w) (timeoutDue w c s)) s

/-- The stamp a WAITT names: cycle in g[a], phase in g[b][31:16] (R167). -/
def waittStamp (w c : Nat) (s : State) : Nat := (s.gr c (lwRa w)).toNat * 2 ^ 16 + (s.gr c (lwRb w)).toNat / 2 ^ 16

/-- WAITT: a stamp reached or past completes with its lateness; else the context waits for it (R53, R54, R143). -/
def waittBody (w c : Nat) (s : State) : State :=
  let a := waittStamp w c s
  let t := stampNow s
  if stampDue a t then lelasSet c (lwRd w) (BitVec.ofNat 32 (lateness a t)) s
  else enterWait c (.time a (lwRd w)) s

/-- SIGNAL: the line is raised on the retire edge; a line below 64 is ILLEGAL (R139, R142). -/
def signalBody (w c : Nat) (s : State) : State :=
  let line := lwK w / 256
  if line < 64 then ctxFault c causeIllegal 0 s else raiseLine line (lelasNext c s)

/-- SEMA (R144): rank order first, then a free semaphore is taken, and a held one is waited for. -/
def semaBody (w c : Nat) (s : State) : State :=
  let n := lwK w % 64
  if (s.ctx c).held / 2 ^ s.g1 F.seqSemRank n ≠ 0 then ctxFault c causeSemOrder Code.orderFault.num s
  else if !s.b1 F.seqSemHeld n then lelasCode c (lwRd w) .ok (semTake c n s)
  else if timeoutOf w c s = 0 then lelasCode c (lwRd w) .timeout s
  else normUrg (enterWait c (.sem n (lwRd w) (timeoutDue w c s)) s)

/-- Context `c` holds semaphore `n`. -/
def semHolds (c n : Nat) (s : State) : Bool := s.b1 F.seqSemHeld n && decide (s.g1 F.seqSemOwner n = c)

/-- SEMR (R145). -/
def semrBody (w c : Nat) (s : State) : State :=
  let n := lwK w % 64
  if semHolds c n s then lelasCode c (lwRd w) .ok (semFree n s) else lelasCode c (lwRd w) .invalid s

/-- TIME: cycle, then phase and the upper fraction bits (R167). -/
def timeBody (w c : Nat) (s : State) : State :=
  lelasSet2 c (lwRd w) (BitVec.ofNat 32 (cycleNow s)) (BitVec.ofNat 32 (s.stm.acc.toNat / 2 ^ 16)) s

/-- SELF: number, domain, base and effective priority (R167). -/
def selfBody (w c : Nat) (s : State) : State :=
  let x := s.ctx c
  lelasSet c (lwRd w) (BitVec.ofNat 32 (c + x.dom * 2 ^ 12 + x.pri * 2 ^ 16 + epri s c * 2 ^ 20)) s

/-- Context `c` issues WAIT: X[17] and K[7:0] are zero (R167). -/
def execLelasWait (c : Fin 1024) (s : State) : Out :=
  .next (lelasIssue { op := 0x30, zero := 0x200FF, src := fun w => [lwRa w] } waitBody c s)

/-- Context `c` issues WAITT (R167). -/
def execLelasWaitt (c : Fin 1024) (s : State) : Out :=
  .next (lelasIssue { op := 0x31, zero := 0x3FFF, src := fun w => [lwRa w, lwRb w] } waittBody c s)

/-- Context `c` issues SIGNAL: RD, RA, X and K[7:0] are zero (R167). -/
def execLelasSignal (c : Fin 1024) (s : State) : Out :=
  .next (lelasIssue { op := 0x32, zero := 0x3FF00FF } signalBody c s)

/-- Context `c` issues SEMA: X and K[15:6] are zero (R167). -/
def execLelasSema (c : Fin 1024) (s : State) : Out :=
  .next (lelasIssue { op := 0x33, zero := 0x3FFC0, src := fun w => [lwRa w] } semaBody c s)

/-- Context `c` issues SEMR: RA, X and K[15:6] are zero (R167). -/
def execLelasSemr (c : Fin 1024) (s : State) : Out :=
  .next (lelasIssue { op := 0x34, zero := 0x3FFFC0 } semrBody c s)

/-- Context `c` issues TIME: RD is even, RA and RB are zero (R157, R167). -/
def execLelasTime (c : Fin 1024) (s : State) : Out :=
  .next (lelasIssue { op := 0x35, zero := 0x3FFFFF, even := true } timeBody c s)

/-- Context `c` issues SELF: RA and RB are zero (R167). -/
def execLelasSelf (c : Fin 1024) (s : State) : Out :=
  .next (lelasIssue { op := 0x36, zero := 0x3FFFFF } selfBody c s)

/-- The timeout of a context's WAIT, SEMA or JTAKE elapses: its code is TIMEOUT, and a JTAKE answers no entry (R140, R144, R168). -/
def timeoutWake (c : Nat) (s : State) : State :=
  match (s.ctx c).st, (s.ctx c).wait with
  | .wait, some (.event _ _ _ _) => wakeCtx c (BitVec.ofNat 32 Code.timeout.num) s
  | .wait, some (.sem _ _ _) => normUrg (wakeCtx c (BitVec.ofNat 32 Code.timeout.num) s)
  | .wait, some (.take _ rd _) => (wakeCtx c (BitVec.ofNat 32 Code.timeout.num) s).setGr c (rd + 1) 0
  | _, _ => s

/-- SCLK edges until the timeout of a context's wait elapses; none where it waits without one (R140). -/
def timeoutLeft (c : Nat) (s : State) : Option Nat :=
  match (s.ctx c).st, (s.ctx c).wait with
  | .wait, some w => w.due?.map (· - s.stm.sclk)
  | _, _ => none

/-- Every wait whose timeout has elapsed by this edge ends, but for one that a raise of the edge has ended (R140). -/
def timeouts (s : State) : State :=
  (s.seq.ctxs.map (·.1)).foldl (fun t c => if timeoutLeft c t = some 0 then timeoutWake c t else t) s

end Sys2Proof.Machine
end

