-- ==== Sys2Proof/Machine/Time.lean ====
section
/-! DEFINITION. The passing of SCLK edges: what every clocked part does over a number of edges, scheduled events, and what an edge does when no command waits (R38, R53, R105, R427, R432, R442, R493). -/

namespace Sys2Proof.Machine

/-! ### Edges without a boundary between them -/

/-- FLT_UST counts microseconds of 192 edges (R427). -/
def ustRun (n : Nat) (s : State) : State :=
  let t := s.stm.usFrac + n
  (s.modStm (fun x => { x with usFrac := t % 192 })).p F.fltUstUs ((s.g F.fltUstUs + t / 192) % 2 ^ 32)

/-- The timers count: on SCLK every edge, on string time every tick (R493). -/
def timersRun (edges ticks : Nat) (s : State) : State :=
  (List.range 8).foldl (fun t n => tmrAdvance n (if t.b1 F.tmrCfgClk n then ticks else edges) t) s

/-- `n` SCLK edges pass for string time, FLT_UST, ERR_N, the timers, the RTC and the watchdog, which counts while it is enabled (log 31). -/
def advance (n : Nat) (s : State) : State :=
  let t0 := stampNow s
  let s := ustRun n (stmRun n s)
  let s := timersRun n ((stampNow s + 2 ^ 48 - t0) % 2 ^ 48) (errEdges n s)
  (rtcEdges n s).modPow (fun p => { p with wdt := if s.b F.sysWdtctlEn then p.wdt + n else p.wdt })

/-! ### Scheduled events (R53, R54, R143, R296, R319) -/

/-- The contexts whose WAITT stamp is due. -/
def waittDue (s : State) : List (Nat × Ctx) :=
  waitersOn (fun w => match w with
    | .time a _ => stampDue a (stampNow s)
    | _ => false) s

/-- A due WAITT completes with its lateness (R143). -/
def waittFire (t : Nat) (s : State) (e : Nat × Ctx) : State :=
  match e.2.wait with
  | some (.time a _) => wakeCtx e.1 (BitVec.ofNat 32 (lateness a t)) s
  | _ => s

/-- Every scheduled event whose stamp the presented time has reached fires on this edge (R53). -/
def fireDue : State → State := oneEdge fun s =>
  let s := (waittDue s).foldl (waittFire (stampNow s)) s
  let s := winFire 1 (winFire 0 s)
  (List.range 8).foldl (fun t n => hsFire n t) s

/-- The stamps a window of a load switch waits for: its start until it is active or deferred, then its stop (R319, R320). -/
def slotStamps (e : Nat × SlotWin) (s : State) : List Nat :=
  if slotActive (e.1 / 2) (e.1 % 2 = 1) s || slotDeferred (e.1 / 2) (e.1 % 2 = 1) s then e.2.stop.toList else e.2.start :: e.2.stop.toList

/-- The stamps armed now: WAITT, capture windows, slots. -/
def armedStamps (s : State) : List Nat :=
  let waits := s.seq.ctxs.filterMap (fun e => match e.2.wait with
    | some (.time a _) => some a
    | _ => none)
  let wins := [0, 1].flatMap (fun l =>
    (if s.b1 F.adcWctlArmed l then [(s.conv l).start] else []) ++ (if s.b1 F.adcWctlOpen l then [(s.conv l).stop] else []))
  waits ++ wins ++ s.hkr.wins.flatMap (fun e => slotStamps e s)

/-- Edges until the presented time reaches stamp `a`; 0 for one reached or past. -/
def edgesToStamp (a : Nat) (s : State) : Option Nat :=
  if stampDue a (stampNow s) then some 0
  else edgesFor ((a % 2 ^ 48 * 2 ^ 32 + 2 ^ 80 - accNow s % 2 ^ 80) % 2 ^ 80) s

/-! ### One edge, and edges until something (R53, log 9) -/

/-- The events whose time this edge has reached (R47, R105, R436). -/
def dueEvents (s : State) : State :=
  let s := if missDue s then referenceMissing s else s
  let s := if discrepancyDue s then latchDiscrepancy s else s
  watchdogExpiry [] s

/-- What one SCLK edge does before it judges timeouts: time, its boundary and tick, the stamps it reaches, and what falls due on it (R53, R56, R139, R274). -/
def edgeWork (s : State) : State :=
  let c := cycleNow s
  let p := stampNow s
  oneEdge (fun s =>
    let s := advance 1 s
    let s := if cycleNow s = c then s else cycleEdge s
    let s := if stampNow s = p || held s || !domUp 4 s then s else stimeTrigger s
    dueEvents (fireDue s)) s

/-- One SCLK edge: its work, and then the timeouts that no raise of the edge has ended (R140). -/
def sclkEdge (s : State) : State := timeouts (edgeWork s)

/-- `n` edges, at none of which but the last anything falls due. -/
def sclkEdges (n : Nat) (s : State) : State := if n = 0 then s else sclkEdge (advance (n - 1) s)

/-- Edges to the next tick at which an enabled STIME program triggers (R274). -/
def stimeStops (s : State) : List Nat :=
  if held s || !domUp 4 s then []
  else (List.range 32).filterMap (fun n =>
    match progEn s.ce.idx n, progTrig s.ce.idx n with
    | true, some (.stime k ofs) =>
      let u := 2 ^ (k + 32)
      let d := (ofs % 2 ^ k * 2 ^ 32 + u - accNow s % u) % u
      edgesFor (if d = 0 then u else d) s
    | _, _ => none)

/-- Edges to the next event that the passing of time alone brings: a boundary, an armed stamp, a timeout, a missing reference event, the discrepancy limit, the watchdog, a string-time trigger. What is overdue now falls due on the next edge. -/
def stops (s : State) : List Nat :=
  let stamps := (armedStamps s).filterMap (fun a => edgesToStamp a s)
  let waits := s.seq.ctxs.filterMap (fun e => timeoutLeft e.1 s)
  let miss := match s.stm.lastRef with
    | some r => if stmState s = stFree then [] else [(5 + 4 * s.stm.missed) * expected s / 4 + 1 - (s.stm.sclk - r)]
    | none => []
  let disc := match s.flt.disag with
    | some (t0, td) => [192 * (1000 * td - disagTime t0 s) - s.stm.usFrac]
    | none => []
  let dog := if awake s && s.b F.sysWdtctlEn then [192000 * s.g F.sysWdtctlTimeout - s.pow.wdt] else []
  (edgesToBoundary s).toList ++ stamps ++ waits ++ miss ++ disc ++ dog ++ stimeStops s

/-- Edges to the next of the instants ahead. -/
def nextStop (s : State) : Option Nat := ((stops s).filter (fun n => decide (0 < n))).min?

/-- Time passes until `goal`, the edges that remain, is reached; every event on the way falls due on its own edge (log 9). Nothing happens where the goal never comes. -/
def runTo (goal : State → Option Nat) : Nat → State → State
  | 0, s => s
  | k + 1, s =>
    if !clocked s then s
    else match goal s with
      | none => s
      | some n =>
        let m := match nextStop s with
          | some m => min m n
          | none => n
        if n ≤ m then sclkEdges n s else runTo goal k (sclkEdges m s)

/-- How many events a single command may pass over on its way (log 9). -/
def runFuel : Nat := 2 ^ 16

/-- Time passes until `goal`; an event that is overdue now falls due on the first edge. -/
def letTime (goal : State → Option Nat) (s : State) : State :=
  if !clocked s then s
  else match goal s with
    | none => s
    | some n => if (stops s).contains 0 && decide (1 < n) then runTo goal runFuel (sclkEdge s) else runTo goal runFuel s

/-- Edges to the next scheduled event before the next cycle boundary; none if there is none. -/
def edgesToEvent (s : State) : Option Nat :=
  match edgesToBoundary s, ((armedStamps s).filterMap (fun a => edgesToStamp a s)).min? with
  | some b, some n => if n < b then some n else none
  | _, _ => none

/-- Time passes to the next scheduled event and it fires (R53). -/
def scheduledEvent (s : State) : State :=
  if !awake s then s
  else if edgesToEvent s = some 0 then fireDue s
  else letTime edgesToEvent s

/-- Time passes to the next cycle boundary (R51, R56); it never comes while the increment is 0. -/
def cycleBoundary (s : State) : State := letTime edgesToBoundary s

/-! ### Slot boundaries (R222) -/

/-- Edges to the next slot boundary for a medium, at a multiple of 4 096 ticks; 0 on one. -/
def edgesToSlot (pair : Bool) (s : State) : Option Nat :=
  let t := slotTime pair s
  if t / 2 ^ 32 % 0x1000 = 0 then some 0 else edgesFor (2 ^ 44 - t % 2 ^ 44) s

/-- Time passes to the next slot boundary for a medium, which may be a cycle boundary. -/
def toSlot (pair : Bool) (s : State) : State := if edgesToSlot pair s = some 0 then s else letTime (edgesToSlot pair) s

/-- A slot boundary comes and the medium's next frame starts if it may (R222). -/
def frameTxStart (pair : Bool) (s : State) : State :=
  if awake s then
    onDomain (if pair then 10 else 9) (txStart pair) (sweepTx (toSlot pair s))
  else s

/-! ### Events with a time condition -/

/-- Alarm `n` has reached its target (R451, R452); in sleep it may wake the node (R81). -/
def alarmEvent (n : Nat) (s : State) : State :=
  if s.pow.phase = .dark ∨ !s.b F.rtcStatOscok ∨ !alarmDue n s then s
  else wakeSource 1 (judgeAlarms s).2

/-- The discrepancy timer reaches T_disc; FLT stays in operation through a warm reset (R101, R436, R438). -/
def discrepancyLatch (s : State) : State := if clocked s && discrepancyDue s then latchDiscrepancy s else s

/-- A change on the SAFE pins (R434 to R436); in sleep it may wake the node (R81, R438). -/
def safePinChange (a b : Bool) (s : State) : State :=
  let changed := a != s.flt.pinA || b != s.flt.pinB
  let set := fun (t : State) => { t with flt := { t.flt with pinA := a, pinB := b } }
  if clocked s then safePins a b s
  else if changed && decide (s.pow.phase = .asleep) then wakeSource 3 (set s)
  else set s

/-! ### The step of a waiting machine -/

/-- Alarm `n` has fired between two states: its target moved or its enable cleared (R451). -/
def alarmFired (n : Nat) (s t : State) : Bool :=
  decide (s.g1 F.rtcAlmTimeA n ≠ t.g1 F.rtcAlmTimeA n) || (s.b1 F.rtcAlmCtlEn n && !t.b1 F.rtcAlmCtlEn n)

/-- The RTC in phases without SCLK: a crystal edge may fire an alarm, which may wake a sleeping node (R81, R451). -/
def stillTick (s : State) : State :=
  let t := rtcEdges 1 s
  if alarmFired 0 s t || alarmFired 1 s t then wakeSource 1 t else t

/-- What one edge does when no command waits: the running phases advance; in sleep and without SCLK only the RTC does; without D0 power nothing does. -/
def tick (s : State) : State :=
  match s.pow.phase with
  | .dark => s
  | .asleep | .heldOff | .borHeld => stillTick s
  | .inReset k => if k.deep then rtcEdges 1 s else sclkEdge s
  | _ => sclkEdge s

end Sys2Proof.Machine
end

