-- ==== Sys2Proof/Machine/Cmd.lean ====
section
/-! DEFINITION. What the command meanings share: a register access spelled by its fields, writes that arrive on one edge, and the phases in which an event has its effect. -/

namespace Sys2Proof.Machine

/-! ### Register accesses as commands -/

/-- The address of the register that holds field `i` of a family. -/
def Fam.reg (f : Fam) (i : Nat := 0) (j : Nat := 0) : Nat := f.key i j / 32

/-- A field's value in its place in the register word. -/
def Fam.put (f : Fam) (v : Nat) : Nat := v % 2 ^ f.w * 2 ^ f.lo

/-- A 32-bit write of a register by an initiator (R115, R122). -/
def cmdWrite (id : Id) (reg v : Nat) (s : State) : State := portStore id reg 4 v s

/-- A 32-bit read of a register by an initiator (R115, R122). -/
def cmdRead (id : Id) (reg : Nat) (s : State) : State := portLoad id reg 4 s

/-- Two writes of one register on one edge, in the order they take effect: the answer is the first-named write's (R480). -/
def pairWrite (reg : Nat) (a b : Id × Nat) (swap : Bool) (s : State) : State :=
  if swap then cmdWrite a.1 reg a.2 (cmdWrite b.1 reg b.2 s)
  else
    let t := cmdWrite a.1 reg a.2 s
    { cmdWrite b.1 reg b.2 t with resp := t.resp }

/-- Whether write `b` takes effect before write `a` on one edge: a release before a claim, then the higher rank, then the lower ID (R74, R480). -/
def rivalFirst (heldBit : Nat) (rank : Nat → Nat) (a b : Nat × Nat) : Bool :=
  if a.2.testBit heldBit && b.2.testBit heldBit then
    decide (rank a.2 < rank b.2) || (decide (rank a.2 = rank b.2) && decide (b.1 < a.1))
  else a.2.testBit heldBit

/-- A write of an owner register, with the rival that arrives on its edge. -/
def ownerWrite (reg heldBit : Nat) (rank : Nat → Nat) (a : Id × Nat) (rival : Option (Id × Nat)) (s : State) : State :=
  match rival with
  | none => cmdWrite a.1 reg a.2 s
  | some b => pairWrite reg a b (rivalFirst heldBit rank (a.1.val, a.2) (b.1.val, b.2)) s

/-- The word of an owner register's write: HELD. -/
def heldWord (f : Fam) (held : Bool) : Nat := f.put (bit held)

/-! ### Phases -/

/-- An event acts while SCLK runs. -/
def whenAwake (f : State → State) (s : State) : State := if awake s then f s else s

/-- An event acts while SCLK runs, through a warm reset too (R37, R78, R101). -/
def whenClocked (f : State → State) (s : State) : State := if clocked s then f s else s

/-- An event of a D0 block acts while D0 has power (R443). -/
def whenPowered (f : State → State) (s : State) : State := if s.pow.phase = .dark then s else f s

/-- The domain of a power-stage input (R497). -/
def pstDomain (x : Nat) : Nat := if x < 4 then 7 else 8

/-- The domain of a medium's transceiver (R205). -/
def medDomain (pair : Bool) : Nat := if pair then 10 else 9

end Sys2Proof.Machine
end

