-- ==== Sys2Proof/Machine/CmdAdc.lean ====
section
/-! DEFINITION. Commands of the converters (R289 to R310). `l` is a logical converter, `m` a physical one. -/

namespace Sys2Proof.Machine

/-- The word of ADC_CALCMD (R302, R310). -/
def calWord (cmd : Nat) (conv : Fin 2) (ch : Fin 32) (cross : Bool) (avg : BitVec 4) : Nat :=
  F.adcCalcmdCmd.put cmd + F.adcCalcmdConv.put conv + F.adcCalcmdCh.put ch + F.adcCalcmdPath.put (bit cross) +
    F.adcCalcmdAvg.put avg.toNat

/-- CONVERSION_RESULT: physical converter `m` answers logical converter `l`, a hold conversion if `hold`, with the raw result; `early` and `calEarly`: its slot began before the last format commit, before the last write of the calibration table (R294, R297 to R299, R303). -/
def execConversionResult (m l : Fin 2) (hold : Bool) (raw : BitVec 14) (early : Bool) (s : State) (calEarly : Bool := false) : Out :=
  .next (onDomain (5 + m) (conversion m l hold raw early calEarly) s)

/-- NEXT_ONESHOT: a write of ADC_nNEXT with HOLD 0 (R295). -/
def execNextOneshot (id : Id) (l : Fin 2) (ch : Fin 32) (s : State) : Out :=
  .next (cmdWrite id (F.adcNextCh.reg l) (F.adcNextCh.put ch) s)

/-- HOLD_ON: a write of ADC_nNEXT with HOLD 1 (R295). -/
def execHoldOn (id : Id) (l : Fin 2) (ch : Fin 32) (hdiv : BitVec 4) (s : State) : Out :=
  .next (cmdWrite id (F.adcNextCh.reg l) (F.adcNextCh.put ch + F.adcNextHold.put 1 + F.adcNextHdiv.put hdiv.toNat) s)

/-- HOLD_OFF: a write of ADC_nNEXT with HOFF 1 (R295). -/
def execHoldOff (id : Id) (l : Fin 2) (s : State) : Out :=
  .next (cmdWrite id (F.adcNextHoff.reg l) (F.adcNextHoff.put 1) s)

/-- FIFO_POP: a read of ADC_nFIFO (R298). -/
def execFifoPop (id : Id) (l : Fin 2) (s : State) : Out := .next (cmdRead id (F.adcFifoWord.reg l) s)

/-- WINDOW_ARM: a write of ADC_nWCTL with ARM and the GATE it carries (R296). -/
def execWindowArm (id : Id) (l : Fin 2) (gate : Bool) (s : State) : Out :=
  .next (cmdWrite id (F.adcWctlArm.reg l) (F.adcWctlArm.put 1 + F.adcWctlGate.put (bit gate)) s)

/-- WINDOW_STOP: a write of ADC_nWCTL with STOP and the GATE it carries (R296). -/
def execWindowStop (id : Id) (l : Fin 2) (gate : Bool) (s : State) : Out :=
  .next (cmdWrite id (F.adcWctlStop.reg l) (F.adcWctlStop.put 1 + F.adcWctlGate.put (bit gate)) s)

/-- CAL_ZERO: a write of ADC_CALCMD with CMD 1 (R302). -/
def execCalZero (id : Id) (conv : Fin 2) (ch : Fin 32) (cross : Bool) (avg : BitVec 4) (s : State) : Out :=
  .next (cmdWrite id F.adcCalcmdCmd.reg (calWord 1 conv ch cross avg) s)

/-- CAL_FULL: a write of ADC_CALCMD with CMD 2 (R302). -/
def execCalFull (id : Id) (conv : Fin 2) (ch : Fin 32) (cross : Bool) (avg : BitVec 4) (s : State) : Out :=
  .next (cmdWrite id F.adcCalcmdCmd.reg (calWord 2 conv ch cross avg) s)

/-- CAL_SET: a write of ADC_CALCMD with CMD 3 (R302). -/
def execCalSet (id : Id) (conv : Fin 2) (ch : Fin 32) (cross : Bool) (avg : BitVec 4) (s : State) : Out :=
  .next (cmdWrite id F.adcCalcmdCmd.reg (calWord 3 conv ch cross avg) s)

/-- CAL_COMMAND_DONE: the sum of the raw results, and whether one of them was at a limit (R302, R303). -/
def execCalCommandDone (sum : Int) (limit : Bool) (s : State) : Out := .next (onDomain 11 (calDone sum limit) s)

/-- CAL_TABLE_LOAD_DONE (R301). -/
def execCalTableLoadDone (m : Fin 2) (s : State) : Out :=
  .next (onDomain 11 (onDomain (5 + m) (calTableLoaded m)) s)

/-- SELF_CHECK: a pair was missed, or gave these deviations (R304, R307, R308). -/
def execSelfCheck (m : Fin 2) (missed : Bool) (d0 d1 : Nat) (s : State) : Out :=
  .next (onDomain (5 + m) (selfCheck m missed d0 d1) s)

/-- CONVERTER_FAIL, while `lost` triggered conversions of `m` and `kept` of the other converter are on their way (R304 to R306). -/
def execConverterFail (m : Fin 2) (noResult : Bool) (s : State) (lost kept : Nat := 0) : Out :=
  .next (onDomain (5 + m) (converterFail m noResult lost kept) s)

/-- CONVERTER_RESTORE: a write of ADC_CTL.RESTOREm (R307). -/
def execConverterRestore (id : Id) (m : Fin 2) (s : State) : Out :=
  .next (cmdWrite id F.adcCtlRestore0.reg (2 ^ m.val) s)

/-- ADC_COMMIT (R299). -/
def execAdcCommit (id : Id) (s : State) : Out := .next (cmdWrite id F.adcCommitCommit.reg 1 s)

end Sys2Proof.Machine
end

