-- ==== Sys2Proof/Machine/CmdBus.lean ====
section
/-! DEFINITION. Commands of the register model: accesses of any register, staged writes, discarded stages (R7 to R12, R115, R127). -/

namespace Sys2Proof.Machine

/-- A write on an edge on which hardware sets W1C bits of a register: they count as set for every condition of the write, and the write does not clear them (R9, R496). -/
def racedStore (id addr width v : Nat) (hw : Nat × Nat) (s : State) : State :=
  let bits := if domUp (domainOf hw.1) s then hw.2 &&& w1cMask hw.1 else 0
  portStore id addr width (if addr = hw.1 then v - (v &&& bits) else v) (hwSet hw.1 bits s)

/-- REGISTER_WRITE: a write of 2^size bytes at an address by an initiator (R7, R115, R122); `hw`: a register and the W1C bits of it that hardware sets on the edge (R9, R496). -/
def execRegisterWrite (id : Id) (addr : Word) (size : Fin 4) (v : BitVec 64) (s : State) (hw : Option (Word × Word) := none) : Out :=
  let n := v.toNat % 2 ^ (8 * 2 ^ size.val)
  match hw with
  | none => .next (portStore id addr.toNat (2 ^ size.val) n s)
  | some h => .next (if awake s then racedStore id addr.toNat (2 ^ size.val) n (h.1.toNat, h.2.toNat) s else s)

/-- RC_READ: a read of 2^size bytes at an address; RC fields clear behind it (R9, R115, R122). `hw`: what hardware adds to them, or sets in them, on the edge. -/
def execRcRead (id : Id) (addr : Word) (size : Fin 4) (s : State) (hw : Word := 0) : Out :=
  .next (if hw = 0 ∨ !awake s then portLoad id addr.toNat (2 ^ size.val) s
    else hwCount addr.toNat hw.toNat (portLoad id addr.toNat (2 ^ size.val) s))

/-- STAGED_WRITE: a write of a register word, whose RWS fields go to the block's staged copy (R127). -/
def execStagedWrite (id : Id) (addr v : Word) (s : State) : Out := .next (cmdWrite id addr.toNat v.toNat s)

/-- STAGE_DISCARD: the owner of stage `k` has made no RWS write for 65 536 SCLK (R127). BOOT's own stage lives only within BOOT_END. -/
def execStageDiscard (k : Fin 40) (s : State) : Out := .next (whenAwake (fun t => t.discard k) s)

end Sys2Proof.Machine
end

