-- ==== Sys2Proof/Machine/CmdCe.lean ====
section
/-! DEFINITION. Commands of the control engine: triggers, lanes, the instructions, its registers and the trace buffers (R265 to R288). -/

namespace Sys2Proof.Machine

/-- STIME_TRIGGER (R274). -/
def execStimeTrigger (s : State) : Out := .next (onDomain 4 stimeTrigger s)

/-- INSTANCE_DISPATCH on a lane (R266, R267). -/
def execInstanceDispatch (lane : Fin 2) (s : State) : Out := .next (onDomain 4 (dispatch lane) s)

/-- INSTANCE_RELEASE of a lane's oldest run (R267, R279, R282, R284). -/
def execInstanceRelease (lane : Fin 2) (s : State) : Out := .next (onDomain 4 (release lane) s)

/-- FAILOVER_PROOF_DONE (R279). -/
def execFailoverProofDone (s : State) : Out := .next (onDomain 4 failoverProofDone s)

/-! ### Instructions: what a lane issues next (R267, R271) -/

/-- CE_MAC (R271). -/
def execCeMac (lane : Fin 2) (s : State) : Out := .next (onDomain 4 (ceRun .mac ceMac lane) s)

/-- CE_MSU (R271). -/
def execCeMsu (lane : Fin 2) (s : State) : Out := .next (onDomain 4 (ceRun .msu ceMsu lane) s)

/-- CE_MUL (R271). -/
def execCeMul (lane : Fin 2) (s : State) : Out := .next (onDomain 4 (ceRun .mul ceMul lane) s)

/-- CE_MACR (R271). -/
def execCeMacr (lane : Fin 2) (s : State) : Out := .next (onDomain 4 (ceRun .macr ceMacr lane) s)

/-- CE_MULR (R271). -/
def execCeMulr (lane : Fin 2) (s : State) : Out := .next (onDomain 4 (ceRun .mulr ceMulr lane) s)

/-- CE_ADA (R271). -/
def execCeAda (lane : Fin 2) (s : State) : Out := .next (onDomain 4 (ceRun .ada ceAda lane) s)

/-- CE_LDA (R271). -/
def execCeLda (lane : Fin 2) (s : State) : Out := .next (onDomain 4 (ceRun .lda ceLda lane) s)

/-- CE_CLA (R271). -/
def execCeCla (lane : Fin 2) (s : State) : Out := .next (onDomain 4 (ceRun .cla ceCla lane) s)

/-- CE_ASR (R271). -/
def execCeAsr (lane : Fin 2) (s : State) : Out := .next (onDomain 4 (ceRun .asr ceAsr lane) s)

/-- CE_SAT (R271). -/
def execCeSat (lane : Fin 2) (s : State) : Out := .next (onDomain 4 (ceRun .sat ceSat lane) s)

/-- CE_SATW (R271). -/
def execCeSatw (lane : Fin 2) (s : State) : Out := .next (onDomain 4 (ceRun .satw ceSatw lane) s)

/-- CE_ADD (R271). -/
def execCeAdd (lane : Fin 2) (s : State) : Out := .next (onDomain 4 (ceRun .add ceAdd lane) s)

/-- CE_SUB (R271). -/
def execCeSub (lane : Fin 2) (s : State) : Out := .next (onDomain 4 (ceRun .sub ceSub lane) s)

/-- CE_MIN (R271). -/
def execCeMin (lane : Fin 2) (s : State) : Out := .next (onDomain 4 (ceRun .min ceMin lane) s)

/-- CE_MAX (R271). -/
def execCeMax (lane : Fin 2) (s : State) : Out := .next (onDomain 4 (ceRun .max ceMax lane) s)

/-- CE_MOV (R271). -/
def execCeMov (lane : Fin 2) (s : State) : Out := .next (onDomain 4 (ceRun .mov ceMov lane) s)

/-- CE_SEL (R271). -/
def execCeSel (lane : Fin 2) (s : State) : Out := .next (onDomain 4 (ceRun .sel ceSel lane) s)

/-- CE_LDI (R271). -/
def execCeLdi (lane : Fin 2) (s : State) : Out := .next (onDomain 4 (ceRun .ldi ceLdi lane) s)

/-- CE_RDP (R271). -/
def execCeRdp (lane : Fin 2) (s : State) : Out := .next (onDomain 4 (ceRun .rdp ceRdp lane) s)

/-- CE_WRP (R271). -/
def execCeWrp (lane : Fin 2) (s : State) : Out := .next (onDomain 4 (ceRun .wrp ceWrp lane) s)

/-- CE_PRE (R271, R282). -/
def execCePre (lane : Fin 2) (s : State) : Out := .next (onDomain 4 (ceRun .pre cePre lane) s)

/-- CE_NOP (R271). -/
def execCeNop (lane : Fin 2) (s : State) : Out := .next (onDomain 4 (ceRun .nop ceNop lane) s)

/-! ### Registers and trace buffers -/

/-- CE_COMMIT (R276, R277). -/
def execCeCommit (id : Id) (s : State) : Out := .next (cmdWrite id F.ceCommitCommit.reg 1 s)

/-- CE_SP_WRITE (R281). -/
def execCeSpWrite (id : Id) (k : Fin 32) (v : Word) (s : State) : Out :=
  .next (cmdWrite id (F.ceSpVal.reg k) v.toNat s)

/-- CE_IDATA_ACCESS: a write of a word, or a read (R288). -/
def execCeIdataAccess (id : Id) (write : Option Word) (s : State) : Out :=
  .next (match write with
    | some v => cmdWrite id F.ceIdataData.reg v.toNat s
    | none => cmdRead id F.ceIdataData.reg s)

/-- TRACE_ARM: a write of TRC_nCTL (R285). -/
def execTraceArm (id : Id) (n : Fin 4) (s : State) : Out :=
  .next (cmdWrite id (F.trcCtlArm.reg n) (F.trcCtlArm.put 1) s)

/-- TRACE_FORCE: a write of TRC_nCTL (R285). -/
def execTraceForce (id : Id) (n : Fin 4) (s : State) : Out :=
  .next (cmdWrite id (F.trcCtlForce.reg n) (F.trcCtlForce.put 1) s)

/-- TRACE_STOP: a write of TRC_nCTL (R285). -/
def execTraceStop (id : Id) (n : Fin 4) (s : State) : Out :=
  .next (cmdWrite id (F.trcCtlStop.reg n) (F.trcCtlStop.put 1) s)

/-- TRC_TRIG_EDGE (R285). -/
def execTrcTrigEdge (s : State) : Out := .next (onDomain 4 trcTrigEdge s)

/-- TRC_OWN_WRITE, with the write that may arrive on the same edge (R286, R480). -/
def execTrcOwnWrite (id : Id) (n : Fin 4) (held : Bool) (rival : Option (Id × Bool)) (s : State) : Out :=
  .next (ownerWrite (F.trcOwnHeld.reg n) F.trcOwnHeld.lo (fun _ => 0) (id, heldWord F.trcOwnHeld held)
    (rival.map (fun b => (b.1, heldWord F.trcOwnHeld b.2))) s)

end Sys2Proof.Machine
end

