-- ==== Sys2Proof/Machine/CmdChg.lean ====
section
/-! DEFINITION. Commands of the backup cell and its charger, and of the NVS controller (R327 to R348, R349 to R358). -/

namespace Sys2Proof.Machine

/-- CHARGER_TICK: BAT in mV, the charge current in mA, and whether the input and the temperature loops act (R337 to R342). -/
def execChargerTick (bat cur : Nat) (indpm treg : Bool) (s : State) : Out :=
  .next (whenPowered (chargerTick bat cur indpm treg) s)

/-- CELL_PRESENCE_CHANGE (R328, R346). -/
def execCellPresenceChange (present : Bool) (s : State) : Out := .next (whenPowered (cellPresence present) s)

/-- NTC_JUDGE: the NTC pin in mV (R329 to R331, R346). -/
def execNtcJudge (mv : Nat) (s : State) : Out := .next (whenPowered (ntcJudge mv) s)

/-- POWER_PATH_TO_VPRE (R336, R453). -/
def execPowerPathToVpre (s : State) : Out := .next (whenPowered pathToVpre s)

/-- CHG_COMMIT (R347). -/
def execChgCommit (id : Id) (s : State) : Out := .next (cmdWrite id F.chgCommitCommit.reg 1 s)

/-- LINE_OPERATION_DONE: `holds`, the line verifies as written (R353, R356). -/
def execLineOperationDone (holds : Bool) (s : State) : Out := .next (onDomain 11 (lineDone holds) s)

/-- A write of NVS_COMMIT whose line write is queued: its code comes with LINE_OPERATION_DONE (R356, R358). -/
def nvsCommitIssue (id : Nat) (s : State) : State :=
  if idLive id s then
    match busCheck id F.nvsCommitCommit.reg 4 .write (portTurn id F.nvsCommitCommit.reg s) with
    | (some c, s) => s.answer c
    | (none, s) =>
      match nvsCommit id s with
      | (some c, s) => s.answer c
      | (none, s) => s
  else s

/-- NVS_COMMIT (R122, R358). -/
def execNvsCommit (id : Id) (s : State) : Out := .next (nvsCommitIssue id s)

end Sys2Proof.Machine
end

