-- ==== Sys2Proof/Machine/CmdDma.lean ====
section
/-! DEFINITION. Commands of the DMA block (R365 to R382). -/

namespace Sys2Proof.Machine

/-- DMA_ADDRESS_WRITE: SRC, or DST when `dst` (R366). -/
def execDmaAddressWrite (id : Id) (n : Fin 32) (dst : Bool) (addr : Word) (s : State) : Out :=
  .next (cmdWrite id (if dst then F.dmaChDstAddr.reg n else F.dmaChSrcAddr.reg n) addr.toNat s)

/-- DMA_START (R369, R370). -/
def execDmaStart (id : Id) (n : Fin 32) (s : State) : Out :=
  .next (cmdWrite id (F.dmaChCtlStart.reg n) (F.dmaChCtlStart.put 1) s)

/-- DMA_ABORT (R378). -/
def execDmaAbort (id : Id) (n : Fin 32) (s : State) : Out :=
  .next (cmdWrite id (F.dmaChCtlAbort.reg n) (F.dmaChCtlAbort.put 1) s)

/-- DMA_KICK (R373). -/
def execDmaKick (id : Id) (n : Fin 32) (s : State) : Out :=
  .next (cmdWrite id (F.dmaChCtlKick.reg n) (F.dmaChCtlKick.put 1) s)

/-- DMA_RELEASE (R366). -/
def execDmaRelease (id : Id) (n : Fin 32) (s : State) : Out :=
  .next (cmdWrite id (F.dmaChCtlRelease.reg n) (F.dmaChCtlRelease.put 1) s)

/-- DMA_ISSUE (R375). -/
def execDmaIssue (s : State) : Out := .next (onDomain 13 dmaIssue s)

/-- DMA_ACCESS_DONE of a channel (R371 to R376, R378). -/
def execDmaAccessDone (n : Fin 32) (s : State) : Out := .next (onDomain 13 (dmaDone n) s)

/-- DMA_STARVATION of a channel (R375). -/
def execDmaStarvation (n : Fin 32) (s : State) : Out := .next (onDomain 13 (dmaStarve n) s)

/-- DMA_COMMIT (R382). -/
def execDmaCommit (id : Id) (s : State) : Out := .next (cmdWrite id F.dmaCommitCommit.reg 1 s)

end Sys2Proof.Machine
end

