-- ==== Sys2Proof/Machine/CmdFan.lean ====
section
/-! DEFINITION. Commands of the enclosure fan (R456 to R470). -/

namespace Sys2Proof.Machine

/-- FAN_REGULATOR_STEP: electrical frequencies from back-EMF and from FG, whether the current limit acts, and whether crossings are seen (R457, R463). -/
def execFanRegulatorStep (fcross ffg : Nat) (ilim crossings : Bool) (s : State) : Out :=
  .next (whenAwake (fanStep fcross ffg ilim crossings) s)

/-- ZONE_EVALUATION (R458). -/
def execZoneEvaluation (s : State) : Out := .next (whenAwake zoneEval s)

/-- ZONE_STALE (R459). -/
def execZoneStale (k : Fin 8) (s : State) : Out := .next (whenAwake (zoneStale k) s)

/-- LOOP_TIMEOUT (R460). -/
def execLoopTimeout (s : State) : Out := .next (whenAwake loopTimeout s)

/-- START_STEP_END: `good`, the step found the rotation it looks for (R461, R462). -/
def execStartStepEnd (good : Bool) (s : State) : Out := .next (whenAwake (startStepEnd good) s)

/-- BACKOFF_EXPIRY (R462). -/
def execBackoffExpiry (s : State) : Out := .next (whenAwake backoffExpiry s)

/-- BEMF_LOST (R464). -/
def execBemfLost (s : State) : Out := .next (whenAwake bemfLost s)

/-- TACH_LOST (R464). -/
def execTachLost (s : State) : Out := .next (whenAwake tachLost s)

/-- SIGNAL_STALL (R464). -/
def execSignalStall (s : State) : Out := .next (whenAwake signalStall s)

/-- BRIDGE_OVERCURRENT (R465). -/
def execBridgeOvercurrent (s : State) : Out := .next (onDomain 14 (bridgeFault F.fanStatOc) s)

/-- BRIDGE_OVERTEMP (R465). -/
def execBridgeOvertemp (s : State) : Out := .next (onDomain 14 (bridgeFault F.fanStatOt) s)

/-- FAN_VM has fallen: recorded while the block runs (R465). -/
def fanVmFell (s : State) : State :=
  if !s.fan.vm then s else if awake s then fanVmLow s else s.modFan (fun f => { f with vm := false })

/-- FAN_VM_UNDERVOLTAGE (R465). -/
def execFanVmUndervoltage (s : State) : Out := .next (fanVmFell s)

/-- FAN_VM has risen: the fan starts afresh while the block runs (R465). -/
def fanVmRose (s : State) : State :=
  if awake s then fanVmReturn s else s.modFan (fun f => { f with vm := true })

/-- FAN_VM_RETURN (R465). -/
def execFanVmReturn (s : State) : Out := .next (fanVmRose s)

/-- FAN_COMMIT (R468). -/
def execFanCommit (id : Id) (s : State) : Out := .next (cmdWrite id F.fanCommitCommit.reg 1 s)

end Sys2Proof.Machine
end

