-- ==== Sys2Proof/Machine/CmdFlt.lean ====
section
/-! DEFINITION. Commands of the fault block and the SAFE input (R430 to R438). -/

namespace Sys2Proof.Machine

/-- SEVERE_CLEAR: a write of FLT_SEV (R430). -/
def execSevereClear (id : Id) (v : Word) (s : State) : Out := .next (cmdWrite id F.fltSevSev.reg v.toNat s)

/-- SAFE_PIN_CHANGE: the synchronised levels of SAFE_A and SAFE_B (R434 to R436, R438). -/
def execSafePinChange (a b : Bool) (s : State) : Out := .next (safePinChange a b s)

/-- DISCREPANCY_LATCH (R436). -/
def execDiscrepancyLatch (s : State) : Out := .next (discrepancyLatch s)

/-- DISCREPANCY_CLEAR: a write of 1 to FLT_SAFESTAT.DISCREPANCY (R437). -/
def execDiscrepancyClear (id : Id) (s : State) : Out :=
  .next (cmdWrite id F.fltSafestatDiscrepancy.reg (F.fltSafestatDiscrepancy.put 1) s)

end Sys2Proof.Machine
end

