-- ==== Sys2Proof/Machine/CmdHkr.lean ====
section
/-! DEFINITION. Commands of the rails and the load switches (R311 to R326). -/

namespace Sys2Proof.Machine

/-- RAIL_VSET_WRITE (R313, R314). -/
def execRailVsetWrite (id : Id) (i : Fin 8) (mv : Half) (s : State) : Out :=
  .next (cmdWrite id (F.hkrVsetMv.reg i) mv.toNat s)

/-- RAIL_ENABLE_WRITE (R313, R314). -/
def execRailEnableWrite (id : Id) (i : Fin 8) (en : Bool) (s : State) : Out :=
  .next (cmdWrite id (F.hkrEnEn.reg i) (F.hkrEnEn.put (bit en)) s)

/-- RAIL_POWER_GOOD (R94, R315). -/
def execRailPowerGood (i : Fin 8) (s : State) : Out := .next (whenPowered (railPowerGood i) s)

/-- RAIL_PG_LOSS (R315). -/
def execRailPgLoss (i : Fin 8) (s : State) : Out := .next (whenPowered (railBad i) s)

/-- RAIL_UV_FAULT (R315, R323). -/
def execRailUvFault (i : Fin 8) (s : State) : Out := .next (whenPowered (railUv i) s)

/-- RAIL_OC_FAULT (R315, R323). -/
def execRailOcFault (i : Fin 8) (s : State) : Out := .next (whenPowered (railOc i) s)

/-- HS_CTRL_WRITE (R318, R320, R325). -/
def execHsCtrlWrite (id : Id) (n : Fin 8) (v : Word) (s : State) : Out :=
  .next (cmdWrite id (F.hkrHsCtrlOn.reg n) v.toNat s)

/-- The command register of a slot: A, or B when `b`. -/
def slotReg (n : Fin 8) (b : Bool) : Nat := if b then F.hkrHsBcmdArm.reg n else F.hkrHsAcmdArm.reg n

/-- SLOT_ARM (R319). -/
def execSlotArm (id : Id) (n : Fin 8) (b : Bool) (s : State) : Out :=
  .next (cmdWrite id (slotReg n b) (F.hkrHsAcmdArm.put 1) s)

/-- SLOT_STOP (R319). -/
def execSlotStop (id : Id) (n : Fin 8) (b : Bool) (s : State) : Out :=
  .next (cmdWrite id (slotReg n b) (F.hkrHsAcmdStop.put 1) s)

/-- SLOT_NOW (R319). -/
def execSlotNow (id : Id) (n : Fin 8) (b : Bool) (s : State) : Out :=
  .next (cmdWrite id (slotReg n b) (F.hkrHsAcmdNow.put 1) s)

/-- SWITCH_OVERCURRENT, of a switch that is on: its limit acts, ends, or has acted for 100 µs (R322). -/
def execSwitchOvercurrent (n : Fin 8) (s : State) (e : LimitEvent := .held) : Out := .next (whenPowered (switchLimit n e) s)

/-- SWITCH_THERMAL, of a switch that is on (R322). -/
def execSwitchThermal (n : Fin 8) (s : State) : Out :=
  .next (whenPowered (fun t => if t.b1 F.hkrHsStatSwon n then switchFault F.hkrHsStatHsot n t else t) s)

end Sys2Proof.Machine
end

