-- ==== Sys2Proof/Machine/CmdJnl.lean ====
section
/-! DEFINITION. Commands of the accepted-work journal (R180 to R201). -/

namespace Sys2Proof.Machine

/-- ACCEPTANCE_REQUEST: the next request in line is checked and taken, or refused (R182 to R184, R188); `bad`: the copy of a newly claimed sender slot that does not read back. -/
def execAcceptanceRequest (s : State) (bad : Option (Fin 2) := none) : Out := .next (onDomain 11 (acceptNext bad) s)

/-- URGBOX_LOAD (R187). -/
def execUrgboxLoad (s : State) : Out := .next (onDomain 11 urgboxLoad s)

/-- ENTRY_WRITE_DONE; `bad`: the line that does not read back as written, 0 the one of words 8 to 15, 1 the one of words 0 to 7 (R182, R185). -/
def execEntryWriteDone (bad : Option (Fin 2)) (s : State) : Out := .next (onDomain 11 (entryWriteDone bad) s)

/-- ENTRY_RETIRE (R196). -/
def execEntryRetire (s : State) : Out := .next (whenAwake retire s)

/-- CONTROL_BLOCK_WRITE (R180, R196). -/
def execControlBlockWrite (s : State) : Out := .next (onDomain 11 writeControlBlock s)

/-- HOST_SUBMIT: a write of 1 to JNL_HGO (R198). -/
def execHostSubmit (id : Id) (s : State) : Out := .next (cmdWrite id F.jnlHgoGo.reg 1 s)

/-- HOST_QUERY: a write of JNL_HQSEQ (R198). -/
def execHostQuery (id : Id) (seq : Word) (s : State) : Out := .next (cmdWrite id F.jnlHqseqSeq.reg seq.toNat s)

/-- JNL_COMMIT (R201). -/
def execJnlCommit (id : Id) (s : State) : Out := .next (cmdWrite id F.jnlCommitCommit.reg 1 s)

end Sys2Proof.Machine
end

