-- ==== Sys2Proof/Machine/CmdPst.lean ====
section
/-! DEFINITION. Commands of the panel power stages (R237 to R264). `x` is the input A to H, `y` the phase. -/

namespace Sys2Proof.Machine

/-- A hardware change of mode of input `x` (R246, R251 to R253, R257). -/
def modeHit (x : Nat) (h : ModeHit) (s : State) : State :=
  match h with
  | .presenceLost => onDomain (pstDomain x) (presenceLost x) s
  | .overvoltage => onDomain (pstDomain x) (overvoltage x) s
  | .undervoltage => onDomain (pstDomain x) (undervoltage x) s
  | .driverFault => onDomain (pstDomain x) (driverFault x) s
  | .softStartTimeout => onDomain (pstDomain x) (softStartTimeout x) s
  | .safePins a b => safePinChange a b s

/-- A write of PST_x_MODE, with a hardware change of mode on its edge: then a write that would be taken changes nothing and answers BUSY (R246). -/
def modeRow (id : Id) (x : Fin 8) (m : Nat) (hit : Option ModeHit) (s : State) : State :=
  let w := cmdWrite id (F.pstModeMode.reg x) m
  match hit with
  | none => w s
  | some h =>
    let t := modeHit x h s
    if pstMode x t = pstMode x s then w t
    else if (w s).resp.code = .ok then t.answer .busy
    else { modeHit x h (w s) with resp := (w s).resp }

/-- MODE_OFF: a write of OFF to PST_x_MODE (R245, R246). -/
def execModeOff (id : Id) (x : Fin 8) (s : State) (hit : Option ModeHit := none) : Out := .next (modeRow id x 0 hit s)

/-- MODE_BUCK (R245, R246). -/
def execModeBuck (id : Id) (x : Fin 8) (s : State) (hit : Option ModeHit := none) : Out := .next (modeRow id x 1 hit s)

/-- MODE_BOOST (R245, R246). -/
def execModeBoost (id : Id) (x : Fin 8) (s : State) (hit : Option ModeHit := none) : Out := .next (modeRow id x 2 hit s)

/-- MODE_BUCK_BOOST (R245, R246). -/
def execModeBuckBoost (id : Id) (x : Fin 8) (s : State) (hit : Option ModeHit := none) : Out := .next (modeRow id x 3 hit s)

/-- MODE_PASS (R245, R246). -/
def execModePass (id : Id) (x : Fin 8) (s : State) (hit : Option ModeHit := none) : Out := .next (modeRow id x 4 hit s)

/-- MODE_SAFE (R245, R246). -/
def execModeSafe (id : Id) (x : Fin 8) (s : State) (hit : Option ModeHit := none) : Out := .next (modeRow id x 5 hit s)

/-- PWM_PERIOD_START; `phErr`: how far the start lies off its reference in string time, in 1/16 SCLK (R240, R245, R260, R262). -/
def execPwmPeriodStart (x : Fin 8) (y : Fin 2) (s : State) (phErr : Nat := 0) : Out :=
  .next (onDomain (pstDomain x) (periodStart x y phErr) s)

/-- UPDATE_POINT (R242, R250, R275). -/
def execUpdatePoint (x : Fin 8) (y : Fin 2) (s : State) : Out :=
  .next (onDomain (pstDomain x) (ceUpdatePoint x y) s)

/-- PWM_TRIGGER: the stage raises its trigger, and the engine runs while D4 is on (R244, R274). -/
def execPwmTrigger (x : Fin 8) (y : Fin 2) (s : State) : Out :=
  .next (onDomain (pstDomain x) (onDomain 4 (pwmTrigger x y)) s)

/-- SLEW_STEP: the 1 µs step of every input (R248, R251). -/
def execSlewStep (s : State) : Out :=
  .next (oneEdge (fun s => (List.range 8).foldl (fun t x => onDomain (pstDomain x) (slewStep x) t) s) s)

/-- SOFT_START_TIMEOUT (R251). -/
def execSoftStartTimeout (x : Fin 8) (s : State) : Out := .next (onDomain (pstDomain x) (softStartTimeout x) s)

/-- PRESENCE_DETECTED (R251, R252). -/
def execPresenceDetected (x : Fin 8) (s : State) : Out := .next (onDomain (pstDomain x) (presenceDetected x) s)

/-- PRESENCE_LOST (R251, R252). -/
def execPresenceLost (x : Fin 8) (s : State) : Out := .next (onDomain (pstDomain x) (presenceLost x) s)

/-- OVERCURRENT_TRIP (R253). -/
def execOvercurrentTrip (x : Fin 8) (y : Fin 2) (s : State) : Out :=
  .next (onDomain (pstDomain x) (overcurrent x y) s)

/-- OVERVOLTAGE_TRIP: by VINS_x, or by a pin that selects OVP_EXT for the input (R70, R253). -/
def execOvervoltageTrip (x : Fin 8) (ext : Bool) (s : State) : Out :=
  .next (onDomain (pstDomain x) (fun t => if ext && !ovpPin x t then t else overvoltage x t) s)

/-- UNDERVOLTAGE_TRIP (R252, R253). -/
def execUndervoltageTrip (x : Fin 8) (s : State) : Out := .next (onDomain (pstDomain x) (undervoltage x) s)

/-- DRIVER_FAULT (R253). -/
def execDriverFault (x : Fin 8) (s : State) : Out := .next (onDomain (pstDomain x) (driverFault x) s)

/-- PST_FORCE_WRITE (R257). -/
def execPstForceWrite (id : Id) (safe : Bool) (s : State) : Out :=
  .next (cmdWrite id F.pstForceSafe.reg (F.pstForceSafe.put (bit safe)) s)

/-- BYPASS_WRITE (R106, R256). -/
def execBypassWrite (id : Id) (byp : Bool) (s : State) : Out :=
  .next (cmdWrite id F.pstBypByp.reg (F.pstBypByp.put (bit byp)) s)

/-- SAFE_DWELL_EXPIRY (R258). -/
def execSafeDwellExpiry (x : Fin 8) (s : State) : Out := .next (onDomain (pstDomain x) (safeDwell x) s)

/-- BALANCE_WINDOW_END (R250). -/
def execBalanceWindowEnd (x : Fin 8) (s : State) : Out := .next (onDomain (pstDomain x) (balanceEnd x) s)

/-- SYNCIN_EDGE: `gap` SCLK after the last edge, with the phase error left in 1/16 SCLK (R260, R261). -/
def execSyncinEdge (gap phErr : Nat) (s : State) : Out :=
  .next (oneEdge (fun s => (List.range 8).foldl (fun t x => onDomain (pstDomain x) (syncinEdge x gap phErr) t) s) s)

/-- SYNC_EDGE_MISSING, of an input that follows a reference (R260, R261). -/
def execSyncEdgeMissing (x : Fin 8) (s : State) : Out :=
  .next (onDomain (pstDomain x) (oneEdge (fun t => if (t.pin x).set0.src = 0 then t else syncMiss x t)) s)

/-- SYNC_SLEW_STEP: the 100 µs step of every input (R261). -/
def execSyncSlewStep (s : State) : Out :=
  .next ((List.range 8).foldl (fun t x => onDomain (pstDomain x) (syncSlew x) t) s)

/-- PST_COMMIT: a write of PST_x_COMMIT (R262, R276). -/
def execPstCommit (id : Id) (x : Fin 8) (s : State) : Out := .next (cmdWrite id (F.pstCommitCommit.reg x) 1 s)

end Sys2Proof.Machine
end

