-- ==== Sys2Proof/Machine/CmdReset.lean ====
section
/-! DEFINITION. Commands of supplies, resets, boot, domains, sleep, the watchdog and the GP pins (R71, R75 to R108, R414, R443). -/

namespace Sys2Proof.Machine

/-- POWER_ON_RESET (R86). -/
def execPowerOnReset (s : State) : Out := .next (powerOnReset s)

/-- BROWN_OUT_RESET: 0 VSYS, 1 VDD_CORE, 2 VIO, 3 VDDA (R89, R108). `line`: the line write in service, where it is not the controller's front one or the supply falls faster than R90 allows (R353); `also`: further causes of the same SCLK cycle (R14). -/
def execBrownOutReset (src : Fin 4) (s : State) (line : Option (LineOp × LineEnd) := none) (also : List Cause := []) : Out :=
  .next (brownOut src line also s)

/-- BOR_RELEASE (R89). -/
def execBorRelease (s : State) : Out := .next (borRelease s)

/-- CLOCK_MONITOR_TRIP, with further causes of the same SCLK cycle (R14, R91). -/
def execClockMonitorTrip (s : State) (also : List Cause := []) : Out := .next (clockTrip also s)

/-- GLITCH_MONITOR_TRIP, with further causes of the same SCLK cycle (R14, R91). -/
def execGlitchMonitorTrip (s : State) (also : List Cause := []) : Out := .next (glitchTrip also s)

/-- HELD_OFF_ENTRY (R87); `line` as for BROWN_OUT_RESET (R353). -/
def execHeldOffEntry (s : State) (line : Option (LineOp × LineEnd) := none) : Out := .next (heldOffEntry line s)

/-- SUPPLY_WARNING (R88, R333, R453). -/
def execSupplyWarning (s : State) : Out := .next (supplyWarn s)

/-- VHV_RISE (R86). -/
def execVhvRise (s : State) : Out := .next (vhvRise s)

/-- VHV_FALL (R75). -/
def execVhvFall (s : State) : Out := .next (vhvFall s)

/-- D0_POWER_LOSS (R443). -/
def execD0PowerLoss (s : State) : Out := .next (d0Loss s)

/-- PIN_RESET, with further causes of the same SCLK cycle (R14, R103). -/
def execPinReset (s : State) (also : List Cause := []) : Out := .next (pinReset also s)

/-- WATCHDOG_SERVICE (R105). -/
def execWatchdogService (id : Id) (v : Word) (s : State) : Out :=
  .next (cmdWrite id F.sysWdtsvcSvc.reg v.toNat s)

/-- WATCHDOG_EXPIRY, with further causes of the same SCLK cycle (R14, R105). -/
def execWatchdogExpiry (s : State) (also : List Cause := []) : Out := .next (watchdogExpiry also s)

/-- SOFTWARE_RESET_REQUEST (R104). -/
def execSoftwareResetRequest (id : Id) (key : Half) (s : State) : Out :=
  .next (cmdWrite id F.sysRstreqKey.reg (F.sysRstreqKey.put key.toNat) s)

/-- SOFTWARE_RESET, with further causes of the same SCLK cycle (R14, R104). -/
def execSoftwareReset (s : State) (also : List Cause := []) : Out := .next (softwareReset also s)

/-- LIFE_CYCLE_RESET, with further causes of the same SCLK cycle (R14, R414). -/
def execLifeCycleReset (s : State) (also : List Cause := []) : Out := .next (lifeCycleReset also s)

/-- BOOT_START: VSEL1 to VSEL8 in mV, and nRST low at the end of step 2 (R92 to R99). -/
def execBootStart (vsel : List Nat) (nrst : Bool) (s : State) : Out := .next (bootStart vsel nrst s)

/-- DEFAULT_SEQ_TIMEOUT (R94). -/
def execDefaultSeqTimeout (s : State) : Out := .next (whenAwake seqTimeout s)

/-- BOOT_END (R100). -/
def execBootEnd (s : State) : Out := .next (bootEnd s)

/-- DOMCTL_WRITE (R77, R78). -/
def execDomctlWrite (id : Id) (on : Half) (s : State) : Out :=
  .next (cmdWrite id F.hkrDomctlOn.reg (F.hkrDomctlOn.put on.toNat) s)

/-- DOMAIN_POWER_GOOD (R78, R80). -/
def execDomainPowerGood (s : State) : Out := .next (whenClocked domainGood s)

/-- DOMAIN_OFF_COMPLETE (R78). -/
def execDomainOffComplete (s : State) : Out := .next (whenClocked domainOffDone s)

/-- SLEEP_ENTER: ENTER with the four wake enables the write carries (R81). -/
def execSleepEnter (id : Id) (wk : BitVec 4) (s : State) : Out :=
  .next (cmdWrite id F.hkrSleepEnter.reg (F.hkrSleepEnter.put 1 + wk.toNat * 2 ^ 8) s)

/-- WAKE: 0 two-wire, 1 RTC, 2 VHV, 3 SAFE (R81). -/
def execWake (src : Fin 4) (s : State) : Out := .next (wakeSource src s)

/-- SYS_GP_WRITE, with the write that may arrive on the same edge (R71 to R74). -/
def execSysGpWrite (id : Id) (pin : Fin 24) (v : Word) (rival : Option (Id × Word)) (s : State) : Out :=
  .next (ownerWrite (F.sysGpFunc.reg pin) F.sysGpHeld.lo (fun w => gpRank pin (w % 4)) (id, v.toNat)
    (rival.map (fun b => (b.1, b.2.toNat))) s)

end Sys2Proof.Machine
end

