-- ==== Sys2Proof/Machine/CmdRtc.lean ====
section
/-! DEFINITION. Commands of the real-time clock (R442 to R455). -/

namespace Sys2Proof.Machine

/-- RTC_SNAPSHOT_READ: a read of RTC_SEC (R445). -/
def execRtcSnapshotRead (id : Id) (s : State) : Out := .next (cmdRead id F.rtcSecSec.reg s)

/-- RTC_COMMIT (R446, R452). -/
def execRtcCommit (id : Id) (s : State) : Out := .next (cmdWrite id F.rtcCommitCommit.reg 1 s)

/-- The word of RTC_TRCTL. -/
def trimWord (start abort auto : Bool) (k : BitVec 5) : Nat :=
  F.rtcTrctlStart.put (bit start) + F.rtcTrctlAbort.put (bit abort) + F.rtcTrctlAuto.put (bit auto) + F.rtcTrctlK.put k.toNat

/-- TRIM_START: a write of RTC_TRCTL with START (R448). -/
def execTrimStart (id : Id) (k : BitVec 5) (auto : Bool) (s : State) : Out :=
  .next (cmdWrite id F.rtcTrctlStart.reg (trimWord true false auto k) s)

/-- TRIM_WINDOW_CLOSE: the window's length in 1/64 crystal periods (R449). -/
def execTrimWindowClose (m : Nat) (s : State) : Out := .next (whenAwake (trimClose m) s)

/-- TRIM_ABORT: a write of RTC_TRCTL with ABORT (R450). -/
def execTrimAbort (id : Id) (k : BitVec 5) (auto : Bool) (s : State) : Out :=
  .next (cmdWrite id F.rtcTrctlAbort.reg (trimWord false true auto k) s)

/-- ALARM_FIRE (R81, R451, R452). -/
def execAlarmFire (n : Fin 2) (s : State) : Out := .next (alarmEvent n s)

/-- OSC_STOP (R444, R450). -/
def execOscStop (s : State) : Out := .next (whenPowered oscStop s)

/-- OSC_RESUME (R444). -/
def execOscResume (s : State) : Out := .next (whenPowered oscResume s)

end Sys2Proof.Machine
end

