-- ==== Sys2Proof/Machine/Cry.lean ====
section
/-! DEFINITION. The crypto unit at work: what a CRY command does by the time it ends (R418, R419). -/

namespace Sys2Proof.Machine

/-- The width of CRY's next access: a whole 64-bit word where one fits, else a byte (log 27). -/
def cryWidth (addr n : Nat) : Nat := if addr % 8 = 0 ∧ 8 ≤ n then 8 else 1

/-- CRY reads SRAM, under the ID of the command's initiator (R418). `fuel`: at least the number of bytes. -/
def cryLoad : Nat → Nat → Nat → Nat → State → Code × List (BitVec 8) × State
  | _, _, _, 0, s => (.ok, [], s)
  | 0, _, _, _, s => (.ok, [], s)
  | fuel + 1, id, a, n, s =>
    let w := cryWidth a n
    if 0x100000 ≤ a then (.invalid, [], s)
    else
      match busRead id a w s with
      | (.ok, d, s) =>
        let (c, bs, s) := cryLoad fuel id (a + w) (n - w) s
        (c, leBytes w d ++ bs, s)
      | (c, _, s) => (c, [], s)

/-- CRY writes SRAM, under the ID of the command's initiator (R418). -/
def cryStore : Nat → Nat → Nat → List (BitVec 8) → State → Code × State
  | _, _, _, [], s => (.ok, s)
  | 0, _, _, _, s => (.ok, s)
  | fuel + 1, id, a, bs, s =>
    let w := cryWidth a bs.length
    if 0x100000 ≤ a then (.invalid, s)
    else
      match busWrite id a w (ofLe (bs.take w)) s with
      | (.ok, s) => cryStore fuel id (a + w) (bs.drop w) s
      | (c, s) => (c, s)

/-- The bytes at SRC. -/
def crySource (c : CryCmd) (n : Nat) (s : State) : Code × List (BitVec 8) × State := cryLoad n c.id c.src n s

/-- Bytes to DST. -/
def cryOut (c : CryCmd) (bs : List (BitVec 8)) (s : State) : Code × State := cryStore bs.length c.id c.dst bs s

/-- OP 1: SHA-256 (R418). -/
def crySha (c : CryCmd) (s : State) : Code × State :=
  match crySource c c.len s with
  | (.ok, m, s) => cryOut c (sha256 m) s
  | (e, _, s) => (e, s)

/-- OP 2: AES-128 ECB, block by block (R418). -/
def cryEcb (key : Nat) : Nat → CryCmd → State → Code × State
  | 0, _, s => (.ok, s)
  | k + 1, c, s =>
    match crySource c 16 s with
    | (.ok, m, s) =>
      match cryOut c (aes (bytes16 key) m) s with
      | (.ok, s) => cryEcb key k { c with src := c.src + 16, dst := c.dst + 16 } s
      | (e, s) => (e, s)
    | (e, _, s) => (e, s)

/-- OP 3: AES-128-CMAC (R418). -/
def cryMac (key : Nat) (c : CryCmd) (s : State) : Code × State :=
  match crySource c c.len s with
  | (.ok, m, s) => cryOut c (cmac key m) s
  | (e, _, s) => (e, s)

/-- OP 4: ECDSA P-256 verify of digest, x, y, r, s (R418, R419). -/
def cryEcdsa (c : CryCmd) (s : State) : Code × State :=
  match crySource c 160 s with
  | (.ok, m, s) =>
    let part := fun (i : Nat) => ofBe ((m.drop (32 * i)).take 32)
    let s := s.p F.cryStatValid 0
    if ecdsaValid (part 1) (part 2) (part 3) (part 4) then
      (.ok, s.p F.cryStatValid (bit (ecdsaVerify (part 0) (part 1) (part 2) (part 3) (part 4))))
    else (.invalid, s)
  | (e, _, s) => (e, s.p F.cryStatValid 0)

/-- OP 5: Derive (R418). -/
def cryDerive (c : CryCmd) (s : State) : Code × State :=
  match crySource c 16 s with
  | (.ok, m, s) =>
    match s.sec.dev with
    | some d =>
      if ((m.head?).getD 0).toNat < 0x80 then (.invalid, s)
      else (.ok, slotLoad c.ksel c.id (beNum (aes (bytes16 d) m)) s)
    | none => (.integrity, s)
  | (e, _, s) => (e, s)

/-- Words from the TRNG (R418, log 18). -/
def rngBytes : Nat → State → List (BitVec 8) × State
  | 0, s => ([], s)
  | n + 1, s =>
    let (w, s) := rngWord s
    let (bs, s) := rngBytes n s
    (leBytes 4 w ++ bs, s)

/-- OP 6: Random (R418, R420). -/
def cryRandom (c : CryCmd) (s : State) : Code × State :=
  if s.sec.rngOut then (.busy, s)
  else
    let (bs, s) := rngBytes ((c.len + 3) / 4) s
    cryOut c (bs.take c.len) s

/-- What a running command does (R418). A key slot that its owner has cleared since the START leaves no key: INVALID (log 27). -/
def cryWork (c : CryCmd) (s : State) : Code × State :=
  let keyed := fun (f : Nat → Code × State) =>
    match Tab.get s.sec.keys c.ksel with
    | some k => f k
    | none => (Code.invalid, s)
  match c.op with
  | 1 => crySha c s
  | 2 => keyed (fun k => cryEcb k (c.len / 16) c s)
  | 3 => keyed (fun k => cryMac k c s)
  | 4 => cryEcdsa c s
  | 5 => cryDerive c s
  | _ => cryRandom c s

/-- A CRY command ends: CODE, and CRY_DONE (R419). -/
def cryDone (s : State) : State :=
  match s.sec.cry with
  | some c =>
    let (e, s) := cryWork c s
    let s := (s.p F.cryStatBusy 0).p F.cryStatCode e.num
    raiseLine lineCryDone ((s.modSec (fun x => { x with cry := none })).answer e)
  | none => s

end Sys2Proof.Machine
end

