-- ==== Sys2Proof/Machine/CmdSec.lean ====
section
/-! DEFINITION. Commands of fuses, life cycle, mailbox, TAP and CRY (R402 to R424). -/

namespace Sys2Proof.Machine

/-! ### Fuses and life cycle -/

/-- OTP_PROGRAM: a write of OTP_PCMD with its SRC and KEY (R407). -/
def execOtpProgram (id : Id) (src : Bool) (key : Half) (s : State) : Out :=
  .next (cmdWrite id F.otpPcmdKey.reg (F.otpPcmdSrc.put (bit src) + F.otpPcmdKey.put key.toNat) s)

/-- OTP_BURN_DONE: bits that failed at MARGIN_LO and at MARGIN_HI (R408). -/
def execOtpBurnDone (failLo failHi : Word) (s : State) : Out :=
  .next (onDomain 12 (burnDone failLo.toNat failHi.toNat) s)

/-- OTP_RBADV_WRITE (R412). -/
def execOtpRbadvWrite (id : Id) (n : BitVec 9) (s : State) : Out :=
  .next (cmdWrite id F.otpRbadvN.reg (F.otpRbadvN.put n.toNat) s)

/-- LCS_TRANSITION_REQUEST: a write of LCS_CMD (R413). -/
def execLcsTransitionRequest (id : Id) (target : BitVec 3) (key : Half) (s : State) : Out :=
  .next (cmdWrite id F.lcsCmdKey.reg (F.lcsCmdTarget.put target.toNat + F.lcsCmdKey.put key.toNat) s)

/-- TRANSITION_DONE: the OTP word whose burn fails, if one does (R414). -/
def execTransitionDone (fail : Option (Fin 2048)) (s : State) : Out :=
  .next (onDomain 12 (transitionEnd (fail.map Fin.val)) s)

/-! ### Mailbox: a write of LCS_AGO with the command that LCS_ACMD.OP names (R415) -/

/-- A write of LCS_AGO while LCS_ACMD.OP is `op`. -/
def mailGo (op : Nat) (id : Id) (s : State) : State :=
  if s.g F.lcsAcmdOp = op then cmdWrite id F.lcsAgoGo.reg 1 s else s

/-- MAILBOX_PROGRAM (R415). -/
def execMailboxProgram (id : Id) (s : State) : Out := .next (mailGo 1 id s)

/-- MAILBOX_TRANSITION (R415). -/
def execMailboxTransition (id : Id) (s : State) : Out := .next (mailGo 2 id s)

/-- MAILBOX_ANALYSIS (R415). -/
def execMailboxAnalysis (id : Id) (s : State) : Out := .next (mailGo 3 id s)

/-! ### TAP (R417) -/

/-- A TAP command under a level of TRST_N: the TAP works while D1 is powered, and is held reset, with IDCODE in force, while TRST_N is low (R65, R417, log 105). -/
def tapLive (trst : Bool) (f : State → State) (s : State) : State :=
  if !d1Powered s then s
  else
    let s := s.modSec (fun x => { x with trst := trst })
    if trst then f s else s.modSec (fun x => { x with tap := .idcode })

/-- The level on TDO between commands: high impedance, since nothing shifts (R65). -/
def tdoLevel (_ : State) : Option Bool := none

/-- EXTEST (R417). -/
def execTapExtest (s : State) (trst : Bool := true) : Out := .next (tapLive trst tapExtest s)

/-- SAMPLE_PRELOAD: the pins are sampled, or a value is shifted in (R417). -/
def execTapSamplePreload (preload : Option Nat) (s : State) (trst : Bool := true) : Out := .next (tapLive trst (tapSample preload) s)

/-- IDCODE: the identification register is selected; the answer shows it (R417). -/
def execTapIdcode (s : State) (trst : Bool := true) : Out := .next (tapLive trst (fun t => (tapLoad .idcode t).answer .ok idcodeWord) s)

/-- DEBUG (R29, R417). -/
def execTapDebug (s : State) (trst : Bool := true) : Out := .next (tapLive trst (tapLoad .debug) s)

/-- VTEST (R415, R417). -/
def execTapVtest (s : State) (trst : Bool := true) : Out := .next (tapLive trst (tapLoad .vtest) s)

/-- BYPASS (R417). -/
def execTapBypass (s : State) (trst : Bool := true) : Out := .next (tapLive trst (tapLoad .bypass) s)

/-! ### CRY (R418 to R420, R424): a write of CRY_CMD with START -/

/-- The word of CRY_CMD. -/
def cryWord (op : Nat) (ksel : Fin 4) : Nat := F.cryCmdOp.put op + F.cryCmdKsel.put ksel + F.cryCmdStart.put 1

/-- SHA256 (R418). -/
def execSha256 (id : Id) (ksel : Fin 4) (s : State) : Out := .next (cmdWrite id F.cryCmdOp.reg (cryWord 1 ksel) s)

/-- AES_ENCRYPT (R418). -/
def execAesEncrypt (id : Id) (ksel : Fin 4) (s : State) : Out := .next (cmdWrite id F.cryCmdOp.reg (cryWord 2 ksel) s)

/-- AES_CMAC (R418). -/
def execAesCmac (id : Id) (ksel : Fin 4) (s : State) : Out := .next (cmdWrite id F.cryCmdOp.reg (cryWord 3 ksel) s)

/-- ECDSA_VERIFY (R418). -/
def execEcdsaVerify (id : Id) (ksel : Fin 4) (s : State) : Out := .next (cmdWrite id F.cryCmdOp.reg (cryWord 4 ksel) s)

/-- DERIVE (R418). -/
def execDerive (id : Id) (ksel : Fin 4) (s : State) : Out := .next (cmdWrite id F.cryCmdOp.reg (cryWord 5 ksel) s)

/-- RANDOM (R418). -/
def execRandom (id : Id) (ksel : Fin 4) (s : State) : Out := .next (cmdWrite id F.cryCmdOp.reg (cryWord 6 ksel) s)

/-- CRY_COMMAND_DONE: the command's work and its code (R418, R419). -/
def execCryCommandDone (s : State) : Out := .next (onDomain 12 cryDone s)

/-- KEY_LOAD (R424). -/
def execKeyLoad (id : Id) (slot : Fin 4) (s : State) : Out :=
  .next (cmdWrite id F.cryKeyldLoad.reg (F.cryKeyldSlot.put slot + F.cryKeyldLoad.put 1) s)

/-- KEY_CLEAR (R424). -/
def execKeyClear (id : Id) (slot : Fin 4) (s : State) : Out :=
  .next (cmdWrite id F.cryKeyldClr.reg (F.cryKeyldSlot.put slot + F.cryKeyldClr.put 1) s)

/-- TRNG_HEALTH_FAIL (R420). -/
def execTrngHealthFail (s : State) : Out := .next (onDomain 12 rngFail s)

/-- TRNG_STARTUP_PASS (R420). -/
def execTrngStartupPass (s : State) : Out := .next (onDomain 12 rngPass s)

end Sys2Proof.Machine
end

