-- ==== Sys2Proof/Machine/CmdSeq.lean ====
section
/-! DEFINITION. Commands of the frond engine's registers (R135, R139, R146). -/

namespace Sys2Proof.Machine

/-- CTX_START of the context the initiator has selected (R135, R155). -/
def execCtxStart (id : Id) (s : State) : Out := .next (cmdWrite id F.seqCtxcmdCmd.reg 1 s)

/-- CTX_STOP of the context the initiator has selected (R135, R155). -/
def execCtxStop (id : Id) (s : State) : Out := .next (cmdWrite id F.seqCtxcmdCmd.reg 2 s)

/-- CTX_CLEAR of the context the initiator has selected (R135, R155). -/
def execCtxClear (id : Id) (s : State) : Out := .next (cmdWrite id F.seqCtxcmdCmd.reg 3 s)

/-- SEQ_SIGNAL_WRITE (R139). -/
def execSeqSignalWrite (id : Id) (line : Byte) (s : State) : Out :=
  .next (cmdWrite id F.seqSignalLine.reg (F.seqSignalLine.put line.toNat) s)

/-- SEM_FORCED_RELEASE: FREL, with the RANK the write carries (R146). -/
def execSemForcedRelease (id : Id) (sem : Fin 64) (rank : BitVec 4) (s : State) : Out :=
  .next (cmdWrite id (F.seqSemFrel.reg sem) (F.seqSemFrel.put 1 + F.seqSemRank.put rank.toNat) s)

/-- WAIT_TIMEOUT: time passes until the timeout of context `c`'s WAIT, SEMA or JTAKE has elapsed (R140). -/
def execWaitTimeout (c : Fin 1024) (s : State) : Out := .next (letTime (timeoutLeft c) s)

end Sys2Proof.Machine
end

