-- ==== Sys2Proof/Machine/CmdSlk.lean ====
section
/-! DEFINITION. Commands of the string link: frames received and sent, media, commissioning (R202 to R236). `pair` is the pair medium, otherwise the carrier; `bytes` are a frame's bytes after its sync field; `ago` is how many SCLK back the sync field ended. -/

namespace Sys2Proof.Machine

/-- The types a receive-ring frame may have (R215): gateway-family APP. -/
def isGatewayApp (t : Nat) : Bool := decide (0x10 ≤ t) && decide (t ≤ 0x3F)

/-- PEER APP (R215). -/
def isPeerApp (t : Nat) : Bool := decide (0x90 ≤ t) && decide (t ≤ 0xBF)

/-- RECEPTION_START (R225). -/
def execReceptionStart (pair : Bool) (rssi : Byte) (s : State) : Out :=
  .next (onDomain (medDomain pair) (receptionStart pair rssi.toNat) s)

/-- PREAMBLE_DETECT (R225). -/
def execPreambleDetect (pair : Bool) (rssi : Byte) (s : State) : Out :=
  .next (onDomain (medDomain pair) (preambleDetect pair rssi.toNat) s)

/-- FRAME_DROPPED (R209, R220). -/
def execFrameDropped (pair : Bool) (bytes : List Byte) (s : State) (ago : Nat := 0) : Out :=
  .next (onDomain (medDomain pair) (frameDropped pair ago bytes) s)

/-- BEACON_RX (R43, R44, R220, R227). -/
def execBeaconRx (pair : Bool) (ago : Nat) (bytes : List Byte) (s : State) : Out :=
  .next (onDomain (medDomain pair) (receive pair ago bytes (· = 0x01) (onBeacon pair ago)) s)

/-- COMMAND_RX (R216). -/
def execCommandRx (pair : Bool) (bytes : List Byte) (s : State) : Out :=
  .next (onDomain (medDomain pair) (receive pair 0 bytes (fun t => t = 0x02 || t = 0x82) (onCommand pair)) s)

/-- REPLY_RX (R219). -/
def execReplyRx (pair : Bool) (ago : Nat) (bytes : List Byte) (s : State) : Out :=
  .next (onDomain (medDomain pair) (receive pair ago bytes (fun t => t = 0x03 || t = 0x83) (onRing pair ago)) s)

/-- APP_RX (R219). -/
def execAppRx (pair : Bool) (ago : Nat) (bytes : List Byte) (s : State) : Out :=
  .next (onDomain (medDomain pair) (receive pair ago bytes isGatewayApp (onRing pair ago)) s)

/-- PEER_APP_RX (R219). -/
def execPeerAppRx (pair : Bool) (ago : Nat) (bytes : List Byte) (s : State) : Out :=
  .next (onDomain (medDomain pair) (receive pair ago bytes isPeerApp (onRing pair ago)) s)

/-- JOIN_RX (R215). -/
def execJoinRx (pair : Bool) (bytes : List Byte) (s : State) : Out :=
  .next (onDomain (medDomain pair) (receive pair 0 bytes (· = 0x04) onJoin) s)

/-- ASSIGN_RX (R213, R232). -/
def execAssignRx (pair : Bool) (bytes : List Byte) (s : State) : Out :=
  .next (onDomain (medDomain pair) (receive pair 0 bytes (· = 0x05) (onCommission assign pair)) s)

/-- KEYLOAD_RX (R213, R232). -/
def execKeyloadRx (pair : Bool) (bytes : List Byte) (s : State) : Out :=
  .next (onDomain (medDomain pair) (receive pair 0 bytes (· = 0x06) (onCommission keyload pair)) s)

/-- FRAME_TX_START: the next slot boundary on a medium (R222, R223). -/
def execFrameTxStart (pair : Bool) (s : State) : Out := .next (frameTxStart pair s)

/-- FRAME_TX_END (R218, R224). -/
def execFrameTxEnd (pair : Bool) (s : State) : Out := .next (onDomain (medDomain pair) (txEnd pair) s)

/-- JOIN_SEND (R231). -/
def execJoinSend (s : State) : Out := .next (whenAwake joinSend s)

/-- KEEPALIVE_LOSS (R227). -/
def execKeepaliveLoss (s : State) : Out := .next (whenAwake keepaliveLoss s)

/-- MEDIUM_DRIVER_FAULT (R229, R230). -/
def execMediumDriverFault (pair : Bool) (s : State) : Out :=
  .next (onDomain (medDomain pair) (driverFaultBegin pair) s)

/-- TX_DRIVER_FAULT_END (R230). -/
def execTxDriverFaultEnd (pair : Bool) (s : State) : Out := .next (whenAwake (driverFaultEnd pair) s)

/-- MEDIUM_SILENCE (R229). -/
def execMediumSilence (pair : Bool) (s : State) : Out := .next (whenAwake (mediumSilence pair) s)

/-- MEDIUM_RESTORE (R229). -/
def execMediumRestore (pair : Bool) (s : State) : Out := .next (whenAwake (mediumRestore pair) s)

/-- RX_POP: a write of 1 to SLK_RXPOP (R219). -/
def execRxPop (id : Id) (s : State) : Out := .next (cmdWrite id F.slkRxpopPop.reg 1 s)

/-- FORGET: a write of SLK_CMCTL with FORGET set and the COMMISS it carries (R232). -/
def execForget (id : Id) (commiss : Bool) (s : State) : Out :=
  .next (cmdWrite id F.slkCmctlForget.reg (F.slkCmctlForget.put 1 + F.slkCmctlCommiss.put (bit commiss)) s)

/-- SLK_COMMIT (R236). -/
def execSlkCommit (id : Id) (s : State) : Out := .next (cmdWrite id F.slkCommitCommit.reg 1 s)

end Sys2Proof.Machine
end

