-- ==== Sys2Proof/Machine/CmdStm.lean ====
section
/-! DEFINITION. Commands of string time (R35 to R61). -/

namespace Sys2Proof.Machine

/-- XTAL_QUALIFIED (R35). -/
def execXtalQualified (s : State) : Out := .next (whenClocked xtalQualified s)

/-- XTAL_LOST (R35). -/
def execXtalLost (s : State) : Out := .next (whenClocked xtalLost s)

/-- STM_COMMIT (R46, R61). -/
def execStmCommit (id : Id) (s : State) : Out := .next (cmdWrite id F.stmCommitCommit.reg 1 s)

/-- STM_INC_WRITE (R45). -/
def execStmIncWrite (id : Id) (v : Word) (s : State) : Out := .next (cmdWrite id F.stmIncInc.reg v.toNat s)

/-- STM_SETC_WRITE (R60). -/
def execStmSetcWrite (id : Id) (v : Word) (s : State) : Out := .next (cmdWrite id F.stmSetcCycle.reg v.toNat s)

/-- STM_NOWC_READ (R59). -/
def execStmNowcRead (id : Id) (s : State) : Out := .next (cmdRead id F.stmNowcCycle.reg s)

/-- RIPPLE_REFERENCE_EVENT: a zero crossing whose corrected instant lies `ago` SCLK back, of a ripple of `amp` codes peak to peak (R41, R42, R47 to R50). -/
def execRippleReferenceEvent (ago : Nat) (s : State) (amp : Nat := 0) : Out := .next (whenClocked (rippleEvent ago amp) s)

/-- REFERENCE_MISSING (R47). -/
def execReferenceMissing (s : State) : Out := .next (whenClocked referenceMissing s)

/-- HOLDOVER_EXPIRY (R46, R52). -/
def execHoldoverExpiry (s : State) : Out := .next (whenClocked holdoverExpiry s)

/-- CYCLE_BOUNDARY: time passes to the next boundary (R40, R51, R56, R60). -/
def execCycleBoundary (s : State) : Out := .next (cycleBoundary s)

/-- SCHEDULED_EVENT_FIRE: time passes to the next armed stamp before the next boundary (R53). -/
def execScheduledEventFire (s : State) : Out := .next (scheduledEvent s)

end Sys2Proof.Machine
end

