-- ==== Sys2Proof/Machine/CmdTmr.lean ====
section
/-! DEFINITION. Commands of the general timers (R480 to R482, R493). -/

namespace Sys2Proof.Machine

/-- TMR_OWN_WRITE, with the write that may arrive on the same edge (R480, R482). -/
def execTmrOwnWrite (id : Id) (n : Fin 8) (held : Bool) (rival : Option (Id × Bool)) (s : State) : Out :=
  .next (ownerWrite (F.tmrOwnHeld.reg n) F.tmrOwnHeld.lo (fun _ => 0) (id, heldWord F.tmrOwnHeld held)
    (rival.map (fun b => (b.1, heldWord F.tmrOwnHeld b.2))) s)

/-- TIMER_WRAP: a timer that stands at TOP passes it (R493). -/
def execTimerWrap (n : Fin 8) (s : State) : Out := .next (whenAwake (timerWrap n) s)

/-- TIMER_COMPARE: a timer's count equals CMP (R493). -/
def execTimerCompare (n : Fin 8) (s : State) : Out := .next (whenAwake (timerCompare n) s)

/-- TIMER_CAPTURE: an edge on a pin of the timer, rising or falling (R493). -/
def execTimerCapture (n : Fin 8) (rising : Bool) (s : State) : Out := .next (whenAwake (timerCapture n rising) s)

end Sys2Proof.Machine
end

