-- ==== Sys2Proof/Machine/CmdTwb.lean ====
section
/-! DEFINITION. Commands of the two-wire ports (R383 to R401). -/

namespace Sys2Proof.Machine

/-- HOST_WRITE_TRANSACTION: the address byte's device, the bytes after it, and how it ends (R386, R388, R389). -/
def execHostWriteTransaction (dev : BitVec 7) (bytes : List Byte) (fin : HostEnd) (s : State) : Out :=
  .next (hostWrite dev.toNat bytes fin s)

/-- HOST_READ_TRANSACTION: the device, how many bytes the host acknowledges, and how it ends (R387 to R389). -/
def execHostReadTransaction (dev : BitVec 7) (acks : Nat) (fin : HostEnd) (s : State) : Out :=
  .next (hostRead dev.toNat acks fin s)

/-- BUS_FREE: a STOP, or 50 µs with both lines high (R385). -/
def execBusFree (stop : Bool) (s : State) : Out := .next (busFree stop s)

/-- STRETCH_LIMIT: of a write's word, or of a read (R388). -/
def execStretchLimit (w : Option Word) (s : State) : Out := .next (stretchLimit (w.map BitVec.toNat) s)

/-- CLOCK_LOW_TIMEOUT (R390). -/
def execClockLowTimeout (s : State) : Out := .next (whenAwake clockLow s)

/-- DATA_LOW_TIMEOUT (R390). -/
def execDataLowTimeout (s : State) : Out := .next (whenAwake dataLow s)

/-- ALERT_RESPONSE: `won`, the node's address won the bus (R392). -/
def execAlertResponse (won : Bool) (s : State) : Out := .next (whenAwake (alertResponse won) s)

/-- ALERT_SW: a write of TWB_ALERT with SW and the EN it carries (R392). -/
def execAlertSw (id : Id) (en : BitVec 4) (s : State) : Out :=
  .next (cmdWrite id F.twbAlertSw.reg (F.twbAlertSw.put 1 + F.twbAlertEn.put en.toNat) s)

/-- ADDRESS_MATCH_WAKE: an address byte seen in sleep (R393, R394). -/
def execAddressMatchWake (dev : BitVec 7) (s : State) : Out := .next (addressWake dev.toNat s)

/-- TWB_COMMIT (R400). -/
def execTwbCommit (id : Id) (s : State) : Out := .next (cmdWrite id F.twbCommitCommit.reg 1 s)

/-- TWB2_OWN_WRITE, with the write that may arrive on the same edge (R396, R480). -/
def execTwb2OwnWrite (id : Id) (held : Bool) (rival : Option (Id × Bool)) (s : State) : Out :=
  .next (ownerWrite F.twb2OwnHeld.reg F.twb2OwnHeld.lo (fun _ => 0) (id, heldWord F.twb2OwnHeld held)
    (rival.map (fun b => (b.1, heldWord F.twb2OwnHeld b.2))) s)

/-- TWB2_GO: a write of TWB2_CMD with GO; `linesFree`, the port's lines have been free for 50 µs (R397). -/
def execTwb2Go (id : Id) (addr : BitVec 7) (wlen rlen : BitVec 5) (linesFree : Bool) (s : State) : Out :=
  .next (cmdWrite id F.twb2CmdGo.reg (F.twb2CmdAddr.put addr.toNat + F.twb2CmdWlen.put wlen.toNat +
    F.twb2CmdRlen.put rlen.toNat + F.twb2CmdGo.put 1) (s.modTwb (fun t => { t with lines2 := linesFree })))

/-- TWB2_TRANSFER_DONE: 0 all acknowledged, 1 a NACK at byte `npos`, 2 arbitration lost, 3 the clock-low timeout; the bytes received (R398). -/
def execTwb2TransferDone (k : Fin 4) (npos : Fin 32) (rx : List Byte) (s : State) : Out :=
  .next (whenAwake (twb2Done k npos rx) s)

end Sys2Proof.Machine
end

