-- ==== Sys2Proof/Machine/LelasAlu.lean ====
section
/-! DEFINITION. Lelas arithmetic and logic, register and immediate forms (R161, R162). -/

namespace Sys2Proof.Machine

/-- A compare's result: 1 or 0 (R159). -/
def flagWord (b : Bool) : Word := if b then 1 else 0

/-- The row of FUNC `f` of OP 0x01: two sources, bits [13:4] zero (R156, R161). -/
def rowAlu (f : Nat) : LelasRow := { op := 0x01, func := some f, zero := 0x3FF0, src := fun w => [lwRa w, lwRb w] }

/-- A register form: g[d] takes an operation of g[a] and g[b] (R157, R161). -/
def aluBody (f : Word → Word → Word) (w c : Nat) (s : State) : State :=
  lelasSet c (lwRd w) (f (s.gr c (lwRa w)) (s.gr c (lwRb w))) s

/-- The row of an immediate form (R162). -/
def rowImm (op z : Nat) : LelasRow := { op := op, zero := z, src := fun w => [lwRa w] }

/-- The row of LUI or LI, which reads no register (R162). -/
def rowConst (op : Nat) : LelasRow := { op := op, zero := 0x3C0000 }

/-- An immediate form: g[d] takes an operation of g[a] and IMM (R162). -/
def immBody (f : Word → BitVec 18 → Word) (w c : Nat) (s : State) : State :=
  lelasSet c (lwRd w) (f (s.gr c (lwRa w)) (lwImm w)) s

/-- ADD: the sum modulo 2^32 (R161). -/
def aluAdd (a b : Word) : Word := a + b

/-- Context `c` issues ADD (R161). -/
def execLelasAdd (c : Fin 1024) (s : State) : Out := .next (lelasIssue (rowAlu 0x0) (aluBody aluAdd) c s)

/-- SUB: the difference modulo 2^32 (R161). -/
def aluSub (a b : Word) : Word := a - b

/-- Context `c` issues SUB (R161). -/
def execLelasSub (c : Fin 1024) (s : State) : Out := .next (lelasIssue (rowAlu 0x1) (aluBody aluSub) c s)

/-- AND: the bitwise AND (R161). -/
def aluAnd (a b : Word) : Word := a &&& b

/-- Context `c` issues AND (R161). -/
def execLelasAnd (c : Fin 1024) (s : State) : Out := .next (lelasIssue (rowAlu 0x2) (aluBody aluAnd) c s)

/-- OR: the bitwise OR (R161). -/
def aluOr (a b : Word) : Word := a ||| b

/-- Context `c` issues OR (R161). -/
def execLelasOr (c : Fin 1024) (s : State) : Out := .next (lelasIssue (rowAlu 0x3) (aluBody aluOr) c s)

/-- XOR: the bitwise XOR (R161). -/
def aluXor (a b : Word) : Word := a ^^^ b

/-- Context `c` issues XOR (R161). -/
def execLelasXor (c : Fin 1024) (s : State) : Out := .next (lelasIssue (rowAlu 0x4) (aluBody aluXor) c s)

/-- SHL: a shifted left by b[4:0] (R161). -/
def aluShl (a b : Word) : Word := a <<< (b.toNat % 32)

/-- Context `c` issues SHL (R161). -/
def execLelasShl (c : Fin 1024) (s : State) : Out := .next (lelasIssue (rowAlu 0x5) (aluBody aluShl) c s)

/-- SHR: a shifted right by b[4:0], filling with zeros (R161). -/
def aluShr (a b : Word) : Word := a >>> (b.toNat % 32)

/-- Context `c` issues SHR (R161). -/
def execLelasShr (c : Fin 1024) (s : State) : Out := .next (lelasIssue (rowAlu 0x6) (aluBody aluShr) c s)

/-- SAR: a shifted right by b[4:0], filling with bit 31 (R161). -/
def aluSar (a b : Word) : Word := a.sshiftRight (b.toNat % 32)

/-- Context `c` issues SAR (R161). -/
def execLelasSar (c : Fin 1024) (s : State) : Out := .next (lelasIssue (rowAlu 0x7) (aluBody aluSar) c s)

/-- MUL: the low 32 bits of the product (R161). -/
def aluMul (a b : Word) : Word := a * b

/-- Context `c` issues MUL (R161). -/
def execLelasMul (c : Fin 1024) (s : State) : Out := .next (lelasIssue (rowAlu 0x8) (aluBody aluMul) c s)

/-- MULHS: the high 32 bits of the signed product (R161). -/
def aluMulhs (a b : Word) : Word := BitVec.ofInt 32 (a.toInt * b.toInt / 2 ^ 32)

/-- Context `c` issues MULHS (R161). -/
def execLelasMulhs (c : Fin 1024) (s : State) : Out := .next (lelasIssue (rowAlu 0x9) (aluBody aluMulhs) c s)

/-- MULHU: the high 32 bits of the unsigned product (R161). -/
def aluMulhu (a b : Word) : Word := BitVec.ofNat 32 (a.toNat * b.toNat / 2 ^ 32)

/-- Context `c` issues MULHU (R161). -/
def execLelasMulhu (c : Fin 1024) (s : State) : Out := .next (lelasIssue (rowAlu 0xA) (aluBody aluMulhu) c s)

/-- SLT: 1 if a is signed-less than b (R161). -/
def aluSlt (a b : Word) : Word := flagWord (decide (a.toInt < b.toInt))

/-- Context `c` issues SLT (R161). -/
def execLelasSlt (c : Fin 1024) (s : State) : Out := .next (lelasIssue (rowAlu 0xB) (aluBody aluSlt) c s)

/-- SLTU: 1 if a is unsigned-less than b (R161). -/
def aluSltu (a b : Word) : Word := flagWord (decide (a.toNat < b.toNat))

/-- Context `c` issues SLTU (R161). -/
def execLelasSltu (c : Fin 1024) (s : State) : Out := .next (lelasIssue (rowAlu 0xC) (aluBody aluSltu) c s)

/-- SEQ: 1 if a equals b (R161). -/
def aluSeq (a b : Word) : Word := flagWord (decide (a = b))

/-- Context `c` issues SEQ (R161). -/
def execLelasSeq (c : Fin 1024) (s : State) : Out := .next (lelasIssue (rowAlu 0xD) (aluBody aluSeq) c s)

/-- MINS: the signed minimum (R161). -/
def aluMins (a b : Word) : Word := if a.toInt < b.toInt then a else b

/-- Context `c` issues MINS (R161). -/
def execLelasMins (c : Fin 1024) (s : State) : Out := .next (lelasIssue (rowAlu 0xE) (aluBody aluMins) c s)

/-- MAXS: the signed maximum (R161). -/
def aluMaxs (a b : Word) : Word := if a.toInt < b.toInt then b else a

/-- Context `c` issues MAXS (R161). -/
def execLelasMaxs (c : Fin 1024) (s : State) : Out := .next (lelasIssue (rowAlu 0xF) (aluBody aluMaxs) c s)

/-- ADDI: a plus the sign-extended IMM (R162). -/
def immAddi (a : Word) (i : BitVec 18) : Word := a + sext i

/-- Context `c` issues ADDI (R162). -/
def execLelasAddi (c : Fin 1024) (s : State) : Out := .next (lelasIssue (rowImm 0x02 0x0) (immBody immAddi) c s)

/-- ANDI: a AND the zero-extended IMM (R162). -/
def immAndi (a : Word) (i : BitVec 18) : Word := a &&& zext i

/-- Context `c` issues ANDI (R162). -/
def execLelasAndi (c : Fin 1024) (s : State) : Out := .next (lelasIssue (rowImm 0x03 0x0) (immBody immAndi) c s)

/-- ORI: a OR the zero-extended IMM (R162). -/
def immOri (a : Word) (i : BitVec 18) : Word := a ||| zext i

/-- Context `c` issues ORI (R162). -/
def execLelasOri (c : Fin 1024) (s : State) : Out := .next (lelasIssue (rowImm 0x04 0x0) (immBody immOri) c s)

/-- XORI: a XOR the zero-extended IMM (R162). -/
def immXori (a : Word) (i : BitVec 18) : Word := a ^^^ zext i

/-- Context `c` issues XORI (R162). -/
def execLelasXori (c : Fin 1024) (s : State) : Out := .next (lelasIssue (rowImm 0x05 0x0) (immBody immXori) c s)

/-- SHLI: a shifted left by IMM[4:0] (R162). -/
def immShli (a : Word) (i : BitVec 18) : Word := a <<< (i.toNat % 32)

/-- Context `c` issues SHLI (R162). -/
def execLelasShli (c : Fin 1024) (s : State) : Out := .next (lelasIssue (rowImm 0x06 0x3FFE0) (immBody immShli) c s)

/-- SHRI: a shifted right by IMM[4:0], filling with zeros (R162). -/
def immShri (a : Word) (i : BitVec 18) : Word := a >>> (i.toNat % 32)

/-- Context `c` issues SHRI (R162). -/
def execLelasShri (c : Fin 1024) (s : State) : Out := .next (lelasIssue (rowImm 0x07 0x3FFE0) (immBody immShri) c s)

/-- SARI: a shifted right by IMM[4:0], filling with bit 31 (R162). -/
def immSari (a : Word) (i : BitVec 18) : Word := a.sshiftRight (i.toNat % 32)

/-- Context `c` issues SARI (R162). -/
def execLelasSari (c : Fin 1024) (s : State) : Out := .next (lelasIssue (rowImm 0x08 0x3FFE0) (immBody immSari) c s)

/-- SLTI: 1 if a is signed-less than the sign-extended IMM (R162). -/
def immSlti (a : Word) (i : BitVec 18) : Word := flagWord (decide (a.toInt < i.toInt))

/-- Context `c` issues SLTI (R162). -/
def execLelasSlti (c : Fin 1024) (s : State) : Out := .next (lelasIssue (rowImm 0x09 0x0) (immBody immSlti) c s)

/-- SLTUI: 1 if a is unsigned-less than the zero-extended IMM (R162). -/
def immSltui (a : Word) (i : BitVec 18) : Word := flagWord (decide (a.toNat < i.toNat))

/-- Context `c` issues SLTUI (R162). -/
def execLelasSltui (c : Fin 1024) (s : State) : Out := .next (lelasIssue (rowImm 0x0A 0x0) (immBody immSltui) c s)

/-- SEQI: 1 if a equals the sign-extended IMM (R162). -/
def immSeqi (a : Word) (i : BitVec 18) : Word := flagWord (decide (a = sext i))

/-- Context `c` issues SEQI (R162). -/
def execLelasSeqi (c : Fin 1024) (s : State) : Out := .next (lelasIssue (rowImm 0x0B 0x0) (immBody immSeqi) c s)

/-- LUI: IMM shifted to bits [31:14] (R162). -/
def immLui (_ : Word) (i : BitVec 18) : Word := zext i <<< 14

/-- Context `c` issues LUI (R162). -/
def execLelasLui (c : Fin 1024) (s : State) : Out := .next (lelasIssue (rowConst 0x0C) (immBody immLui) c s)

/-- LI: the sign-extended IMM (R162). -/
def immLi (_ : Word) (i : BitVec 18) : Word := sext i

/-- Context `c` issues LI (R162). -/
def execLelasLi (c : Fin 1024) (s : State) : Out := .next (lelasIssue (rowConst 0x0D) (immBody immLi) c s)

end Sys2Proof.Machine
end

