-- ==== Sys2Proof/Machine/LelasFlow.lean ====
section
/-! DEFINITION. Lelas branches, jumps, calls, returns and TRAP (R166, R176). -/

namespace Sys2Proof.Machine

/-- The row of a branch (R156, R166). -/
def rowBranch (op : Nat) : LelasRow := { op := op, src := fun w => [lwBa w, lwBb w] }

/-- A branch: taken, the PC moves by 4 times the signed OFF (R166). -/
def branchBody (f : Word → Word → Bool) (w c : Nat) (s : State) : State :=
  if f (s.gr c (lwBa w)) (s.gr c (lwBb w)) then
    lelasJump c (BitVec.ofNat 32 (s.ctx c).pc + 4 * sext (lwImm w)).toNat s
  else lelasNext c s

/-- BEQ's condition: equal (R166). -/
def condBeq (a b : Word) : Bool := decide (a = b)

/-- Context `c` issues BEQ (R166). -/
def execLelasBeq (c : Fin 1024) (s : State) : Out := .next (lelasIssue (rowBranch 0x20) (branchBody condBeq) c s)

/-- BNE's condition: different (R166). -/
def condBne (a b : Word) : Bool := decide (a ≠ b)

/-- Context `c` issues BNE (R166). -/
def execLelasBne (c : Fin 1024) (s : State) : Out := .next (lelasIssue (rowBranch 0x21) (branchBody condBne) c s)

/-- BLT's condition: signed less (R166). -/
def condBlt (a b : Word) : Bool := decide (a.toInt < b.toInt)

/-- Context `c` issues BLT (R166). -/
def execLelasBlt (c : Fin 1024) (s : State) : Out := .next (lelasIssue (rowBranch 0x22) (branchBody condBlt) c s)

/-- BGE's condition: signed greater or equal (R166). -/
def condBge (a b : Word) : Bool := decide (b.toInt ≤ a.toInt)

/-- Context `c` issues BGE (R166). -/
def execLelasBge (c : Fin 1024) (s : State) : Out := .next (lelasIssue (rowBranch 0x23) (branchBody condBge) c s)

/-- BLTU's condition: unsigned less (R166). -/
def condBltu (a b : Word) : Bool := decide (a.toNat < b.toNat)

/-- Context `c` issues BLTU (R166). -/
def execLelasBltu (c : Fin 1024) (s : State) : Out := .next (lelasIssue (rowBranch 0x24) (branchBody condBltu) c s)

/-- BGEU's condition: unsigned greater or equal (R166). -/
def condBgeu (a b : Word) : Bool := decide (b.toNat ≤ a.toNat)

/-- Context `c` issues BGEU (R166). -/
def execLelasBgeu (c : Fin 1024) (s : State) : Out := .next (lelasIssue (rowBranch 0x25) (branchBody condBgeu) c s)

/-- The return address goes on the stack; a ninth faults (R148, R166). -/
def callTo (c pc : Nat) (s : State) : State :=
  let x := s.ctx c
  if 8 ≤ x.stack.length then ctxFault c causeStackOver 0 s
  else lelasJump c pc (s.setCtx c { x with stack := (x.pc + 4) % 2 ^ 32 :: x.stack })

/-- JMP: the PC takes TGT << 2 (R166). -/
def jmpBody (w c : Nat) (s : State) : State := lelasJump c (4 * lwTgt w) s

/-- CALL (R166). -/
def callBody (w c : Nat) (s : State) : State := callTo c (4 * lwTgt w) s

/-- JR: the PC takes g[a] (R166). -/
def jrBody (w c : Nat) (s : State) : State := lelasJump c (s.gr c (lwRa w)).toNat s

/-- CALLR (R166). -/
def callrBody (w c : Nat) (s : State) : State := callTo c (s.gr c (lwRa w)).toNat s

/-- RET: the PC takes the top of the stack; an empty one faults (R148, R166). -/
def retBody (_ c : Nat) (s : State) : State :=
  match (s.ctx c).stack with
  | [] => ctxFault c causeStackUnder 0 s
  | a :: t => lelasJump c a (s.setCtx c { s.ctx c with stack := t })

/-- TRAP: code 0 retires into HALT, any other code is the fault TRAP (R135, R176). -/
def trapBody (w c : Nat) (s : State) : State :=
  let code := lwK w % 256
  if code = 0 then haltCtx c (lelasNext c s) else ctxFault c causeTrap code s

/-- The row of a jump to a register: RD, RB and the low bits are zero (R166). -/
def rowReg (op : Nat) : LelasRow := { op := op, zero := 0x3C3FFFF, src := fun w => [lwRa w] }

/-- Context `c` issues JMP (R166). -/
def execLelasJmp (c : Fin 1024) (s : State) : Out := .next (lelasIssue { op := 0x26 } jmpBody c s)

/-- Context `c` issues CALL (R166). -/
def execLelasCall (c : Fin 1024) (s : State) : Out := .next (lelasIssue { op := 0x27 } callBody c s)

/-- Context `c` issues JR (R166). -/
def execLelasJr (c : Fin 1024) (s : State) : Out := .next (lelasIssue (rowReg 0x28) jrBody c s)

/-- Context `c` issues CALLR (R166). -/
def execLelasCallr (c : Fin 1024) (s : State) : Out := .next (lelasIssue (rowReg 0x29) callrBody c s)

/-- Context `c` issues RET (R166). -/
def execLelasRet (c : Fin 1024) (s : State) : Out := .next (lelasIssue { op := 0x2A, zero := 0x3FFFFFF } retBody c s)

/-- Context `c` issues TRAP: RD, RA, X and K[15:8] are zero (R176). -/
def execLelasTrap (c : Fin 1024) (s : State) : Out := .next (lelasIssue { op := 0x3F, zero := 0x3FFFF00 } trapBody c s)

end Sys2Proof.Machine
end

