-- ==== Sys2Proof/Machine/LelasJnl.lean ====
section
/-! DEFINITION. Lelas journal instructions, SEND, CLAIM and FREE (R168 to R175). -/

namespace Sys2Proof.Machine

/-- JTAKE: the table's right on JNL, an entry the journal releases, or a wait (R123, R168). -/
def jtakeBody (w c : Nat) (s : State) : State :=
  let id := ctxId c s
  let rd := lwRd w
  let cls := lwK w % 4
  if !hasRight 10 0 id .read s then
    lelasSet2 c rd (BitVec.ofNat 32 Code.denied.num) 0 (accDeny id 0x40004000 10 .read s)
  else
    let (r, s) := tryTake cls c s
    match r with
    | some e => lelasSet2 c rd 0 (BitVec.ofNat 32 (entryAddr e.anum)) s
    | none =>
      if timeoutOf w c s = 0 then lelasSet2 c rd (BitVec.ofNat 32 Code.timeout.num) 0 s
      else enterWait c (.take cls rd (timeoutDue w c s)) s

/-- JMARK, JDONE and JFAIL: what they answer at once, or their writes begin (R169 to R171). -/
def transitionBody (op : JWrite) (w c : Nat) (s : State) : State :=
  let a := (s.gr c (lwRa w)).toNat
  match transitionAtOnce c a op s, entryAt a s with
  | some k, _ => lelasCode c (lwRd w) k (if k = .ok then replayMarked a op s else s)
  | none, some e => enterWait c (.write e.anum (lwRd w) op) s
  | none, none => lelasCode c (lwRd w) .invalid s

/-- JMARK (R169). -/
def jmarkBody (w c : Nat) (s : State) : State := transitionBody .mark w c s

/-- JDONE with g[b] as result (R170). -/
def jdoneBody (w c : Nat) (s : State) : State := transitionBody (.finish true (s.gr c (lwRb w)).toNat) w c s

/-- JFAIL with g[b] as result (R170). -/
def jfailBody (w c : Nat) (s : State) : State := transitionBody (.finish false (s.gr c (lwRb w)).toNat) w c s

/-- The nonvolatile writes of a waiting JMARK, JDONE or JFAIL complete (R171); `bad`: the one that does not read back. -/
def journalWriteComplete (c : Nat) (bad : Option (Fin 2)) (s : State) : State :=
  match (s.ctx c).st, (s.ctx c).wait with
  | .wait, some (.write anum _ op) =>
    let (k, s) := transitionDone c anum op bad s
    wakeCtx c (BitVec.ofNat 32 k.num) s
  | _, _ => s

/-! ### SEND (R172, R173, R215) -/

/-- A frame type and destination that SEND may queue (R172, R215). -/
def sendFits (dtype daddr ftype : Nat) (s : State) : Bool :=
  decide (dtype < 3) &&
  ((decide (0x90 ≤ ftype) && decide (ftype ≤ 0xBF)) ||
    (decide (0x10 ≤ ftype) && decide (ftype ≤ 0x3F) && dtype = 0 && daddr = s.g F.slkGwGwaddr))

/-- A descriptor read, or W on the transmit queue, is denied: the report of the first refusal (R123, R173). -/
def sendDenied (id a : Nat) (s : State) : Option State :=
  match (List.range 7).find? (fun i => mapped (a + 8 * i) && !granted id (a + 8 * i) .read s) with
  | some i => some (accDeny id (a + 8 * i) (targetOf (a + 8 * i) s).1 .read s)
  | none => if hasRight 11 1 id .write s then none else some (accDeny id 0x40005400 11 .write s)

/-- The bytes of `n` 64-bit words of a descriptor, with the first failure's code, if any (R172, R173). -/
def sendRead (id a : Nat) : Nat → State → Code × List (BitVec 8) × State
  | 0, s => (.ok, [], s)
  | n + 1, s =>
    let (k, d, s) := busRead id a 8 s
    let (k1, bs, s) := sendRead id (a + 8) n s
    (if k = .ok then k1 else k, leBytes 8 d ++ bs, s)

/-- A descriptor's word 0 breaks no rule of its own (R172, R173). -/
def sendWordOk (w0 : Nat) (s : State) : Bool :=
  decide (w0 / 4 % 4 < 3) && decide (w0 / 2 ^ 24 % 64 ≤ 48) && !w0.testBit 31 &&
    sendFits (w0 % 4) (w0 / 16 % 2 ^ 12) (w0 / 2 ^ 16 % 256) s

/-- The frame of a descriptor (R172). -/
def sendFrame (w0 w1 : Nat) (body : List (BitVec 8)) (q : Nat) : TxFrame := {
  seq := q, kind := .send, med := w0 / 4 % 4, dtype := w0 % 4, daddr := w0 / 16 % 2 ^ 12, ftype := w0 / 2 ^ 16 % 256
  payload := body.take (w0 / 2 ^ 24 % 64), notBefore := if w0.testBit 30 then some w1 else none }

/-- SEND (R172, R173): the checks in their order, then the frame enters the queue. -/
def sendBody (w c : Nat) (s : State) : State :=
  let id := ctxId c s
  let rd := lwRd w
  let a := (s.gr c (lwRa w)).toNat
  let fail := fun (k : Code) (t : State) => lelasSet2 c rd (BitVec.ofNat 32 k.num) 0 t
  match sendDenied id a s with
  | some t => fail .denied t
  | none =>
    if a % 8 ≠ 0 ∨ 0x100000 < a + 56 then fail .invalid s
    else
      let (k0, d, s) := busRead id a 8 s
      let (k, bs, s) := sendRead id (a + 8) 6 s
      let w0 := d % 2 ^ 32
      if k0 ≠ .ok then fail k0 s
      else if !sendWordOk w0 s then fail .invalid s
      else if k ≠ .ok then fail k s
      else if (!domUp 9 s && !domUp 10 s) || decide (16 ≤ sendUsed s) then fail .busy s
      else
        let q := (takeTxSeq s).1
        let s := enqueueTx (sendFrame w0 (d / 2 ^ 32) bs) s
        lelasSet2 c rd 0 (BitVec.ofNat 32 q) s

/-! ### CLAIM and FREE (R174, R175) -/

/-- The owner register of a CLASS and INDEX, when both are in range (R174, R479). -/
def ownerReg (cls i : Nat) : Option Nat :=
  match cls with
  | 0 => if i < 24 then some (0x40000100 + 4 * i) else none
  | 1 => if i < 8 then some (F.tmrOwnHeld.addr + F.tmrOwnHeld.s1 * i) else none
  | 2 => if i < 4 then some (F.trcOwnHeld.addr + F.trcOwnHeld.s1 * i) else none
  | 3 => if i = 0 then some F.twb2OwnHeld.addr else none
  | _ => none

/-- The value a CLAIM writes: HELD, and for a pin its FUNC beside the fields it holds (R71, R174, log 29). -/
def claimValue (cls func a : Nat) (s : State) : Nat :=
  if cls = 0 then regWord a s / 4 * 4 % 2 ^ 11 + func + 2 ^ 16 else 2 ^ 16

/-- The rank of an owner-register write among claims of one edge: a pin's function, and the same for every other resource (R74, R480). -/
def claimRank (cls i v : Nat) : Nat := if cls = 0 then gpRank i (v % 4) else 0

/-- The write of an owner register by a CLAIM, before or after the one that arrives on its edge (R74, R480). -/
def claimWrite (cls i reg : Nat) (a : Nat × Nat) (rival : Option (Nat × Nat)) (s : State) : Code × State :=
  match rival with
  | none => busWrite a.1 reg 4 a.2 s
  | some b =>
    if rivalFirst 16 (claimRank cls i) a b then busWrite a.1 reg 4 a.2 (portStore b.1 reg 4 b.2 s)
    else
      let (k, s) := busWrite a.1 reg 4 a.2 s
      (k, portStore b.1 reg 4 b.2 s)

/-- CLAIM, with the write of the owner register by another initiator that arrives on its edge (R74, R174, R480): an initiator ID and a word. -/
def claimBody (rival : Option (Nat × Nat)) (w c : Nat) (s : State) : State :=
  let k := lwK w
  let cls := k / 256 % 16
  let func := k / 2 ^ 12 % 4
  match ownerReg cls (k % 256) with
  | none => lelasCode c (lwRd w) .invalid s
  | some a =>
    if cls ≠ 0 ∧ func ≠ 0 then lelasCode c (lwRd w) .invalid s
    else
      let (k, s) := claimWrite cls (k % 256) a (ctxId c s, claimValue cls func a s) rival s
      lelasCode c (lwRd w) k s

/-- FREE (R175): a write of HELD = 0. -/
def freeBody (w c : Nat) (s : State) : State :=
  let k := lwK w
  match ownerReg (k / 256 % 16) (k % 256) with
  | none => lelasCode c (lwRd w) .invalid s
  | some a =>
    if k / 2 ^ 12 % 4 ≠ 0 then lelasCode c (lwRd w) .invalid s
    else
      let (k, s) := busWrite (ctxId c s) a 4 0 s
      lelasCode c (lwRd w) k s

/-! ### The rows -/

/-- Context `c` issues JTAKE: RD is even, X and K[15:2] are zero (R157, R168). -/
def execLelasJtake (c : Fin 1024) (s : State) : Out :=
  .next (lelasIssue { op := 0x38, zero := 0x3FFFC, even := true, src := fun w => [lwRa w] } jtakeBody c s)

/-- Context `c` issues JMARK: X and K are zero (R169). -/
def execLelasJmark (c : Fin 1024) (s : State) : Out :=
  .next (lelasIssue { op := 0x39, zero := 0x3FFFF, src := fun w => [lwRa w] } jmarkBody c s)

/-- Context `c` issues JDONE (R170). -/
def execLelasJdone (c : Fin 1024) (s : State) : Out :=
  .next (lelasIssue { op := 0x3A, zero := 0x3FFF, src := fun w => [lwRa w, lwRb w] } jdoneBody c s)

/-- Context `c` issues JFAIL (R170). -/
def execLelasJfail (c : Fin 1024) (s : State) : Out :=
  .next (lelasIssue { op := 0x3B, zero := 0x3FFF, src := fun w => [lwRa w, lwRb w] } jfailBody c s)

/-- Context `c` issues SEND: RD is even, X and K are zero (R157, R172). -/
def execLelasSend (c : Fin 1024) (s : State) : Out :=
  .next (lelasIssue { op := 0x3C, zero := 0x3FFFF, even := true, src := fun w => [lwRa w] } sendBody c s)

/-- Context `c` issues CLAIM: RA, X and K[15:14] are zero (R174); `rival`: the owner-register write that arrives on its edge (R74, R480). -/
def execLelasClaim (c : Fin 1024) (s : State) (rival : Option (Id × Word) := none) : Out :=
  .next (lelasIssue { op := 0x3D, zero := 0x3FC000 } (claimBody (rival.map (fun r => (r.1.val, r.2.toNat)))) c s)

/-- Context `c` issues FREE: RA, X and K[15:14] are zero (R174, R175). -/
def execLelasFree (c : Fin 1024) (s : State) : Out :=
  .next (lelasIssue { op := 0x3E, zero := 0x3FC000 } freeBody c s)

/-- JOURNAL_WRITE_COMPLETE: the journal writes of context `c` complete; `bad`: the first or the second does not read back (R169 to R171). -/
def execJournalWriteComplete (c : Fin 1024) (bad : Option (Fin 2)) (s : State) : Out :=
  .next (onDomain 11 (journalWriteComplete c bad) s)

end Sys2Proof.Machine
end

