-- ==== Sys2Proof/Machine/LelasMem.lean ====
section
/-! DEFINITION. Lelas loads and stores: their issue; the access completes at INSTRUCTION_RETIRE (R163, R164). -/

namespace Sys2Proof.Machine

/-- The byte address of a load or store (R163). -/
def lelasAddr (w c : Nat) (s : State) : Nat := (s.gr c (lwRa w) + sext (lwImm w)).toNat

/-- The row of a load (R157, R163). -/
def rowLoad (op : Nat) (even : Bool) : LelasRow := { op := op, even := even, src := fun w => [lwRa w] }

/-- The row of a store of g[d] (R157, R163). -/
def rowStore (op : Nat) (even : Bool) : LelasRow := { op := op, even := even, src := fun w => [lwRa w, lwRd w] }

/-- The row of STD, which reads the pair g[d], g[d+1] (R157, R163). -/
def rowStd : LelasRow := { op := 0x1B, even := true, src := fun w => [lwRa w, lwRd w, lwRd w + 1] }

/-- A load leaves the context (R163, R164). -/
def loadBody (op : MemOp) (w c : Nat) (s : State) : State := lelasAccess op (lwRd w) (lelasAddr w c s) c s

/-- A store of the low n bytes of g[d] leaves the context (R163, R164). -/
def storeBody (n w c : Nat) (s : State) : State :=
  lelasAccess (.store n ((s.gr c (lwRd w)).toNat % 2 ^ (8 * n))) (lwRd w) (lelasAddr w c s) c s

/-- STD leaves the context: g[d+1] : g[d] (R163). -/
def stdBody (w c : Nat) (s : State) : State :=
  lelasAccess (.store 8 ((s.gr c (lwRd w)).toNat + (s.gr c (lwRd w + 1)).toNat * 2 ^ 32)) (lwRd w) (lelasAddr w c s) c s

/-- STWC leaves the context (R163). -/
def stwcBody (w c : Nat) (s : State) : State :=
  lelasAccess (.storeChecked (s.gr c (lwRd w)).toNat) (lwRd w) (lelasAddr w c s) c s

/-- Context `c` issues LDW: a 32-bit word (R163). -/
def execLelasLdw (c : Fin 1024) (s : State) : Out := .next (lelasIssue (rowLoad 0x10 false) (loadBody (.load 4 false)) c s)

/-- Context `c` issues LDHU: a halfword, zero-extended (R163). -/
def execLelasLdhu (c : Fin 1024) (s : State) : Out := .next (lelasIssue (rowLoad 0x11 false) (loadBody (.load 2 false)) c s)

/-- Context `c` issues LDBU: a byte, zero-extended (R163). -/
def execLelasLdbu (c : Fin 1024) (s : State) : Out := .next (lelasIssue (rowLoad 0x12 false) (loadBody (.load 1 false)) c s)

/-- Context `c` issues LDHS: a halfword, sign-extended (R163). -/
def execLelasLdhs (c : Fin 1024) (s : State) : Out := .next (lelasIssue (rowLoad 0x13 false) (loadBody (.load 2 true)) c s)

/-- Context `c` issues LDBS: a byte, sign-extended (R163). -/
def execLelasLdbs (c : Fin 1024) (s : State) : Out := .next (lelasIssue (rowLoad 0x14 false) (loadBody (.load 1 true)) c s)

/-- Context `c` issues LDD: a 64-bit word into a pair (R163). -/
def execLelasLdd (c : Fin 1024) (s : State) : Out := .next (lelasIssue (rowLoad 0x15 true) (loadBody .loadPair) c s)

/-- Context `c` issues LDWC: a word and its completion code (R163). -/
def execLelasLdwc (c : Fin 1024) (s : State) : Out := .next (lelasIssue (rowLoad 0x16 true) (loadBody .loadChecked) c s)

/-- Context `c` issues STW: the low 32 bits of g[d] (R163). -/
def execLelasStw (c : Fin 1024) (s : State) : Out := .next (lelasIssue (rowStore 0x18 false) (storeBody 4) c s)

/-- Context `c` issues STH: the low 16 bits of g[d] (R163). -/
def execLelasSth (c : Fin 1024) (s : State) : Out := .next (lelasIssue (rowStore 0x19 false) (storeBody 2) c s)

/-- Context `c` issues STB: the low 8 bits of g[d] (R163). -/
def execLelasStb (c : Fin 1024) (s : State) : Out := .next (lelasIssue (rowStore 0x1A false) (storeBody 1) c s)

/-- Context `c` issues STD: the pair as one 64-bit write (R163). -/
def execLelasStd (c : Fin 1024) (s : State) : Out := .next (lelasIssue rowStd stdBody c s)

/-- Context `c` issues STWC: a word, with its completion code (R163). -/
def execLelasStwc (c : Fin 1024) (s : State) : Out := .next (lelasIssue (rowStore 0x1C true) stwcBody c s)

/-- INSTRUCTION_RETIRE: the instruction in flight of context `c` retires (R158, R164). -/
def execInstructionRetire (c : Fin 1024) (s : State) (also : Option (Fin 1024) := none) : Out :=
  .next (instructionRetire c (also.map (·.val)) s)

/-- BULK_PROMOTE: a waiting BULK request of context `c` becomes CONTROL (R113). -/
def execBulkPromote (c : Fin 1024) (s : State) : Out := .next (bulkPromote c s)

end Sys2Proof.Machine
end

