-- ==== Sys2Proof/Machine/Dispatch.lean ====
section
/-! DEFINITION. Which meaning each command has: one arm per constructor. -/

namespace Sys2Proof.Machine

open Sys2Proof

/-- The effect of a command on everything but the queue. -/
def exec (i : Instr) (s : State) : Host.Outcome State Fault Refusal :=
  match i with
  | .registerWrite id addr size v hw => Sys2Proof.Machine.execRegisterWrite id addr size v s hw
  | .rcRead id addr size hw => Sys2Proof.Machine.execRcRead id addr size s hw
  | .stagedWrite id addr v => Sys2Proof.Machine.execStagedWrite id addr v s
  | .stageDiscard k => Sys2Proof.Machine.execStageDiscard k s
  | .bulkPromote c => Sys2Proof.Machine.execBulkPromote c s
  | .powerOnReset => Sys2Proof.Machine.execPowerOnReset s
  | .brownOutReset src line also => Sys2Proof.Machine.execBrownOutReset src s line also
  | .borRelease => Sys2Proof.Machine.execBorRelease s
  | .clockMonitorTrip also => Sys2Proof.Machine.execClockMonitorTrip s also
  | .glitchMonitorTrip also => Sys2Proof.Machine.execGlitchMonitorTrip s also
  | .heldOffEntry line => Sys2Proof.Machine.execHeldOffEntry s line
  | .supplyWarning => Sys2Proof.Machine.execSupplyWarning s
  | .vhvRise => Sys2Proof.Machine.execVhvRise s
  | .pinReset also => Sys2Proof.Machine.execPinReset s also
  | .watchdogService id v => Sys2Proof.Machine.execWatchdogService id v s
  | .watchdogExpiry also => Sys2Proof.Machine.execWatchdogExpiry s also
  | .softwareResetRequest id key => Sys2Proof.Machine.execSoftwareResetRequest id key s
  | .softwareReset also => Sys2Proof.Machine.execSoftwareReset s also
  | .lifeCycleReset also => Sys2Proof.Machine.execLifeCycleReset s also
  | .bootStart vsel nrst => Sys2Proof.Machine.execBootStart vsel nrst s
  | .defaultSeqTimeout => Sys2Proof.Machine.execDefaultSeqTimeout s
  | .bootEnd => Sys2Proof.Machine.execBootEnd s
  | .xtalQualified => Sys2Proof.Machine.execXtalQualified s
  | .xtalLost => Sys2Proof.Machine.execXtalLost s
  | .stmCommit id => Sys2Proof.Machine.execStmCommit id s
  | .stmIncWrite id v => Sys2Proof.Machine.execStmIncWrite id v s
  | .stmSetcWrite id v => Sys2Proof.Machine.execStmSetcWrite id v s
  | .stmNowcRead id => Sys2Proof.Machine.execStmNowcRead id s
  | .rippleReferenceEvent ago amp => Sys2Proof.Machine.execRippleReferenceEvent ago s amp
  | .referenceMissing => Sys2Proof.Machine.execReferenceMissing s
  | .holdoverExpiry => Sys2Proof.Machine.execHoldoverExpiry s
  | .cycleBoundary => Sys2Proof.Machine.execCycleBoundary s
  | .scheduledEventFire => Sys2Proof.Machine.execScheduledEventFire s
  | .domctlWrite id on => Sys2Proof.Machine.execDomctlWrite id on s
  | .domainPowerGood => Sys2Proof.Machine.execDomainPowerGood s
  | .sleepEnter id wk => Sys2Proof.Machine.execSleepEnter id wk s
  | .wake src => Sys2Proof.Machine.execWake src s
  | .sysGpWrite id pin v rival => Sys2Proof.Machine.execSysGpWrite id pin v rival s
  | .ctxStart id => Sys2Proof.Machine.execCtxStart id s
  | .ctxStop id => Sys2Proof.Machine.execCtxStop id s
  | .ctxClear id => Sys2Proof.Machine.execCtxClear id s
  | .seqSignalWrite id line => Sys2Proof.Machine.execSeqSignalWrite id line s
  | .semForcedRelease id sem rank => Sys2Proof.Machine.execSemForcedRelease id sem rank s
  | .instructionRetire c also => Sys2Proof.Machine.execInstructionRetire c s also
  | .waitTimeout c => Sys2Proof.Machine.execWaitTimeout c s
  | .lelasAdd c => Sys2Proof.Machine.execLelasAdd c s
  | .lelasSub c => Sys2Proof.Machine.execLelasSub c s
  | .lelasAnd c => Sys2Proof.Machine.execLelasAnd c s
  | .lelasOr c => Sys2Proof.Machine.execLelasOr c s
  | .lelasXor c => Sys2Proof.Machine.execLelasXor c s
  | .lelasShl c => Sys2Proof.Machine.execLelasShl c s
  | .lelasShr c => Sys2Proof.Machine.execLelasShr c s
  | .lelasSar c => Sys2Proof.Machine.execLelasSar c s
  | .lelasMul c => Sys2Proof.Machine.execLelasMul c s
  | .lelasMulhs c => Sys2Proof.Machine.execLelasMulhs c s
  | .lelasMulhu c => Sys2Proof.Machine.execLelasMulhu c s
  | .lelasSlt c => Sys2Proof.Machine.execLelasSlt c s
  | .lelasSltu c => Sys2Proof.Machine.execLelasSltu c s
  | .lelasSeq c => Sys2Proof.Machine.execLelasSeq c s
  | .lelasMins c => Sys2Proof.Machine.execLelasMins c s
  | .lelasMaxs c => Sys2Proof.Machine.execLelasMaxs c s
  | .lelasAddi c => Sys2Proof.Machine.execLelasAddi c s
  | .lelasAndi c => Sys2Proof.Machine.execLelasAndi c s
  | .lelasOri c => Sys2Proof.Machine.execLelasOri c s
  | .lelasXori c => Sys2Proof.Machine.execLelasXori c s
  | .lelasShli c => Sys2Proof.Machine.execLelasShli c s
  | .lelasShri c => Sys2Proof.Machine.execLelasShri c s
  | .lelasSari c => Sys2Proof.Machine.execLelasSari c s
  | .lelasSlti c => Sys2Proof.Machine.execLelasSlti c s
  | .lelasSltui c => Sys2Proof.Machine.execLelasSltui c s
  | .lelasSeqi c => Sys2Proof.Machine.execLelasSeqi c s
  | .lelasLui c => Sys2Proof.Machine.execLelasLui c s
  | .lelasLi c => Sys2Proof.Machine.execLelasLi c s
  | .lelasLdw c => Sys2Proof.Machine.execLelasLdw c s
  | .lelasLdhu c => Sys2Proof.Machine.execLelasLdhu c s
  | .lelasLdhs c => Sys2Proof.Machine.execLelasLdhs c s
  | .lelasLdbu c => Sys2Proof.Machine.execLelasLdbu c s
  | .lelasLdbs c => Sys2Proof.Machine.execLelasLdbs c s
  | .lelasLdd c => Sys2Proof.Machine.execLelasLdd c s
  | .lelasLdwc c => Sys2Proof.Machine.execLelasLdwc c s
  | .lelasStw c => Sys2Proof.Machine.execLelasStw c s
  | .lelasSth c => Sys2Proof.Machine.execLelasSth c s
  | .lelasStb c => Sys2Proof.Machine.execLelasStb c s
  | .lelasStd c => Sys2Proof.Machine.execLelasStd c s
  | .lelasStwc c => Sys2Proof.Machine.execLelasStwc c s
  | .lelasBeq c => Sys2Proof.Machine.execLelasBeq c s
  | .lelasBne c => Sys2Proof.Machine.execLelasBne c s
  | .lelasBlt c => Sys2Proof.Machine.execLelasBlt c s
  | .lelasBge c => Sys2Proof.Machine.execLelasBge c s
  | .lelasBltu c => Sys2Proof.Machine.execLelasBltu c s
  | .lelasBgeu c => Sys2Proof.Machine.execLelasBgeu c s
  | .lelasJmp c => Sys2Proof.Machine.execLelasJmp c s
  | .lelasCall c => Sys2Proof.Machine.execLelasCall c s
  | .lelasJr c => Sys2Proof.Machine.execLelasJr c s
  | .lelasCallr c => Sys2Proof.Machine.execLelasCallr c s
  | .lelasRet c => Sys2Proof.Machine.execLelasRet c s
  | .lelasWait c => Sys2Proof.Machine.execLelasWait c s
  | .lelasWaitt c => Sys2Proof.Machine.execLelasWaitt c s
  | .lelasSignal c => Sys2Proof.Machine.execLelasSignal c s
  | .lelasSema c => Sys2Proof.Machine.execLelasSema c s
  | .lelasSemr c => Sys2Proof.Machine.execLelasSemr c s
  | .lelasTime c => Sys2Proof.Machine.execLelasTime c s
  | .lelasSelf c => Sys2Proof.Machine.execLelasSelf c s
  | .lelasJtake c => Sys2Proof.Machine.execLelasJtake c s
  | .lelasJmark c => Sys2Proof.Machine.execLelasJmark c s
  | .lelasJdone c => Sys2Proof.Machine.execLelasJdone c s
  | .lelasJfail c => Sys2Proof.Machine.execLelasJfail c s
  | .lelasSend c => Sys2Proof.Machine.execLelasSend c s
  | .lelasClaim c rival => Sys2Proof.Machine.execLelasClaim c s rival
  | .lelasFree c => Sys2Proof.Machine.execLelasFree c s
  | .lelasTrap c => Sys2Proof.Machine.execLelasTrap c s
  | .acceptanceRequest bad => Sys2Proof.Machine.execAcceptanceRequest s bad
  | .urgboxLoad => Sys2Proof.Machine.execUrgboxLoad s
  | .entryWriteDone bad => Sys2Proof.Machine.execEntryWriteDone bad s
  | .journalWriteComplete c bad => Sys2Proof.Machine.execJournalWriteComplete c bad s
  | .entryRetire => Sys2Proof.Machine.execEntryRetire s
  | .controlBlockWrite => Sys2Proof.Machine.execControlBlockWrite s
  | .hostSubmit id => Sys2Proof.Machine.execHostSubmit id s
  | .hostQuery id seq => Sys2Proof.Machine.execHostQuery id seq s
  | .jnlCommit id => Sys2Proof.Machine.execJnlCommit id s
  | .beaconRx pair ago bytes => Sys2Proof.Machine.execBeaconRx pair ago bytes s
  | .commandRx pair bytes => Sys2Proof.Machine.execCommandRx pair bytes s
  | .replyRx pair ago bytes => Sys2Proof.Machine.execReplyRx pair ago bytes s
  | .appRx pair ago bytes => Sys2Proof.Machine.execAppRx pair ago bytes s
  | .peerAppRx pair ago bytes => Sys2Proof.Machine.execPeerAppRx pair ago bytes s
  | .joinRx pair bytes => Sys2Proof.Machine.execJoinRx pair bytes s
  | .assignRx pair bytes => Sys2Proof.Machine.execAssignRx pair bytes s
  | .keyloadRx pair bytes => Sys2Proof.Machine.execKeyloadRx pair bytes s
  | .preambleDetect pair rssi => Sys2Proof.Machine.execPreambleDetect pair rssi s
  | .frameTxStart pair => Sys2Proof.Machine.execFrameTxStart pair s
  | .frameTxEnd pair => Sys2Proof.Machine.execFrameTxEnd pair s
  | .joinSend => Sys2Proof.Machine.execJoinSend s
  | .keepaliveLoss => Sys2Proof.Machine.execKeepaliveLoss s
  | .mediumDriverFault pair => Sys2Proof.Machine.execMediumDriverFault pair s
  | .mediumSilence pair => Sys2Proof.Machine.execMediumSilence pair s
  | .mediumRestore pair => Sys2Proof.Machine.execMediumRestore pair s
  | .rxPop id => Sys2Proof.Machine.execRxPop id s
  | .forget id commiss => Sys2Proof.Machine.execForget id commiss s
  | .slkCommit id => Sys2Proof.Machine.execSlkCommit id s
  | .modeOff id x hit => Sys2Proof.Machine.execModeOff id x s hit
  | .modeBuck id x hit => Sys2Proof.Machine.execModeBuck id x s hit
  | .modeBoost id x hit => Sys2Proof.Machine.execModeBoost id x s hit
  | .modeBuckBoost id x hit => Sys2Proof.Machine.execModeBuckBoost id x s hit
  | .modePass id x hit => Sys2Proof.Machine.execModePass id x s hit
  | .modeSafe id x hit => Sys2Proof.Machine.execModeSafe id x s hit
  | .pwmPeriodStart x y phErr => Sys2Proof.Machine.execPwmPeriodStart x y s phErr
  | .updatePoint x y => Sys2Proof.Machine.execUpdatePoint x y s
  | .pwmTrigger x y => Sys2Proof.Machine.execPwmTrigger x y s
  | .slewStep => Sys2Proof.Machine.execSlewStep s
  | .softStartTimeout x => Sys2Proof.Machine.execSoftStartTimeout x s
  | .presenceDetected x => Sys2Proof.Machine.execPresenceDetected x s
  | .presenceLost x => Sys2Proof.Machine.execPresenceLost x s
  | .overcurrentTrip x y => Sys2Proof.Machine.execOvercurrentTrip x y s
  | .overvoltageTrip x ext => Sys2Proof.Machine.execOvervoltageTrip x ext s
  | .undervoltageTrip x => Sys2Proof.Machine.execUndervoltageTrip x s
  | .driverFault x => Sys2Proof.Machine.execDriverFault x s
  | .pstForceWrite id safe => Sys2Proof.Machine.execPstForceWrite id safe s
  | .bypassWrite id byp => Sys2Proof.Machine.execBypassWrite id byp s
  | .safeDwellExpiry x => Sys2Proof.Machine.execSafeDwellExpiry x s
  | .balanceWindowEnd x => Sys2Proof.Machine.execBalanceWindowEnd x s
  | .syncinEdge gap phErr => Sys2Proof.Machine.execSyncinEdge gap phErr s
  | .syncEdgeMissing x => Sys2Proof.Machine.execSyncEdgeMissing x s
  | .syncSlewStep => Sys2Proof.Machine.execSyncSlewStep s
  | .pstCommit id x => Sys2Proof.Machine.execPstCommit id x s
  | .stimeTrigger => Sys2Proof.Machine.execStimeTrigger s
  | .instanceDispatch lane => Sys2Proof.Machine.execInstanceDispatch lane s
  | .instanceRelease lane => Sys2Proof.Machine.execInstanceRelease lane s
  | .ceMac lane => Sys2Proof.Machine.execCeMac lane s
  | .ceMsu lane => Sys2Proof.Machine.execCeMsu lane s
  | .ceMul lane => Sys2Proof.Machine.execCeMul lane s
  | .ceMacr lane => Sys2Proof.Machine.execCeMacr lane s
  | .ceMulr lane => Sys2Proof.Machine.execCeMulr lane s
  | .ceAda lane => Sys2Proof.Machine.execCeAda lane s
  | .ceLda lane => Sys2Proof.Machine.execCeLda lane s
  | .ceCla lane => Sys2Proof.Machine.execCeCla lane s
  | .ceAsr lane => Sys2Proof.Machine.execCeAsr lane s
  | .ceSat lane => Sys2Proof.Machine.execCeSat lane s
  | .ceSatw lane => Sys2Proof.Machine.execCeSatw lane s
  | .ceAdd lane => Sys2Proof.Machine.execCeAdd lane s
  | .ceSub lane => Sys2Proof.Machine.execCeSub lane s
  | .ceMin lane => Sys2Proof.Machine.execCeMin lane s
  | .ceMax lane => Sys2Proof.Machine.execCeMax lane s
  | .ceMov lane => Sys2Proof.Machine.execCeMov lane s
  | .ceSel lane => Sys2Proof.Machine.execCeSel lane s
  | .ceLdi lane => Sys2Proof.Machine.execCeLdi lane s
  | .ceRdp lane => Sys2Proof.Machine.execCeRdp lane s
  | .ceWrp lane => Sys2Proof.Machine.execCeWrp lane s
  | .cePre lane => Sys2Proof.Machine.execCePre lane s
  | .ceNop lane => Sys2Proof.Machine.execCeNop lane s
  | .ceCommit id => Sys2Proof.Machine.execCeCommit id s
  | .failoverProofDone => Sys2Proof.Machine.execFailoverProofDone s
  | .ceSpWrite id k v => Sys2Proof.Machine.execCeSpWrite id k v s
  | .ceIdataAccess id write => Sys2Proof.Machine.execCeIdataAccess id write s
  | .traceArm id n => Sys2Proof.Machine.execTraceArm id n s
  | .traceForce id n => Sys2Proof.Machine.execTraceForce id n s
  | .traceStop id n => Sys2Proof.Machine.execTraceStop id n s
  | .trcTrigEdge => Sys2Proof.Machine.execTrcTrigEdge s
  | .trcOwnWrite id n held rival => Sys2Proof.Machine.execTrcOwnWrite id n held rival s
  | .conversionResult m l hold raw early calEarly => Sys2Proof.Machine.execConversionResult m l hold raw early s calEarly
  | .nextOneshot id l ch => Sys2Proof.Machine.execNextOneshot id l ch s
  | .holdOn id l ch hdiv => Sys2Proof.Machine.execHoldOn id l ch hdiv s
  | .holdOff id l => Sys2Proof.Machine.execHoldOff id l s
  | .fifoPop id l => Sys2Proof.Machine.execFifoPop id l s
  | .windowArm id l gate => Sys2Proof.Machine.execWindowArm id l gate s
  | .windowStop id l gate => Sys2Proof.Machine.execWindowStop id l gate s
  | .calZero id conv ch cross avg => Sys2Proof.Machine.execCalZero id conv ch cross avg s
  | .calFull id conv ch cross avg => Sys2Proof.Machine.execCalFull id conv ch cross avg s
  | .calSet id conv ch cross avg => Sys2Proof.Machine.execCalSet id conv ch cross avg s
  | .calCommandDone sum limit => Sys2Proof.Machine.execCalCommandDone sum limit s
  | .calTableLoadDone m => Sys2Proof.Machine.execCalTableLoadDone m s
  | .selfCheck m missed d0 d1 => Sys2Proof.Machine.execSelfCheck m missed d0 d1 s
  | .converterFail m noResult lost kept => Sys2Proof.Machine.execConverterFail m noResult s lost kept
  | .converterRestore id m => Sys2Proof.Machine.execConverterRestore id m s
  | .adcCommit id => Sys2Proof.Machine.execAdcCommit id s
  | .railVsetWrite id rail mv => Sys2Proof.Machine.execRailVsetWrite id rail mv s
  | .railEnableWrite id rail en => Sys2Proof.Machine.execRailEnableWrite id rail en s
  | .railPowerGood idx => Sys2Proof.Machine.execRailPowerGood idx s
  | .railPgLoss idx => Sys2Proof.Machine.execRailPgLoss idx s
  | .railUvFault idx => Sys2Proof.Machine.execRailUvFault idx s
  | .railOcFault idx => Sys2Proof.Machine.execRailOcFault idx s
  | .hsCtrlWrite id n v => Sys2Proof.Machine.execHsCtrlWrite id n v s
  | .slotArm id n b => Sys2Proof.Machine.execSlotArm id n b s
  | .slotStop id n b => Sys2Proof.Machine.execSlotStop id n b s
  | .slotNow id n b => Sys2Proof.Machine.execSlotNow id n b s
  | .switchOvercurrent n e => Sys2Proof.Machine.execSwitchOvercurrent n s e
  | .switchThermal n => Sys2Proof.Machine.execSwitchThermal n s
  | .chargerTick bat cur indpm treg => Sys2Proof.Machine.execChargerTick bat cur indpm treg s
  | .cellPresenceChange present => Sys2Proof.Machine.execCellPresenceChange present s
  | .ntcJudge mv => Sys2Proof.Machine.execNtcJudge mv s
  | .powerPathToVpre => Sys2Proof.Machine.execPowerPathToVpre s
  | .chgCommit id => Sys2Proof.Machine.execChgCommit id s
  | .lineOperationDone holds => Sys2Proof.Machine.execLineOperationDone holds s
  | .nvsCommit id => Sys2Proof.Machine.execNvsCommit id s
  | .dmaAddressWrite id n dst addr => Sys2Proof.Machine.execDmaAddressWrite id n dst addr s
  | .dmaStart id n => Sys2Proof.Machine.execDmaStart id n s
  | .dmaAbort id n => Sys2Proof.Machine.execDmaAbort id n s
  | .dmaKick id n => Sys2Proof.Machine.execDmaKick id n s
  | .dmaRelease id n => Sys2Proof.Machine.execDmaRelease id n s
  | .dmaIssue => Sys2Proof.Machine.execDmaIssue s
  | .dmaAccessDone n => Sys2Proof.Machine.execDmaAccessDone n s
  | .dmaStarvation n => Sys2Proof.Machine.execDmaStarvation n s
  | .dmaCommit id => Sys2Proof.Machine.execDmaCommit id s
  | .hostWriteTransaction dev bytes fin => Sys2Proof.Machine.execHostWriteTransaction dev bytes fin s
  | .hostReadTransaction dev acks fin => Sys2Proof.Machine.execHostReadTransaction dev acks fin s
  | .busFree stop => Sys2Proof.Machine.execBusFree stop s
  | .stretchLimit w => Sys2Proof.Machine.execStretchLimit w s
  | .clockLowTimeout => Sys2Proof.Machine.execClockLowTimeout s
  | .dataLowTimeout => Sys2Proof.Machine.execDataLowTimeout s
  | .alertResponse won => Sys2Proof.Machine.execAlertResponse won s
  | .alertSw id en => Sys2Proof.Machine.execAlertSw id en s
  | .addressMatchWake dev => Sys2Proof.Machine.execAddressMatchWake dev s
  | .twbCommit id => Sys2Proof.Machine.execTwbCommit id s
  | .twb2OwnWrite id held rival => Sys2Proof.Machine.execTwb2OwnWrite id held rival s
  | .twb2Go id addr wlen rlen linesFree => Sys2Proof.Machine.execTwb2Go id addr wlen rlen linesFree s
  | .twb2TransferDone k npos rx => Sys2Proof.Machine.execTwb2TransferDone k npos rx s
  | .otpProgram id src key => Sys2Proof.Machine.execOtpProgram id src key s
  | .otpBurnDone failLo failHi => Sys2Proof.Machine.execOtpBurnDone failLo failHi s
  | .otpRbadvWrite id n => Sys2Proof.Machine.execOtpRbadvWrite id n s
  | .lcsTransitionRequest id target key => Sys2Proof.Machine.execLcsTransitionRequest id target key s
  | .transitionDone fail => Sys2Proof.Machine.execTransitionDone fail s
  | .mailboxProgram id => Sys2Proof.Machine.execMailboxProgram id s
  | .mailboxTransition id => Sys2Proof.Machine.execMailboxTransition id s
  | .mailboxAnalysis id => Sys2Proof.Machine.execMailboxAnalysis id s
  | .tapExtest trst => Sys2Proof.Machine.execTapExtest s trst
  | .tapSamplePreload preload trst => Sys2Proof.Machine.execTapSamplePreload preload s trst
  | .tapIdcode trst => Sys2Proof.Machine.execTapIdcode s trst
  | .tapDebug trst => Sys2Proof.Machine.execTapDebug s trst
  | .tapVtest trst => Sys2Proof.Machine.execTapVtest s trst
  | .tapBypass trst => Sys2Proof.Machine.execTapBypass s trst
  | .sha256 id ksel => Sys2Proof.Machine.execSha256 id ksel s
  | .aesEncrypt id ksel => Sys2Proof.Machine.execAesEncrypt id ksel s
  | .aesCmac id ksel => Sys2Proof.Machine.execAesCmac id ksel s
  | .ecdsaVerify id ksel => Sys2Proof.Machine.execEcdsaVerify id ksel s
  | .derive id ksel => Sys2Proof.Machine.execDerive id ksel s
  | .random id ksel => Sys2Proof.Machine.execRandom id ksel s
  | .cryCommandDone => Sys2Proof.Machine.execCryCommandDone s
  | .keyLoad id slot => Sys2Proof.Machine.execKeyLoad id slot s
  | .keyClear id slot => Sys2Proof.Machine.execKeyClear id slot s
  | .trngHealthFail => Sys2Proof.Machine.execTrngHealthFail s
  | .trngStartupPass => Sys2Proof.Machine.execTrngStartupPass s
  | .severeClear id v => Sys2Proof.Machine.execSevereClear id v s
  | .safePinChange a b => Sys2Proof.Machine.execSafePinChange a b s
  | .discrepancyLatch => Sys2Proof.Machine.execDiscrepancyLatch s
  | .discrepancyClear id => Sys2Proof.Machine.execDiscrepancyClear id s
  | .rtcSnapshotRead id => Sys2Proof.Machine.execRtcSnapshotRead id s
  | .rtcCommit id => Sys2Proof.Machine.execRtcCommit id s
  | .trimStart id k auto => Sys2Proof.Machine.execTrimStart id k auto s
  | .trimWindowClose m => Sys2Proof.Machine.execTrimWindowClose m s
  | .trimAbort id k auto => Sys2Proof.Machine.execTrimAbort id k auto s
  | .alarmFire n => Sys2Proof.Machine.execAlarmFire n s
  | .oscStop => Sys2Proof.Machine.execOscStop s
  | .fanRegulatorStep fcross ffg ilim crossings => Sys2Proof.Machine.execFanRegulatorStep fcross ffg ilim crossings s
  | .zoneEvaluation => Sys2Proof.Machine.execZoneEvaluation s
  | .zoneStale k => Sys2Proof.Machine.execZoneStale k s
  | .loopTimeout => Sys2Proof.Machine.execLoopTimeout s
  | .startStepEnd good => Sys2Proof.Machine.execStartStepEnd good s
  | .backoffExpiry => Sys2Proof.Machine.execBackoffExpiry s
  | .bemfLost => Sys2Proof.Machine.execBemfLost s
  | .tachLost => Sys2Proof.Machine.execTachLost s
  | .signalStall => Sys2Proof.Machine.execSignalStall s
  | .bridgeOvercurrent => Sys2Proof.Machine.execBridgeOvercurrent s
  | .bridgeOvertemp => Sys2Proof.Machine.execBridgeOvertemp s
  | .fanVmUndervoltage => Sys2Proof.Machine.execFanVmUndervoltage s
  | .fanCommit id => Sys2Proof.Machine.execFanCommit id s
  | .tmrOwnWrite id n held rival => Sys2Proof.Machine.execTmrOwnWrite id n held rival s
  | .timerWrap n => Sys2Proof.Machine.execTimerWrap n s
  | .timerCompare n => Sys2Proof.Machine.execTimerCompare n s
  | .timerCapture n rising => Sys2Proof.Machine.execTimerCapture n rising s
  | .frameDropped pair bytes ago => Sys2Proof.Machine.execFrameDropped pair bytes s ago
  | .receptionStart pair rssi => Sys2Proof.Machine.execReceptionStart pair rssi s
  | .txDriverFaultEnd pair => Sys2Proof.Machine.execTxDriverFaultEnd pair s
  | .fanVmReturn => Sys2Proof.Machine.execFanVmReturn s
  | .vhvFall => Sys2Proof.Machine.execVhvFall s
  | .d0PowerLoss => Sys2Proof.Machine.execD0PowerLoss s
  | .domainOffComplete => Sys2Proof.Machine.execDomainOffComplete s
  | .oscResume => Sys2Proof.Machine.execOscResume s

end Sys2Proof.Machine
end

