-- ==== Sys2Proof/Safety.lean ====
section
/-! DEFINITION. What claims about the block speak of: the invariant of State, the conditions under which an access reaches its register, and what a command leaves alone. -/

namespace Sys2Proof.Machine

/-! ### The invariant -/

/-- No edge is open: between commands, every edge has ended (R139). The canonical forms of the state hold: field keys and context numbers rise, so do the general registers and the power stages' inputs, and memory lists rising addresses and no zero byte. -/
def State.sound (s : State) : Bool :=
  s.edge.isNone && Tab.rising s.regs && Memory.wf s.mem && Tab.rising s.seq.ctxs && Tab.rising s.seq.gregs && Tab.rising s.pst

/-! ### Reaching a register -/

/-- An access of kind `k` by initiator `id` to the register at `reg` passes checks 1 to 4 of R122: the port is live, a register stands there, the access table grants it, a 32-bit access fits, and the target's domain is at power good. No other request waits at its target, so that nothing is granted ahead of it (R113). -/
def Reaches (id : Id) (reg : Nat) (k : AccKind) (s : State) : Prop :=
  idLive id s = true ∧ mapped reg = true ∧ granted id reg k s = true ∧ widthOk reg 4 = true ∧
    domUp (domainOf reg) s = true ∧ rivals (targetOf reg s).1 s = []

/-- SCLK runs and domain `n` is at power good (R79). -/
def Runs (n : Nat) (s : State) : Prop := awake s = true ∧ domUp n s = true

/-! ### What stays -/

/-- Every byte of SRAM, NVS and trace RAM reads as before. -/
def SameMem (s t : State) : Prop := ∀ a, t.byte a = s.byte a

/-- Every register field but those with the keys listed reads as before. -/
def SameFields (ks : List Nat) (s t : State) : Prop := ∀ f i j, f.key i j ∉ ks → t.g2 f i j = s.g2 f i j

/-- Only register fields and the answer port differ: memory, contexts, accumulators, FIFOs, queues and everything else stay. -/
def OnlyRegs (s t : State) : Prop := t = { s with regs := t.regs, resp := t.resp }

end Sys2Proof.Machine
end

