-- ==== Sys2Proof/Certificates/Slice0/Obligations.lean ====
section
/-! DEFINITION. The statements for the provers: what the commands of the block do, by the rules of spec/. -/

open Sys2Proof Sys2Proof.Machine


/-! ### The step, the queue and the invariant -/

/-- The queue is first in, first out: a step runs the front command on the state with the queue's rest; with none waiting one SCLK edge passes (the model's choice, log 2). -/
def Obligations.StepTakesFront : Prop :=
  (∀ (c : Instr) (rest : List Instr) (s : State),
    s.pending = c :: rest → step s = exec c { s with pending := rest }) ∧
  ∀ s : State, s.pending = [] → step s = .next (tick s)

/-- The reset state meets the invariant of `StepKeepsSound`, and no command waits in it. -/
def Obligations.ResetIsSound : Prop := State.reset.sound = true ∧ State.reset.pending = []

/-- Every step closes the edge it works out and keeps the canonical forms of memory, register file, contexts, general registers and power stages, and takes exactly the front command from the queue: no command adds, drops or reorders waiting ones. -/
def Obligations.StepKeepsSound : Prop :=
  ∀ s t : State, s.sound = true → step s = .next t → t.sound = true ∧ t.pending = s.pending.tail

/-- What reset leaves, at the values the register tables give: identity, free-running string time at its nominal increment, domains 0xB80F, bypass closed, inputs OFF, SAFE_PIN and DEBUG rights, contexts in HALT, every SRAM word poisoned. -/
def Obligations.ResetValues : Prop :=
  let s := State.reset
  s.g F.sysChipidPart = 0x816 ∧ s.g F.sysChipidStep = 0xB1 ∧ s.g F.stmStatState = 0 ∧ s.g F.stmIncInc = 0x08BCF64E ∧
    s.g F.hkrDomctlOn = 0xB80F ∧ s.g F.pstBypByp = 1 ∧ (∀ x : Fin 8, pstMode x s = 0) ∧
    (∀ t : Fin 28, rightsOf t 0 s = 0 ∧ rightsOf t 3 s = 0x6DB ∧ rightsOf t 15 s = 0x6DB) ∧
    (∀ c, (s.ctx c).st = .halt) ∧ (∀ c r, s.gr c r = 0) ∧ s.sramGood = [] ∧ s.nvsBad = [] ∧
    s.pow.phase = .inReset .por

/-! ### The interconnect and the register model -/

/-- The order of R122 for both access rows: an unmapped address, then the access table (with the report of R123), then the width, then a domain that is off; each refusal leaves the rest of the machine alone. A dead port's access does nothing. No other request waits at the target, which would be granted in its turn (R113). -/
def BusRefusalOrderRule : Prop :=
  ∀ (id : Id) (addr : Word) (size : Fin 4) (v : BitVec 64) (s : State),
    let a := addr.toNat
    let deny := fun (kind : Nat) =>
      (((((s.p F.accStatDeny 1).sat F.accDencntCount 1).p F.accDenlogId id).p F.accDenlogTgt (targetOf a s).1).p
        F.accDenlogKind kind).p F.accDenaddrAddr a
    (idLive id s = false →
      exec (.registerWrite id addr size v none) s = .next s ∧ exec (.rcRead id addr size 0) s = .next s) ∧
    (idLive id s = true →
      (mapped a = false →
        exec (.registerWrite id addr size v none) s = .next (s.answer .invalid) ∧
        exec (.rcRead id addr size 0) s = .next (s.answer .invalid)) ∧
      (rivals (targetOf a s).1 s = [] →
      (mapped a = true → granted id a .write s = false →
        exec (.registerWrite id addr size v none) s = .next ((deny 1).answer .denied)) ∧
      (mapped a = true → granted id a .read s = false →
        exec (.rcRead id addr size 0) s = .next ((deny 0).answer .denied)) ∧
      (mapped a = true → granted id a .write s = true → widthOk a (2 ^ size.val) = false →
        exec (.registerWrite id addr size v none) s = .next (s.answer .invalid)) ∧
      (mapped a = true → granted id a .write s = true → widthOk a (2 ^ size.val) = true →
        domUp (domainOf a) s = false → exec (.registerWrite id addr size v none) s = .next (s.answer .busy)) ∧
      (mapped a = true → granted id a .read s = true → widthOk a (2 ^ size.val) = true →
        domUp (domainOf a) s = false → exec (.rcRead id addr size 0) s = .next (s.answer .busy))))

/-- SRAM is little-endian at every width: a write of 2^size bytes to a verified word stores the value's bytes in rising addresses and nothing else; a read returns them, lowest address first. -/
def SramAccessRule : Prop :=
  ∀ (id : Id) (addr : Word) (size : Fin 4) (v : BitVec 64) (s : State),
    let a := addr.toNat
    let n := 2 ^ size.val
    s.sound = true → idLive id s = true → a < 0x100000 → a % n = 0 → domUp (domainOf a) s = true →
    rivals (targetOf a s).1 s = [] →
    NSet.has s.sramGood (a / 8) = true → NSet.has s.sramOne (a / 8) = false →
    (granted id a .write s = true →
      ∃ t, exec (.registerWrite id addr size v none) s = .next t ∧ t.resp = ⟨.ok, 0⟩ ∧
        (∀ k < n, t.byte (a + k) = BitVec.ofNat 8 (v.toNat / 256 ^ k)) ∧
        (∀ b, b < a ∨ a + n ≤ b → t.byte b = s.byte b) ∧
        t = { s with mem := t.mem, resp := t.resp }) ∧
    (granted id a .read s = true → exec (.rcRead id addr size 0) s = .next (s.answer .ok (s.bytesLE a n)))

/-- A poisoned SRAM word: a read, and a write of less than the whole word, complete with INTEGRITY and are reported; a 64-bit write makes the word verify again. -/
def SramPoisonRule : Prop :=
  ∀ (id : Id) (addr : Word) (size : Fin 4) (v : BitVec 64) (s : State),
    let a := addr.toNat
    let rep := faultEvent srcSys (((((s.p F.sysSramerrUncorr 1).sat F.sysSramerrUcnt 1).p F.sysSramaddrWord (a / 8))).p
      F.sysSramaddrId id)
    idLive id s = true → a < 0x100000 → a % 2 ^ size.val = 0 → domUp (domainOf a) s = true →
    rivals (targetOf a s).1 s = [] → NSet.has s.sramGood (a / 8) = false →
    (granted id a .read s = true → exec (.rcRead id addr size 0) s = .next (rep.answer .integrity)) ∧
    (granted id a .write s = true → size.val < 3 →
      exec (.registerWrite id addr size v none) s = .next (rep.answer .integrity)) ∧
    (granted id a .write s = true → size.val = 3 →
      ∃ t, exec (.registerWrite id addr size v none) s = .next t ∧ t.resp.code = .ok ∧ NSet.has t.sramGood (a / 8) = true ∧
        t.regs = s.regs)

/-- The registers whose RC fields `RcFieldsClear` speaks of, by a field of each. -/
def rcFields : List Fam :=
  [F.sysRstcausePor, F.sysRstcauseBor, F.sysRstcauseLcr, F.sysRstcausePin, F.sysRstcauseWdr, F.sysRstcauseSwr,
    F.sysRstcauseClkmon, F.sysRstcauseGlitch, F.sysRstcauseBorsrc, F.sysSramerrCcnt, F.sysSramerrUcnt, F.accDencntCount,
    F.slkCapturesCount, F.slkCollideCount, F.slkErrcnt0Crc, F.slkErrcnt0Fmt, F.slkErrcnt1Mac, F.slkErrcnt1Stale,
    F.slkErrcnt2Nokey, F.slkErrcnt2Badsrc, F.nvsIcntCount, F.fltSafecntDisag, F.fltSafecntDemcnt]

/-- A read of a register with RC fields returns the register's word and clears those fields, and no other field of any register; what hardware adds or sets in them on the edge of the read is kept behind the clear. -/
def RcFieldsClearRule : Prop :=
  ∀ f ∈ rcFields, ∀ (id : Id) (hw : Word) (s : State), s.sound = true → Reaches id f.reg .read s →
    ∃ t, exec (.rcRead id (BitVec.ofNat 32 f.reg) 2 hw) s = .next t ∧ t.resp = ⟨.ok, regWord f.reg s⟩ ∧
      t.g f = hw.toNat / 2 ^ f.lo % 2 ^ f.w ∧
      SameFields (((fieldsAt f.reg).filter (fun x => x.fam.acc = .rc)).map Fld.key) s t ∧ OnlyRegs s t

/-- The one-bit W1C flags `RacedWrites` speaks of, of registers with no rule of their own. -/
def racedFlags : List Fam :=
  [F.sysSramerrUncorr, F.stmStatXtLost, F.stmStatHoldExp, F.stmStatRefRange, F.accStatDeny, F.twbStatPecerr, F.twbStatPartial, F.fltStatCarry]

/-- A write of 1 to a flag does not clear it on an edge on which hardware sets it, and a lock whose clear asks for clear fault flags stays while hardware sets one on the edge of the write: LOCKOUT of a power stage, WLOCK of the NVS controller. -/
def RacedWritesRule : Prop :=
  (∀ f ∈ racedFlags, ∀ (id : Id) (s : State), s.sound = true → Reaches id f.reg .write s →
    let bit : Nat := 2 ^ f.lo
    (∃ t, exec (.registerWrite id (BitVec.ofNat 32 f.reg) 2 (BitVec.ofNat 64 bit) none) s = .next t ∧ t.resp.code = .ok ∧ t.g f = 0) ∧
    ∃ t, exec (.registerWrite id (BitVec.ofNat 32 f.reg) 2 (BitVec.ofNat 64 bit)
        (some (BitVec.ofNat 32 f.reg, BitVec.ofNat 32 bit))) s = .next t ∧ t.resp.code = .ok ∧ t.g f = 1) ∧
  (∀ (x : Fin 8) (id : Id) (s : State), s.sound = true → Reaches id (F.pstStatOv.reg x) .write s →
    s.g1 F.pstStatLockout x = 1 → pstFaulted x s = false →
    let lock : Nat := 2 ^ F.pstStatLockout.lo
    let flag : Nat := 2 ^ F.pstStatOv.lo
    let at_ : Word := BitVec.ofNat 32 (F.pstStatOv.reg x)
    (∃ t, exec (.registerWrite id at_ 2 (BitVec.ofNat 64 lock) none) s = .next t ∧ t.b1 F.pstStatLockout x = false) ∧
    ∃ t, exec (.registerWrite id at_ 2 (BitVec.ofNat 64 lock) (some (at_, BitVec.ofNat 32 flag))) s = .next t ∧
      t.b1 F.pstStatLockout x = true ∧ t.b1 F.pstStatOv x = true) ∧
  (∀ (id : Id) (s : State), s.sound = true → Reaches id F.nvsStatInteg.reg .write s →
    s.g F.nvsStatWlock = 1 → s.b F.nvsStatInteg = false → s.b F.nvsStatKeybad = false →
    let lock : BitVec 64 := BitVec.ofNat 64 (2 ^ F.nvsStatWlock.lo)
    let at_ : Word := BitVec.ofNat 32 F.nvsStatInteg.reg
    (∃ t, exec (.registerWrite id at_ 2 lock none) s = .next t ∧ t.b F.nvsStatWlock = false) ∧
    ∃ t, exec (.registerWrite id at_ 2 lock (some (at_, BitVec.ofNat 32 (2 ^ F.nvsStatInteg.lo)))) s = .next t ∧
      t.b F.nvsStatWlock = true ∧ t.b F.nvsStatInteg = true)

/-- The RWS registers of a single block that `StagedWrites` speaks of, each with its stage. -/
def stagedRegs : List (Nat × Nat) :=
  [(F.stmCfgSrc.addr, 1), (F.stmThrLockPh.addr, 1), (F.stmHoldLimit.addr, 1), (F.stmRippleMinamp.addr, 1),
    (F.jnlCfgSerial.addr, 4), (F.slkCfgEnc.addr, 5), (F.slkTxwincFirst.addr, 5), (F.slkTxwinpFirst.addr, 5),
    (F.chgCfgChem.addr, 11), (F.twbCfgAddr.addr, 14), (F.fanCfgPoles.addr, 18),
    (F.fanStartAlignt.addr, 18), (F.fanSpdMinspd.addr, 18), (F.fanLoopTmo.addr, 18)]

/-- Taking the stage: a write of an RWS register changes no committed field; the writer becomes the stage's owner and the stage holds the written fields; while another initiator owns the stage the write changes nothing and completes with BUSY. -/
def StagedWritesRule : Prop :=
  ∀ r ∈ stagedRegs, ∀ (id : Id) (v : Word) (s : State), Reaches id r.1 .write s →
    (s.stageHeld r.2 id = true → exec (.stagedWrite id (BitVec.ofNat 32 r.1) v) s = .next (s.answer .busy)) ∧
    (s.stageHeld r.2 id = false →
      ∃ t, exec (.stagedWrite id (BitVec.ofNat 32 r.1) v) s = .next t ∧ t.resp.code = .ok ∧
        (t.stage r.2).owner = some id.val ∧
        (∀ x ∈ fieldsAt r.1, Tab.get (t.stage r.2).vals x.key = some (x.bits v.toNat)) ∧
        t = { s with stages := t.stages, resp := t.resp })

/-- A stage left open for 65 536 SCLK is discarded: it has no owner and no values, the committed fields stay, and its former owner's COMMIT then answers TIMEOUT. -/
def StageDiscardedRule : Prop :=
  ∀ (k : Fin 40) (o : Nat) (s : State), awake s = true → (s.stage k).owner = some o →
    exec (.stageDiscard k) s = .next (s.setStage k { owner := none, gone := some o, vals := [] })

/-! ### Staging (R10, R127, R128) -/

/-- What R10 and R127 ask of the COMMIT row `mk` of the stage `k`, whose register is at `reg`: another initiator's stage answers BUSY; the owner's commit is applied and the stage released when the check passes, and otherwise only released with STAGE_REJECT; a discarded stage answers its former owner TIMEOUT; with nothing staged nothing changes. -/
def CommitRow (mk : Id → Instr) (reg k : Nat) (check : State → Bool) (apply : Id → State → State) : Prop :=
  ∀ (id : Id) (s : State), Reaches id reg .write s →
    (∀ o, (s.stage k).owner = some o → o ≠ id.val → exec (mk id) s = .next (s.answer .busy)) ∧
    ((s.stage k).owner = some id.val → check s = true →
      exec (mk id) s = .next (((apply id s).setStage k {}).answer .ok)) ∧
    ((s.stage k).owner = some id.val → check s = false →
      exec (mk id) s = .next ((s.setStage k {}).answer .stageReject)) ∧
    ((s.stage k).owner = none → (s.stage k).gone = some id.val →
      exec (mk id) s = .next ((s.setStage k {}).answer .timeout)) ∧
    ((s.stage k).owner = none → (s.stage k).gone ≠ some id.val → exec (mk id) s = .next (s.answer .ok))

/-- The COMMIT rows of string time, the journal, the link, the converters, the charger, the DMA, the two-wire target and the fan, each with its chapter's checks and with what its chapter adds to applying the staged fields. -/
def Obligations.CommitRows : Prop :=
  CommitRow .stmCommit F.stmCommitCommit.reg 1 stmCheck (fun _ s => stmApply s) ∧
  CommitRow .jnlCommit F.jnlCommitCommit.reg 4 jnlCheck (fun _ s => serveTakes (jnlRefresh (s.applyStage 4))) ∧
  CommitRow .slkCommit F.slkCommitCommit.reg 5 slkCheck (fun _ s => slkApply s) ∧
  CommitRow .adcCommit F.adcCommitCommit.reg 9 adcCheck
    (fun _ s => (s.modAdc (fun a => { a with fmtOld := formats s })).applyStage 9) ∧
  CommitRow .chgCommit F.chgCommitCommit.reg 11 chgCheck
    (fun _ s => if (s.applyStage 11).g F.chgCfgChem = 0 then (s.applyStage 11).p F.chgStatNtcz 7 else s.applyStage 11) ∧
  CommitRow .dmaCommit F.dmaCommitCommit.reg 13 dmaCheck (fun id s => dmaApply id s) ∧
  CommitRow .twbCommit F.twbCommitCommit.reg 14 twbCheck (fun _ s => s.applyStage 14) ∧
  CommitRow .fanCommit F.fanCommitCommit.reg 18 fanCheck (fun _ s => s.applyStage 18)

/-- The COMMIT rows with a proof or another target behind them, each for the owner of the stage. A power stage commits what passes R262, and where an enabled program triggers on it and the period or the window would change, only with a proof that passes. The control engine's commit runs the proof and records its outcome whatever follows; a sound set that it admits is applied, any other gives STAGE_REJECT. A line commit that passes R358 is queued with the line's staged bytes, to be answered when its write has ended. RTC_COMMIT is never rejected outside the lockout: the committed time waits for the first crystal edge. -/
def ProvenCommitsRule : Prop :=
  (∀ (id : Id) (x : Fin 8) (s : State), Reaches id (F.pstCommitCommit.reg x) .write s →
    (s.stage (32 + x)).owner = some id.val →
    (∀ n < 32, ∀ a y, progEn s.ce.idx n = true → progTrig s.ce.idx n = some (.pwm a y) → a ≠ x) →
    exec (.pstCommit id x) s =
      if pstCheck x s then .next (((s.applyStage (32 + x)).setStage (32 + x) {}).answer .ok)
      else .next ((s.setStage (32 + x) {}).answer .stageReject)) ∧
  (∀ (id : Id) (x : Fin 8) (n : Fin 32) (y : Nat) (s : State), Reaches id (F.pstCommitCommit.reg x) .write s →
    (s.stage (32 + x)).owner = some id.val → progEn s.ce.idx n = true → progTrig s.ce.idx n = some (.pwm x y) →
    ((stagedWin x s).period ≠ (winOf x s).period ∨ (stagedWin x s).window ≠ (winOf x s).window) →
    let o := proofOver s.ce.idx (fun i => if i = x.val then stagedWin x s else winOf i s) [] s
    exec (.pstCommit id x) s =
      if pstCheck x s && o.ok then .next ((((recordProof o s).applyStage (32 + x)).setStage (32 + x) {}).answer .ok)
      else .next (((recordProof o s).setStage (32 + x) {}).answer .stageReject)) ∧
  (∀ (id : Id) (s : State), Reaches id F.ceCommitCommit.reg .write s → (s.stage 8).owner = some id.val →
    let o := proofOver (ceMerged s) (fun x => winOf x s) (ceChanged s) s
    exec (.ceCommit id) s =
      if ceSetOk (ceMerged s) && o.ok then .next (((ceApply (recordProof o s)).setStage 8 {}).answer .ok)
      else .next (((recordProof o s).setStage 8 {}).answer .stageReject)) ∧
  (∀ (id : Id) (s : State), Reaches id F.nvsCommitCommit.reg .write s → (s.stage 12).owner = some id.val →
    let a := s.sv 12 F.nvsLaddrAddr
    laddrOk a = true → granted id a .write s = true → nvsPrivate a = false → s.b F.nvsStatWlock = false →
    s.nvs.q.length < 4 →
    ∃ t, exec (.nvsCommit id) s = .next t ∧
      t.nvs.q = s.nvs.q ++ [{ id := id, addr := a, data := lineStaged s, cls := (idCls id).num }] ∧
      (t.stage 12).owner = none ∧ t.resp = s.resp ∧ t.mem = s.mem) ∧
  (∀ (id : Id) (s : State), Reaches id F.rtcCommitCommit.reg .write s → s.b F.rtcStatLockout = false →
    (s.stage 17).owner = some id.val →
    exec (.rtcCommit id) s =
      .next ((({ s.applyStage 17 with rtc := { s.rtc with set := some (s.sv 17 F.rtcSetsecSec) } } : State).setStage 17 {}).answer .ok)) ∧
  (∀ (id : Id) (s : State), Reaches id F.rtcCommitCommit.reg .write s → s.b F.rtcStatLockout = true →
    exec (.rtcCommit id) s = .next (s.answer .denied))

/-- Applying a stage gives every field that stands in it its staged value, cut to the field's width. -/
def StagedValuesAppliedRule : Prop :=
  ∀ (s : State) (k v : Nat) (x : Fld), s.sound = true → fieldOfKey x.key = some x →
    Tab.rising (s.stage k).vals = true → Tab.get (s.stage k).vals x.key = some v →
    (s.applyStage k).gf x = v % 2 ^ x.fam.w

/-! ### Resets, supplies and boot -/

/-- PIN, WDR and SWR, each as the only cause of its cycle: contexts halt, stages go, the cause bit is set, string time and SRAM and every other byte of memory stay, fields that the kind restores return to reset values and the others keep theirs, but for what the supplies show (VHV_OK, WARN). No burn or line write is under way. During another reset nRST only adds its cause, and in sleep it resets too. -/
def WarmResetsRule : Prop :=
  (∀ (i : Instr) (k : ResetKind) (f : Fam) (s : State), s.sound = true → s.nvs.q = [] → s.sec.cmd = none → awake s = true →
    (i = .pinReset [] ∧ k = .pin ∧ f = F.sysRstcausePin ∨
      i = .watchdogExpiry [] ∧ k = .wdr ∧ f = F.sysRstcauseWdr ∧ s.b F.sysWdtctlEn = true ∧
        192000 * s.g F.sysWdtctlTimeout ≤ s.pow.wdt ∨
      i = .softwareReset [] ∧ k = .swr ∧ f = F.sysRstcauseSwr ∧ s.pow.swr = true) →
    ∃ t, exec i s = .next t ∧ t.pow.phase = .inReset k ∧ t.pow.kind = k ∧ t.pow.swr = false ∧ t.pow.lcr = false ∧
      t.g f = 1 ∧ (∀ c, t.ctx c = {}) ∧ t.seq.gregs = s.seq.gregs ∧ t.stages = [] ∧ t.stm.acc = s.stm.acc ∧
      t.stm.sclk = s.stm.sclk ∧ t.sramGood = s.sramGood ∧ t.mem = s.mem ∧ t.rtc = s.rtc ∧ t.chg = s.chg ∧
      (∀ x : Fld, fieldOfKey x.key = some x → x.key ≠ f.key 0 0 → x.key ≠ F.sysSupstatVhvOk.key 0 0 →
        x.key ≠ F.sysSupstatWarn.key 0 0 → t.gf x = if x.fam.kinds.restores k then x.rst else s.gf x)) ∧
  (∀ (s : State), (s.pow.phase = .borHeld ∨ ∃ k, s.pow.phase = .inReset k) →
    exec (.pinReset []) s = .next (s.p F.sysRstcausePin 1)) ∧
  ∀ s : State, s.pow.phase = .asleep → ∃ t, exec (.pinReset []) s = .next t ∧ t.pow.phase = .inReset .pin ∧ t.g F.sysRstcausePin = 1

/-- SYS_RSTCAUSE shows a cause (R91, R108). -/
def Recorded (t : State) : Cause → Prop
  | .supply src => t.g F.sysRstcauseBor = 1 ∧ (t.g F.sysRstcauseBorsrc).testBit src.val = true
  | .clock => t.g F.sysRstcauseBor = 1 ∧ t.g F.sysRstcauseClkmon = 1
  | .glitch => t.g F.sysRstcauseBor = 1 ∧ t.g F.sysRstcauseGlitch = 1
  | .lcr => t.g F.sysRstcauseLcr = 1
  | .pin => t.g F.sysRstcausePin = 1
  | .wdr => t.g F.sysRstcauseWdr = 1
  | .swr => t.g F.sysRstcauseSwr = 1

/-- The reset command of a cause, with further causes of its cycle. -/
def resetCommand (also : List Cause) : Cause → Instr
  | .supply src => .brownOutReset src none also
  | .clock => .clockMonitorTrip also
  | .glitch => .glitchMonitorTrip also
  | .lcr => .lifeCycleReset also
  | .pin => .pinReset also
  | .wdr => .watchdogExpiry also
  | .swr => .softwareReset also

/-- Causes that arise in one SCLK cycle: the one that reaches furthest is taken, in the order BOR, LCR, PIN, WDR, SWR, and every one that stands is recorded. -/
def CausesOfOneCycle : Prop :=
  ∀ (c : Cause) (also : List Cause) (s : State), s.sound = true → awake s = true → s.pow.vhv = true → causeStands s c = true →
    let cs := c :: also.filter (causeStands s)
    ∃ t, exec (resetCommand also c) s = .next t ∧ (∀ d ∈ cs, Recorded t d) ∧
      t.pow.phase =
        if cs.any Cause.isBor then .borHeld
        else if cs.contains .lcr then .inReset .lcr
        else if cs.contains .pin then .inReset .pin
        else if cs.contains .wdr then .inReset .wdr
        else .inReset .swr

/-- POR, BOR and LCR return string time to zero and halt every context; POR and BOR also poison every SRAM word. A BOR is held until its supplies return, which ends the RTC's lockout unless the supply warning stands. Of several causes in one SCLK cycle the one that reaches furthest is taken and every one is recorded. -/
def DeepResetsRule : Prop :=
  (∀ s : State,
    ((s.pow.phase = .heldOff ∨ s.pow.phase = .dark) →
      ∃ t, exec .powerOnReset s = .next t ∧ t.pow.phase = .inReset .por ∧ t.pow.vhv = true ∧ t.stm.acc = 0 ∧
        (∀ c, t.ctx c = {}) ∧ t.sramGood = [] ∧ t.sec.tap = .idcode ∧ t.g F.sysSupstatVhvOk = 1) ∧
    (awake s = true →
      (∀ src : Fin 4, (src ≠ 0 ∨ s.pow.vhv = true) →
        ∃ t, exec (.brownOutReset src none []) s = .next t ∧ t.pow.phase = .borHeld ∧ t.stm.acc = 0 ∧ (∀ c, t.ctx c = {}) ∧
          t.sramGood = [] ∧ (t.g F.sysRstcauseBorsrc).testBit src = true) ∧
      (∃ t, exec (.clockMonitorTrip []) s = .next t ∧ t.pow.phase = .borHeld ∧ t.stm.acc = 0 ∧ (∀ c, t.ctx c = {}) ∧
        t.sramGood = [] ∧ t.g F.sysRstcauseClkmon = 1) ∧
      (∃ t, exec (.glitchMonitorTrip []) s = .next t ∧ t.pow.phase = .borHeld ∧ t.stm.acc = 0 ∧ (∀ c, t.ctx c = {}) ∧
        t.sramGood = [] ∧ t.g F.sysRstcauseGlitch = 1) ∧
      (s.pow.lcr = true →
        ∃ t, exec (.lifeCycleReset []) s = .next t ∧ t.pow.phase = .inReset .lcr ∧ t.stm.acc = 0 ∧ (∀ c, t.ctx c = {}) ∧
          t.g F.sysRstcauseLcr = 1)) ∧
    (s.pow.phase = .borHeld →
      exec .borRelease s = .next { (if s.pow.low then s else s.p F.rtcStatLockout 0) with pow := { s.pow with phase := .inReset .bor } })) ∧
  CausesOfOneCycle

/-- VHV and the loss of supplies. VHV_OK follows VHV; a rise while D1 has power sets VHV_UP without a reset, and wakes a sleeping node whose WK_VHV is set. Without VHV a fall of VSYS takes the node to the held-off state, where only D0 is at power good, the rails and the BAT switch are off, BYP is high impedance and the RTC keeps its time under its lockout. Without VSYS and BAT every register is lost. The supply warning sets its flags and the RTC's lockout, moves the power path to a qualified cell and raises SUPPLY_WARN (line 4). -/
def Obligations.SupplyEvents : Prop :=
  ∀ s : State,
    (d1Powered s = true → s.pow.vhv = false →
      (s.pow.phase ≠ .asleep ∨ s.b F.hkrSleepWkVhv = false →
        exec .vhvRise s =
          .next ((({ s with pow := { s.pow with vhv := true } } : State).p F.sysSupstatVhvOk 1).p F.sysSupstatVhvUp 1)) ∧
      (s.sound = true → s.pow.phase = .asleep → s.b F.hkrSleepWkVhv = true →
        ∃ t, exec .vhvRise s = .next t ∧ t.pow.phase = (if s.pow.release then .running else .unreleased) ∧ t.pow.vhv = true ∧
          t.g F.sysSupstatVhvUp = 1 ∧ (t.g F.hkrSleepCause).testBit 2 = true)) ∧
    exec .vhvFall s = .next (({ s with pow := { s.pow with vhv := false } } : State).p F.sysSupstatVhvOk 0) ∧
    (∀ line, s.sound = true → d1Powered s = true → s.pow.vhv = false →
      ∃ t, exec (.heldOffEntry line) s = .next t ∧ t.pow.phase = .heldOff ∧ t.g F.hkrDomstatPg = 1 ∧ t.sramGood = [] ∧
        (∀ c, t.ctx c = {}) ∧ t.stm.acc = 0 ∧ t.g F.hkrRailstatOn = 0 ∧ t.g F.chgStatPath = 0 ∧ bypLevel t = none ∧
        t.g F.rtcStatLockout = 1 ∧ t.g F.rtcSecSec = s.g F.rtcSecSec ∧ t.g F.rtcSubSub = s.g F.rtcSubSub) ∧
    (s.pow.phase ≠ .dark → s.pow.vhv = false →
      ∃ t, exec .d0PowerLoss s = .next t ∧ t.pow.phase = .dark ∧ t.regs = [] ∧ t.rtc = {} ∧ t.sramGood = [] ∧
        (∀ c, t.ctx c = {})) ∧
    (s.sound = true → awake s = true → s.b F.chgStatPath = false → s.pow.low = false →
      ∃ t, exec .supplyWarning s = .next t ∧ t.pow.low = true ∧ t.g F.sysSupstatWarn = 1 ∧ t.g F.sysSupstatWarnEv = 1 ∧
        t.g F.rtcStatLockout = 1 ∧ t.g F.chgStatPath = bit (s.b F.chgStatQual) ∧
        (s.b F.chgStatQual = true → t.g F.sysSupstatOnbat = 1 ∧ t.g F.chgStatPathchg = 1) ∧ t.mem = s.mem ∧
        (waitersOn (WaitFor.onLine 4 false) s = [] → waitersOn (WaitFor.onLine 4 true) s = [] →
          t.seq.latch.getLsbD 4 = true))

/-- The boot ledger: from a reset, with STEP at its reset value, the node boots and decodes its life-cycle state, and the ledger runs to a step from 7 to 10; without a reset the command does nothing. The default sequence's timeout sets RAILSTOP, ends the sequence at the rail it waits for and completes step 8. The end of boot sets DONE and step 11, locks the access tables, starts the watchdog at 1 000 ms, and lets contexts run only when an image was loaded. A command whose conditions do not hold leaves the state as it is: the model's choice, log 5. -/
def Obligations.BootLedger : Prop :=
  (∀ (vsel : List Nat) (nrst : Bool) (k : ResetKind) (s : State), s.sound = true → s.pow.phase = .inReset k → s.g F.sysBootstatStep = 0 →
    ∃ t, exec (.bootStart vsel nrst) s = .next t ∧ t.pow.phase = .booting ∧ t.g F.lcsStateState = lcDecode s ∧
      7 ≤ t.g F.sysBootstatStep ∧ t.g F.sysBootstatStep ≤ 10) ∧
  (∀ (vsel : List Nat) (nrst : Bool) (s : State), (∀ k, s.pow.phase ≠ .inReset k) →
    exec (.bootStart vsel nrst) s = .next s) ∧
  (∀ (i : Nat) (s : State), awake s = true → s.pow.rail = some i → s.sound = true → s.g F.sysBootstatStep ≤ 11 →
    ∃ t, exec .defaultSeqTimeout s = .next t ∧ t.g F.sysBootstatRailstop = 1 ∧ t.pow.rail = none ∧
      t.g F.sysBootstatStep = max 8 (s.g F.sysBootstatStep) ∧ t.mem = s.mem) ∧
  (∀ s : State, s.sound = true → s.pow.phase = .booting → s.g F.lcsStateState ≠ 0 → s.pow.rail = none →
    s.g F.sysBootstatStep ≤ 11 →
    ∃ t, exec .bootEnd s = .next t ∧ t.g F.sysBootstatStep = 11 ∧ t.g F.sysBootstatDone = 1 ∧ t.g F.accLockLock = 1 ∧
      t.g F.sysWdtctlEn = 1 ∧ t.g F.sysWdtctlTimeout = 1000 ∧ t.pow.wdt = 0 ∧
      t.pow.phase = (if s.pow.release then .running else .unreleased)) ∧
  (∀ s : State, s.pow.phase ≠ .booting ∨ s.g F.lcsStateState = 0 ∨ s.pow.rail ≠ none → exec .bootEnd s = .next s)

/-- R104: KEY 0xB007 written to SYS_RSTREQ completes with OK and an SWR follows; any other KEY changes nothing and completes with INVALID. -/
def SoftwareResetKeyRule : Prop :=
  ∀ (id : Id) (key : Half) (s : State), Reaches id F.sysRstreqKey.reg .write s →
    (key = 0xB007 →
      exec (.softwareResetRequest id key) s = .next (({ s with pow := { s.pow with swr := true } } : State).answer .ok) ∧
      ∃ t, exec (.softwareReset []) (({ s with pow := { s.pow with swr := true } } : State).answer .ok) = .next t ∧
        t.pow.phase = .inReset .swr ∧ t.g F.sysRstcauseSwr = 1) ∧
    (key ≠ 0xB007 → exec (.softwareResetRequest id key) s = .next (s.answer .invalid))

/-- The watchdog's service word restarts its count; any other value changes nothing and completes with INVALID. -/
def WatchdogServiceRule : Prop :=
  ∀ (id : Id) (v : Word) (s : State), Reaches id F.sysWdtsvcSvc.reg .write s →
    exec (.watchdogService id v) s =
      if v = 0xC35A then .next (({ s with pow := { s.pow with wdt := 0 } } : State).answer .ok)
      else .next (s.answer .invalid)

/-! ### Power domains, sleep, pins and owners -/

/-- Switching domains: a write of HKR_DOMCTL while a transition is pending changes nothing and answers BUSY; one that asks only for what R77 permits takes effect: the domains it switches off leave power good at once, those it switches on are queued in order; one that asks for more sets REFUSED and answers BUSY. Domains finish switching off from the highest down and then come up one by one in the order of R78, and BUSY ends with the last. -/
def DomainSwitchingRule : Prop :=
  (∀ (id : Id) (on : Half) (s : State), Reaches id F.hkrDomctlOn.reg .write s →
    (s.b F.hkrDomstatBusy = true → exec (.domctlWrite id on) s = .next (s.answer .busy)) ∧
    (s.b F.hkrDomstatBusy = false → s.sound = true →
      let ask := on.toNat ||| 0x8803
      let new := onOrder.filter (fun n => ask.testBit n && !(s.g F.hkrDomctlOn).testBit n)
      (∀ n < 16, (s.g F.hkrDomctlOn).testBit n = true → ask.testBit n = true) →
      ∃ t, exec (.domctlWrite id on) s = .next t ∧ t.resp.code = .ok ∧ t.g F.hkrDomctlOn = ask ∧ t.pow.offs = [] ∧
        t.pow.ons = new ∧ t.g F.hkrDomstatBusy = bit (!new.isEmpty) ∧ t.g F.hkrDomstatPg = s.g F.hkrDomstatPg ∧
        t.mem = s.mem) ∧
    (s.b F.hkrDomstatBusy = false → s.sound = true →
      let ask := on.toNat ||| 0x8803
      let was := s.g F.hkrDomctlOn
      ((∀ n < 16, was.testBit n = true → ask.testBit n = false → mayOff ask n s = true) →
        ∃ t, exec (.domctlWrite id on) s = .next t ∧ t.resp.code = .ok ∧ t.g F.hkrDomctlOn = ask ∧
          t.pow.offs = (List.range 16).filter (fun n => was.testBit n && !ask.testBit n) ∧
          t.pow.ons = onOrder.filter (fun n => ask.testBit n && !was.testBit n) ∧
          ∀ n < 16, was.testBit n = true → ask.testBit n = false → (t.g F.hkrDomstatPg).testBit n = false) ∧
      ((∃ n < 16, was.testBit n = true ∧ ask.testBit n = false ∧ mayOff ask n s = false) →
        ∃ t, exec (.domctlWrite id on) s = .next t ∧ t.resp.code = .busy ∧ t.g F.hkrDomstatRefused = 1))) ∧
  (∀ (n : Nat) (s : State), awake s = true → s.pow.offs.getLast? = some n →
    exec .domainOffComplete s =
      .next (({ s with pow := { s.pow with offs := NSet.del s.pow.offs n } } : State).p F.hkrDomstatBusy
        (bit (!((NSet.del s.pow.offs n).isEmpty && s.pow.ons.isEmpty))))) ∧
  (∀ (n : Nat) (rest : List Nat) (s : State), awake s = true → s.pow.offs = [] → s.pow.ons = n :: rest →
    s.sound = true → n ∈ onOrder →
    ∃ t, exec .domainPowerGood s = .next t ∧ (t.g F.hkrDomstatPg).testBit n = true ∧ t.pow.ons = rest ∧
      t.g F.hkrDomstatBusy = bit (!rest.isEmpty) ∧ (n ≠ 11 → n ≠ 12 → t.mem = s.mem) ∧
      (n ≠ 2 → n ≠ 3 → t.sramGood = s.sramGood))

/-- Sleep: an ENTER without a wake enable is INVALID, and one refused by running work is BUSY; otherwise every domain but D0 goes off, stages are discarded and bypass closes. An enabled wake source records its cause and wakes the node, with string time FREE; any other leaves it asleep. -/
def SleepAndWakeRule : Prop :=
  (∀ (id : Id) (wk : BitVec 4) (s : State), Reaches id F.hkrSleepEnter.reg .write s →
    (wk = 0 → exec (.sleepEnter id wk) s = .next (s.answer .invalid)) ∧
    (wk ≠ 0 → sleepBusy s = true → exec (.sleepEnter id wk) s = .next (s.answer .busy)) ∧
    (wk ≠ 0 → sleepBusy s = false → s.sound = true →
      ∃ t, exec (.sleepEnter id wk) s = .next t ∧ t.resp.code = .ok ∧ t.pow.phase = .asleep ∧ t.g F.hkrDomstatPg = 1 ∧
        (∀ k, (t.stage k).owner = none) ∧ t.g F.pstBypByp = 1)) ∧
  (∀ (src : Fin 4) (s : State), s.pow.phase = .asleep → s.sound = true →
    let en := match src with
      | 0 => s.b F.hkrSleepWkTwb
      | 1 => s.b F.hkrSleepWkRtc
      | 2 => s.b F.hkrSleepWkVhv
      | 3 => s.b F.hkrSleepWkSafe
    (en = false → exec (.wake src) s = .next s) ∧
    (en = true → ∃ t, exec (.wake src) s = .next t ∧ awake t = true ∧ t.pow.offs = [] ∧ t.g F.stmStatState = 0 ∧
      (t.g F.hkrSleepCause).testBit src = true)) ∧
  ∀ (src : Fin 4) (s : State), s.pow.phase ≠ .asleep → exec (.wake src) s = .next s

/-- GP pins: a claim gives the pin its written fields and its holder, and the holder's release takes both; while another initiator holds the pin nothing changes and the answer is BUSY; an encoding R70 does not define is INVALID; a line of the second two-wire port or of a timer asked for without that resource's claim, and a release of an unclaimed pin, are NOT_CLAIMED. -/
def Obligations.GpPinWrites : Prop :=
  ∀ (id : Id) (n : Fin 24) (v : Word) (s : State), Reaches id (F.sysGpFunc.reg n) .write s →
    let w := v.toNat
    let legal := gpFuncOk n (w % 4) = true ∧ w / 4 % 4 ≠ 3
    let mine := s.g1 F.sysGpHeld n = 0 ∨ s.g1 F.sysGpOwner n = id
    (¬ legal → exec (.sysGpWrite id n v none) s = .next (s.answer .invalid)) ∧
    (legal → ¬ mine → exec (.sysGpWrite id n v none) s = .next (s.answer .busy)) ∧
    (legal → mine → w.testBit 16 = true → gpNeedsClaim n (w % 4) id s = false → s.sound = true →
      ∃ t, exec (.sysGpWrite id n v none) s = .next t ∧ t.resp.code = .ok ∧ t.g1 F.sysGpHeld n = 1 ∧
        t.g1 F.sysGpOwner n = id ∧ t.g1 F.sysGpFunc n = w % 4 ∧ t.g1 F.sysGpPull n = w / 4 % 4 ∧
        t.g1 F.sysGpOe n = w / 16 % 2 ∧ t.g1 F.sysGpOut n = w / 32 % 2 ∧ t.g1 F.sysGpOd n = w / 64 % 2 ∧
        t.g1 F.sysGpSel n = w / 256 % 8 ∧ OnlyRegs s t) ∧
    (legal → mine → w.testBit 16 = true → w % 4 = 3 → (n.val % 12 = 6 ∨ n.val % 12 = 7) →
      (s.b F.twb2OwnHeld = false ∨ s.g F.twb2OwnOwner ≠ id) →
      exec (.sysGpWrite id n v none) s = .next (s.answer .notClaimed)) ∧
    (legal → mine → w.testBit 16 = true → w % 4 = 2 →
      (s.b1 F.tmrOwnHeld (gpTimer n) = false ∨ s.g1 F.tmrOwnOwner (gpTimer n) ≠ id) →
      exec (.sysGpWrite id n v none) s = .next (s.answer .notClaimed)) ∧
    (legal → s.g1 F.sysGpHeld n ≠ 0 → s.g1 F.sysGpOwner n = id → w.testBit 16 = false → s.sound = true →
      ∃ t, exec (.sysGpWrite id n v none) s = .next t ∧ t.resp.code = .ok ∧ t.g1 F.sysGpHeld n = 0 ∧
        t.g1 F.sysGpOwner n = 0 ∧ t.g1 F.sysGpFunc n = 0 ∧ t.g1 F.sysGpOe n = 0 ∧ OnlyRegs s t) ∧
    (legal → s.g1 F.sysGpHeld n = 0 → w.testBit 16 = false →
      exec (.sysGpWrite id n v none) s = .next (s.answer .notClaimed))

/-- What R479 asks of an owner register: HELD 1 claims a free resource for the writer and leaves the holder's own as it is; HELD 0 from the holder releases it; another initiator is answered BUSY, and a release of a free resource NOT_CLAIMED. -/
def OwnerRow (mk : Id → Bool → Instr) (reg n : Nat) (owner held : Fam) : Prop :=
  ∀ (id : Id) (h : Bool) (s : State), Reaches id reg .write s →
    (s.b1 held n = false → h = true →
      exec (mk id h) s = .next (((s.p1 held n 1).p1 owner n id).answer .ok)) ∧
    (s.b1 held n = false → h = false → exec (mk id h) s = .next (s.answer .notClaimed)) ∧
    (s.b1 held n = true → s.g1 owner n ≠ id → exec (mk id h) s = .next (s.answer .busy)) ∧
    (s.b1 held n = true → s.g1 owner n = id → h = true → exec (mk id h) s = .next (s.answer .ok)) ∧
    (s.b1 held n = true → s.g1 owner n = id → h = false → s.sound = true →
      ∃ t, exec (mk id h) s = .next t ∧ t.resp.code = .ok ∧ t.g1 held n = 0 ∧ t.g1 owner n = 0)

/-- The owner registers of the trace buffers, the second two-wire port and the timers. -/
def OwnerRegistersRule : Prop :=
  (∀ n : Fin 4, OwnerRow (fun id h => .trcOwnWrite id n h none) (F.trcOwnHeld.reg n) n F.trcOwnOwner F.trcOwnHeld) ∧
  OwnerRow (fun id h => .twb2OwnWrite id h none) F.twb2OwnHeld.reg 0 F.twb2OwnOwner F.twb2OwnHeld ∧
  ∀ n : Fin 8, OwnerRow (fun id h => .tmrOwnWrite id n h none) (F.tmrOwnHeld.reg n) n F.tmrOwnOwner F.tmrOwnHeld

/-- What R480 asks of an owner register on one edge: of two claims of a free resource the lower initiator ID wins, whichever write is named first, and the other finds it held; a release and a claim are taken in that order. -/
def RivalRow (mk : Id → Bool → Option (Id × Bool) → Instr) (reg n : Nat) (owner held : Fam) : Prop :=
  ∀ (a b : Id) (s : State), s.sound = true → Reaches a reg .write s → Reaches b reg .write s → a ≠ b →
    (s.b1 held n = false →
      ∃ t, exec (mk a true (some (b, true))) s = .next t ∧ t.b1 held n = true ∧ t.g1 owner n = min a.val b.val ∧
        t.resp.code = if a < b then .ok else .busy) ∧
    (s.b1 held n = true → s.g1 owner n = a →
      ∃ t, exec (mk a false (some (b, true))) s = .next t ∧ t.b1 held n = true ∧ t.g1 owner n = b ∧ t.resp.code = .ok)

/-- R480 for the timers, the trace buffers and the second two-wire port, and R74 for a free GP pin: of two claims on one edge the function of the higher class wins, and within a class the lower initiator ID. -/
def RivalClaimsRule : Prop :=
  (∀ n : Fin 8, RivalRow (fun id h r => .tmrOwnWrite id n h r) (F.tmrOwnHeld.reg n) n F.tmrOwnOwner F.tmrOwnHeld) ∧
  (∀ n : Fin 4, RivalRow (fun id h r => .trcOwnWrite id n h r) (F.trcOwnHeld.reg n) n F.trcOwnOwner F.trcOwnHeld) ∧
  RivalRow (fun id h r => .twb2OwnWrite id h r) F.twb2OwnHeld.reg 0 F.twb2OwnOwner F.twb2OwnHeld ∧
  ∀ (n : Fin 24) (a b : Id) (v w : Word) (s : State), s.sound = true → Reaches a (F.sysGpFunc.reg n) .write s →
    Reaches b (F.sysGpFunc.reg n) .write s → a ≠ b → s.b1 F.sysGpHeld n = false →
    v.toNat.testBit 16 = true → w.toNat.testBit 16 = true → v.toNat / 4 % 4 ≠ 3 → w.toNat / 4 % 4 ≠ 3 →
    gpFuncOk n (v.toNat % 4) = true → gpFuncOk n (w.toNat % 4) = true →
    gpNeedsClaim n (v.toNat % 4) a s = false → gpNeedsClaim n (w.toNat % 4) b s = false →
    let ra := gpRank n (v.toNat % 4)
    let rb := gpRank n (w.toNat % 4)
    let first : Prop := rb < ra ∨ (ra = rb ∧ a.val < b.val)
    ∃ t, exec (.sysGpWrite a n v (some (b, w))) s = .next t ∧
      (first → t.g1 F.sysGpOwner n = a.val ∧ t.g1 F.sysGpFunc n = v.toNat % 4 ∧ t.resp.code = .ok) ∧
      (¬ first → t.g1 F.sysGpOwner n = b.val ∧ t.g1 F.sysGpFunc n = w.toNat % 4 ∧ t.resp.code = .busy)

/-! ### Timers -/

/-- Timers: at TOP the count wraps to 0 and WRAPF is set, with CMPF where CMP is 0; a count that equals CMP sets CMPF; an edge of the selected direction on the timer's pin copies the count to CAP, and CAPOVR records a capture not yet seen. Each raises the timer's line. A command whose conditions do not hold leaves the state as it is: the model's choice, log 5. -/
def Obligations.TimerEvents : Prop :=
  ∀ (n : Fin 8) (rising : Bool) (s : State), awake s = true →
    (s.b1 F.tmrCfgEn n = true → s.g1 F.tmrCntCnt n = s.g1 F.tmrTopTop n →
      exec (.timerWrap n) s =
        let u := s.p1 F.tmrCntCnt n 0
        let u := if s.g1 F.tmrCmpCmp n = 0 then u.p1 F.tmrStatCmpf n 1 else u
        .next (raiseLine (46 + n) (u.p1 F.tmrStatWrapf n 1))) ∧
    (s.b1 F.tmrCfgEn n = true → s.g1 F.tmrCntCnt n = s.g1 F.tmrCmpCmp n →
      exec (.timerCompare n) s = .next (raiseLine (46 + n) (s.p1 F.tmrStatCmpf n 1))) ∧
    (tmrPinned n s = true → s.g1 F.tmrCfgMode n = (if rising then 2 else 3) → s.b1 F.tmrStatCapf n = false →
      s.sound = true →
      exec (.timerCapture n rising) s =
        .next (raiseLine (46 + n) ((s.p1 F.tmrCapCap n (s.g1 F.tmrCntCnt n)).p1 F.tmrStatCapf n 1))) ∧
    (tmrPinned n s = true → s.g1 F.tmrCfgMode n = (if rising then 2 else 3) → s.b1 F.tmrStatCapf n = true →
      s.sound = true →
      exec (.timerCapture n rising) s =
        .next (raiseLine (46 + n)
          (((s.p1 F.tmrCapCap n (s.g1 F.tmrCntCnt n)).p1 F.tmrStatCapovr n 1).p1 F.tmrStatCapf n 1))) ∧
    (s.b1 F.tmrCfgEn n = false → exec (.timerWrap n) s = .next s ∧ exec (.timerCompare n) s = .next s)

/-! ### String time -/

/-- The crystal: a qualified crystal sets XTOK and is the reference where SRC selects it; its loss clears XTOK, and while it is the reference also sets XT_LOST and is a fault event of source STM. -/
def CrystalEventsRule : Prop :=
  ∀ s : State, awake s = true →
    (s.b F.stmClkSrc = true → exec .xtalQualified s = .next ((s.p F.stmClkXtok 1).p F.stmClkAct 1)) ∧
    (s.b F.stmClkSrc = false → exec .xtalQualified s = .next (s.p F.stmClkXtok 1)) ∧
    (s.b F.stmClkAct = true →
      exec .xtalLost s =
        .next (faultEvent 0 (((s.p F.stmClkXtok 0).p F.stmClkAct 0).p F.stmStatXtLost 1))) ∧
    (s.b F.stmClkAct = false → exec .xtalLost s = .next (s.p F.stmClkXtok 0))

/-- String time's registers: STM_INC takes a value in FREE only; STM_SETC waits for a boundary unless a beacon rules the count; a read of STM_NOWC answers the presented cycle and leaves the reader a snapshot of the stamp. -/
def StmRegistersRule : Prop :=
  ∀ (id : Id) (v : Word) (s : State),
    (Reaches id F.stmIncInc.reg .write s →
      (s.g F.stmStatState = 0 →
        exec (.stmIncWrite id v) s =
          .next ({ s.p F.stmIncInc v.toNat with stm := { s.stm with incFilt := v.toNat } }.answer .ok)) ∧
      (s.g F.stmStatState ≠ 0 → exec (.stmIncWrite id v) s = .next (s.answer .denied))) ∧
    (Reaches id F.stmSetcCycle.reg .write s →
      let ruled := 2 ≤ s.g F.stmStatState ∧
        (s.g F.stmCfgSrc = 2 ∨ s.g F.stmCfgSrc = 1 ∧ s.b F.stmCfgAdopt = true)
      (ruled → exec (.stmSetcWrite id v) s = .next (s.answer .denied)) ∧
      (¬ ruled → exec (.stmSetcWrite id v) s =
        .next (({ s with stm := { s.stm with setc := some v.toNat } } : State).answer .ok))) ∧
    (Reaches id F.stmNowcCycle.reg .read s →
      exec (.stmNowcRead id) s =
        .next (({ s with stm := { s.stm with snap := Tab.put 0 s.stm.snap id (s.stm.acc.toNat / 2 ^ 16) } } : State).answer
          .ok (s.stm.acc.toNat / 2 ^ 48)))

/-- Reference events. A crossing is used only when ripple is the source, outside FREE, with an amplitude of at least MINAMP and results that arrive. The first one in ACQUIRE starts the four; in LOCKED one that lies within UNLOCK_PH clears the counts of missing and outlying events and its error is corrected by the loop, and one whose interval lies outside ±4 % sets REF_RANGE and counts as missing. An expected event that is late clears REFOK, and the last of MISS_N in LOCKED ends in HOLDOVER. A HOLDOVER longer than its limit ends in FREE with HOLD_EXP and a fault event. -/
def ReferenceEventsRule : Prop :=
  (∀ (ago amp : Nat) (s : State), awake s = true →
    (s.g F.stmCfgSrc ≠ 1 ∨ s.g F.stmStatState = 0 ∨ amp < s.g F.stmRippleMinamp ∨ sisFresh s = false) →
    exec (.rippleReferenceEvent ago amp) s = .next s) ∧
  (∀ (ago amp : Nat) (s : State), awake s = true → s.sound = true → s.g F.stmCfgSrc = 1 → s.g F.stmStatState = 1 →
    s.g F.stmRippleMinamp ≤ amp → sisFresh s = true →
    s.stm.lastRef = none → s.stm.acqStep = 1 → s.stm.acqN = 0 →
    ∃ t, exec (.rippleReferenceEvent ago amp) s = .next t ∧ t.g F.stmStatRefok = 1 ∧ t.stm.lastRef = some (s.stm.sclk - ago) ∧
      t.stm.acqN = 1 ∧ t.stm.acqFirst = s.stm.sclk - ago ∧ t.stm.acc = s.stm.acc ∧ t.mem = s.mem) ∧
  (∀ (ago amp r : Nat) (s : State), awake s = true → s.sound = true → s.g F.stmCfgSrc = 1 → s.g F.stmStatState = 2 →
    s.g F.stmRippleMinamp ≤ amp → sisFresh s = true → s.stm.lastRef = some r →
    (let gap := s.stm.sclk - ago - r;
      2 * gap < 3 * nomCycle s ∧ 96 * nomCycle s ≤ 100 * gap ∧ 100 * gap ≤ 104 * nomCycle s) →
    within (phaseError (accAt ago s)) (s.g F.stmThrUnlockPh) = true →
    ∃ t, exec (.rippleReferenceEvent ago amp) s = .next t ∧ t.g F.stmStatRefok = 1 ∧ t.g F.stmStatState = 2 ∧
      t.stm.lastRef = some (s.stm.sclk - ago) ∧ t.stm.missRun = 0 ∧ t.stm.outRun = 0 ∧ t.stm.acc = s.stm.acc ∧ t.mem = s.mem) ∧
  (∀ (ago amp r : Nat) (s : State), awake s = true → s.sound = true → s.g F.stmCfgSrc = 1 → s.g F.stmStatState = 2 →
    s.g F.stmRippleMinamp ≤ amp → sisFresh s = true →
    s.stm.lastRef = some r → s.stm.missRun + 1 < s.g F.stmThrMissN →
    (let gap := s.stm.sclk - ago - r
      let n := max 1 ((2 * gap + nomCycle s) / (2 * nomCycle s))
      100 * gap < 96 * n * nomCycle s ∨ 104 * n * nomCycle s < 100 * gap) →
    ∃ t, exec (.rippleReferenceEvent ago amp) s = .next t ∧ t.g F.stmStatRefRange = 1 ∧ t.g F.stmStatRefok = 0 ∧
      t.stm.missRun = s.stm.missRun + 1 ∧ t.stm.lastRef = some r ∧ t.stm.acc = s.stm.acc ∧ t.mem = s.mem) ∧
  (∀ (r : Nat) (s : State), awake s = true → s.sound = true → s.stm.lastRef = some r → s.g F.stmStatState = 2 →
    (5 + 4 * s.stm.missed) * (if s.g F.stmCfgSrc = 2 then 4 * nomCycle s else nomCycle s) < 4 * (s.stm.sclk - r) →
    ∃ t, exec .referenceMissing s = .next t ∧ t.g F.stmStatRefok = 0 ∧ t.stm.missed = s.stm.missed + 1 ∧
      t.stm.acc = s.stm.acc ∧ t.mem = s.mem ∧
      (s.stm.missRun + 1 < s.g F.stmThrMissN → t.g F.stmStatState = 2 ∧ t.stm.missRun = s.stm.missRun + 1) ∧
      (s.g F.stmThrMissN ≤ s.stm.missRun + 1 → t.g F.stmStatState = 3 ∧ t.g F.stmStatStchg = 1)) ∧
  (∀ s : State, awake s = true → s.g F.stmStatState = 3 → s.g F.stmHoldLimit < s.g F.stmPherrHcnt →
    exec .holdoverExpiry s = .next (faultEvent 0 ((setStmState 0 s).p F.stmStatHoldExp 1))) ∧
  ∀ s : State, awake s = true → s.g F.stmStatState ≠ 3 → exec .holdoverExpiry s = .next s

/-- Where no event falls due on the way, a cycle boundary comes after the least number of edges whose increments carry the phase past the end of the cycle, and its edge's own effects happen: the cycle number moves on by one and STM_CYCLE is raised. With an increment of 0 no boundary comes. The next scheduled event comes on the edge its stamp names, and only before the next boundary; one already reached fires at once. -/
def TimeJumpsRule : Prop :=
  (∀ (n : Nat) (s : State), awake s = true → edgesToBoundary s = some n → nextStop s = some n → (stops s).contains 0 = false →
    exec .cycleBoundary s = .next (sclkEdge (advance (n - 1) s)) ∧
    (s.stm.pause = 0 → s.stm.slew = 0 →
      0 < n ∧ 2 ^ 48 ≤ s.stm.acc.toNat % 2 ^ 48 + n * s.g F.stmIncInc ∧
      s.stm.acc.toNat % 2 ^ 48 + (n - 1) * s.g F.stmIncInc < 2 ^ 48)) ∧
  (∀ (n : Nat) (s : State), s.sound = true → awake s = true → edgesToBoundary s = some n → nextStop s = some n →
    (stops s).contains 0 = false → s.stm.pause = 0 → s.stm.slew = 0 → s.stm.setc = none → s.b F.sysWdtctlEn = false →
    s.g F.stmIncInc < 2 ^ 32 → waitersOn (WaitFor.onLine 0 false) s = [] → waitersOn (WaitFor.onLine 0 true) s = [] →
    ∃ t, exec .cycleBoundary s = .next t ∧ t.stm.acc = s.stm.acc + BitVec.ofNat 80 (n * s.g F.stmIncInc) ∧
      t.stm.acc.toNat / 2 ^ 48 = (s.stm.acc.toNat / 2 ^ 48 + 1) % 2 ^ 32 ∧ t.seq.latch.getLsbD 0 = true) ∧
  (∀ s : State, awake s = true → s.stm.slew = 0 → s.g F.stmIncInc = 0 → exec .cycleBoundary s = .next s) ∧
  (∀ (n : Nat) (s : State), awake s = true → edgesToEvent s = some n →
    (n = 0 → exec .scheduledEventFire s = .next (fireDue s)) ∧
    (0 < n → nextStop s = some n → (stops s).contains 0 = false →
      exec .scheduledEventFire s = .next (sclkEdge (advance (n - 1) s))) ∧
    ∃ b, edgesToBoundary s = some b ∧ n < b) ∧
  ∀ s : State, awake s = true → armedStamps s = [] → exec .scheduledEventFire s = .next s

/-! ### The frond engine -/

/-- The engine issues an instruction of context `c` (R136), its fetch at the PC answers the word `w` and changes nothing, `w` is of row `r`, and neither URG_OVERRUN nor ILLEGAL nor PARITY stands in its way (R137, R148, R156, R157). -/
def LelasReady (r : LelasRow) (c : Sys2Proof.Ctx) (w : Nat) (s : State) : Prop :=
  s.sound = true ∧ lelasTurn c s = true ∧ ctxFetch c s = (.ok, w, s) ∧ r.names w = true ∧ lelasFault r w c s = none

/-- An instruction of context `c` touches the frond engine only: no other context, no pending latch, no memory, no register of a block and nothing of another engine. -/
def LelasFrame (c : Sys2Proof.Ctx) (s t : State) : Prop :=
  t = { s with seq := t.seq } ∧ t.seq.latch = s.seq.latch ∧ ∀ d, d ≠ c.val → t.ctx d = s.ctx d

/-- No general register of any context changes. -/
def SameGr (s t : State) : Prop := ∀ d r, t.gr d r = s.gr d r

/-- Context `c` writes register `rd` and nothing else of its register file, and moves on to the next instruction. -/
def LelasWrites (c : Sys2Proof.Ctx) (rd : Nat) (v : Word) (s t : State) : Prop :=
  t.gr c rd = v ∧ (∀ d r, 16 * d + r ≠ 16 * c.val + rd → t.gr d r = s.gr d r) ∧
    (t.ctx c).pc = ((s.ctx c).pc + 4) % 2 ^ 32 ∧ (t.ctx c).st = .ready ∧ (t.ctx c).stack = (s.ctx c).stack ∧
    (t.ctx c).held = (s.ctx c).held ∧ LelasFrame c s t

/-- The register forms of R161, by FUNC: what g[d] takes from g[a] and g[b]. -/
def lelasRegForms : List ((Sys2Proof.Ctx → Instr) × Nat × (Word → Word → Word)) :=
  [(.lelasAdd, 0x0, fun a b => a + b), (.lelasSub, 0x1, fun a b => a - b), (.lelasAnd, 0x2, fun a b => a &&& b),
    (.lelasOr, 0x3, fun a b => a ||| b), (.lelasXor, 0x4, fun a b => a ^^^ b),
    (.lelasShl, 0x5, fun a b => a <<< (b.toNat % 32)), (.lelasShr, 0x6, fun a b => a >>> (b.toNat % 32)),
    (.lelasSar, 0x7, fun a b => BitVec.ofInt 32 (a.toInt / 2 ^ (b.toNat % 32))), (.lelasMul, 0x8, fun a b => a * b),
    (.lelasMulhs, 0x9, fun a b => BitVec.ofInt 32 (a.toInt * b.toInt / 2 ^ 32)),
    (.lelasMulhu, 0xA, fun a b => BitVec.ofNat 32 (a.toNat * b.toNat / 2 ^ 32)),
    (.lelasSlt, 0xB, fun a b => if a.toInt < b.toInt then 1 else 0),
    (.lelasSltu, 0xC, fun a b => if a.toNat < b.toNat then 1 else 0), (.lelasSeq, 0xD, fun a b => if a = b then 1 else 0),
    (.lelasMins, 0xE, fun a b => if a.toInt < b.toInt then a else b),
    (.lelasMaxs, 0xF, fun a b => if a.toInt < b.toInt then b else a)]

/-- R161: each register form writes its result to g[d], and changes nothing else but the PC. -/
def Obligations.LelasRegisterForms : Prop :=
  ∀ e ∈ lelasRegForms, ∀ (c : Sys2Proof.Ctx) (w : Nat) (s : State), LelasReady (rowAlu e.2.1) c w s →
    ∃ t, exec (e.1 c) s = .next t ∧
      LelasWrites c (lwRd w) (e.2.2 (s.gr c (lwRa w)) (s.gr c (lwRb w))) s t

/-- The immediate forms of R162, by OP and the bits that must be zero: what g[d] takes from g[a] and IMM. -/
def lelasImmForms : List ((Sys2Proof.Ctx → Instr) × LelasRow × (Word → BitVec 18 → Word)) :=
  [(.lelasAddi, rowImm 0x02 0, fun a i => a + i.signExtend 32), (.lelasAndi, rowImm 0x03 0, fun a i => a &&& i.setWidth 32),
    (.lelasOri, rowImm 0x04 0, fun a i => a ||| i.setWidth 32), (.lelasXori, rowImm 0x05 0, fun a i => a ^^^ i.setWidth 32),
    (.lelasShli, rowImm 0x06 0x3FFE0, fun a i => a <<< (i.toNat % 32)),
    (.lelasShri, rowImm 0x07 0x3FFE0, fun a i => a >>> (i.toNat % 32)),
    (.lelasSari, rowImm 0x08 0x3FFE0, fun a i => BitVec.ofInt 32 (a.toInt / 2 ^ (i.toNat % 32))),
    (.lelasSlti, rowImm 0x09 0, fun a i => if a.toInt < i.toInt then 1 else 0),
    (.lelasSltui, rowImm 0x0A 0, fun a i => if a.toNat < i.toNat then 1 else 0),
    (.lelasSeqi, rowImm 0x0B 0, fun a i => if a = i.signExtend 32 then 1 else 0),
    (.lelasLui, rowConst 0x0C, fun _ i => BitVec.ofNat 32 (i.toNat * 2 ^ 14)), (.lelasLi, rowConst 0x0D, fun _ i => i.signExtend 32)]

/-- R162: each immediate form writes its result to g[d], and changes nothing else but the PC. -/
def Obligations.LelasImmediateForms : Prop :=
  ∀ e ∈ lelasImmForms, ∀ (c : Sys2Proof.Ctx) (w : Nat) (s : State), LelasReady e.2.1 c w s →
    ∃ t, exec (e.1 c) s = .next t ∧ LelasWrites c (lwRd w) (e.2.2 (s.gr c (lwRa w)) (lwImm w)) s t

/-- The loads and stores of R163, by row: the access that leaves the context, from g[d] and g[d+1]. -/
def lelasAccesses : List ((Sys2Proof.Ctx → Instr) × LelasRow × (Word → Word → MemOp)) :=
  [(.lelasLdw, rowLoad 0x10 false, fun _ _ => .load 4 false), (.lelasLdhu, rowLoad 0x11 false, fun _ _ => .load 2 false),
    (.lelasLdbu, rowLoad 0x12 false, fun _ _ => .load 1 false), (.lelasLdhs, rowLoad 0x13 false, fun _ _ => .load 2 true),
    (.lelasLdbs, rowLoad 0x14 false, fun _ _ => .load 1 true), (.lelasLdd, rowLoad 0x15 true, fun _ _ => .loadPair),
    (.lelasLdwc, rowLoad 0x16 true, fun _ _ => .loadChecked),
    (.lelasStw, rowStore 0x18 false, fun d _ => .store 4 d.toNat),
    (.lelasSth, rowStore 0x19 false, fun d _ => .store 2 (d.toNat % 2 ^ 16)),
    (.lelasStb, rowStore 0x1A false, fun d _ => .store 1 (d.toNat % 2 ^ 8)),
    (.lelasStd, rowStd, fun d e => .store 8 (d.toNat + e.toNat * 2 ^ 32)),
    (.lelasStwc, rowStore 0x1C true, fun d _ => .storeChecked d.toNat)]

/-- R163, R164: a load or store sends its access to g[a] plus the signed IMM, reading every source at issue, and holds the context in RUN; no register, no byte and no other context changes until the access completes. -/
def LelasAccessIssueRule : Prop :=
  ∀ e ∈ lelasAccesses, ∀ (c : Sys2Proof.Ctx) (w : Nat) (s : State), LelasReady e.2.1 c w s →
    ∃ t, exec (e.1 c) s = .next t ∧ (t.ctx c).st = .run ∧ (t.ctx c).pc = (s.ctx c).pc ∧
      (t.ctx c).infl.map (fun f => (f.op, f.addr, f.rd)) =
        some (e.2.2 (s.gr c (lwRd w)) (s.gr c (lwRd w + 1)),
          (s.gr c (lwRa w) + (lwImm w).signExtend 32).toNat, lwRd w) ∧
      SameGr s t ∧ LelasFrame c s t

/-- Context `c` writes a register pair, `rd` and the next, and moves on to the next instruction. -/
def LelasPair (c : Sys2Proof.Ctx) (rd : Nat) (v v1 : Word) (s t : State) : Prop :=
  t.gr c rd = v ∧ t.gr c (rd + 1) = v1 ∧
    (∀ d r, 16 * d + r ≠ 16 * c.val + rd → 16 * d + r ≠ 16 * c.val + rd + 1 → t.gr d r = s.gr d r) ∧
    (t.ctx c).pc = ((s.ctx c).pc + 4) % 2 ^ 32 ∧ (t.ctx c).st = .ready ∧ LelasFrame c s t

/-- A store of context `c` has taken effect: its bytes hold the value, lowest first, and no other byte changes; the context moves on. -/
def LelasStores (c : Sys2Proof.Ctx) (a n v : Nat) (s t : State) : Prop :=
  (∀ k < n, t.byte (a + k) = BitVec.ofNat 8 (v / 256 ^ k)) ∧ (∀ b, b < a ∨ a + n ≤ b → t.byte b = s.byte b) ∧
    (t.ctx c).pc = ((s.ctx c).pc + 4) % 2 ^ 32 ∧ (t.ctx c).st = .ready ∧
    t = { s with seq := t.seq, mem := t.mem, sramGood := t.sramGood, sramOne := t.sramOne }

/-- The retirement of an access to verified SRAM: a load's register takes the bytes at the address, lowest first and extended as the instruction says, and LDD's pair the two words; a store's bytes, and no others, take the value. LDWC and STWC also answer the completion code OK. -/
def LelasAccessRetiresRule : Prop :=
  ∀ (c : Sys2Proof.Ctx) (f : InFlight) (n : Nat) (s : State), s.sound = true → awake s = true → (s.ctx c).st = .run →
    (s.ctx c).infl = some f → (s.ctx c).stop = false → accessTurn c f s = true → f.addr < 0x100000 → f.addr % n = 0 →
    n ∈ [1, 2, 4, 8] → domUp (domainOf f.addr) s = true → NSet.has s.sramGood (f.addr / 8) = true →
    NSet.has s.sramOne (f.addr / 8) = false →
    let word := fun k => BitVec.ofNat 32 (s.bytesLE f.addr n / 2 ^ (32 * k))
    (∀ sg, f.op = .load n sg → granted (ctxId c s) f.addr .read s = true →
      ∃ t, exec (.instructionRetire c none) s = .next t ∧ LelasWrites c f.rd (loadExt n sg (s.bytesLE f.addr n)) s t) ∧
    (f.op = .loadPair → n = 8 → granted (ctxId c s) f.addr .read s = true →
      ∃ t, exec (.instructionRetire c none) s = .next t ∧ LelasPair c f.rd (word 0) (word 1) s t) ∧
    (f.op = .loadChecked → n = 4 → granted (ctxId c s) f.addr .read s = true →
      ∃ t, exec (.instructionRetire c none) s = .next t ∧ LelasPair c f.rd (word 0) 0 s t) ∧
    (∀ v, f.op = .store n v → granted (ctxId c s) f.addr .write s = true →
      ∃ t, exec (.instructionRetire c none) s = .next t ∧ SameGr s t ∧ (t.ctx c).infl = none ∧ LelasStores c f.addr n v s t) ∧
    (∀ v, f.op = .storeChecked v → n = 4 → granted (ctxId c s) f.addr .write s = true →
      ∃ t, exec (.instructionRetire c none) s = .next t ∧ t.gr c (f.rd + 1) = 0 ∧ LelasStores c f.addr n v s t ∧
        ∀ d r, 16 * d + r ≠ 16 * c.val + (f.rd + 1) → t.gr d r = s.gr d r)

/-- The conditions of R166's branches, by OP. -/
def lelasBranches : List ((Sys2Proof.Ctx → Instr) × Nat × (Word → Word → Bool)) :=
  [(.lelasBeq, 0x20, fun a b => a = b), (.lelasBne, 0x21, fun a b => a ≠ b),
    (.lelasBlt, 0x22, fun a b => a.toInt < b.toInt), (.lelasBge, 0x23, fun a b => b.toInt ≤ a.toInt),
    (.lelasBltu, 0x24, fun a b => a.toNat < b.toNat), (.lelasBgeu, 0x25, fun a b => b.toNat ≤ a.toNat)]

/-- A transfer of context `c` to `pc` with return stack `st`, which changes no register. -/
def LelasGoes (c : Sys2Proof.Ctx) (pc : Nat) (st : List Nat) (s t : State) : Prop :=
  (t.ctx c).pc = pc ∧ (t.ctx c).stack = st ∧ (t.ctx c).st = .ready ∧ SameGr s t ∧ LelasFrame c s t

/-- Control flow: a branch whose condition holds moves the PC by four times the signed OFF, and otherwise falls through; JMP and JR go to their target; CALL and CALLR also push the return address and RET pops it. -/
def Obligations.LelasControlFlow : Prop :=
  (∀ e ∈ lelasBranches, ∀ (c : Sys2Proof.Ctx) (w : Nat) (s : State), LelasReady (rowBranch e.2.1) c w s →
    ∃ t, exec (e.1 c) s = .next t ∧
      LelasGoes c (if e.2.2 (s.gr c (lwBa w)) (s.gr c (lwBb w))
        then (BitVec.ofNat 32 (s.ctx c).pc + 4 * (lwImm w).signExtend 32).toNat
        else ((s.ctx c).pc + 4) % 2 ^ 32) (s.ctx c).stack s t) ∧
  ∀ (c : Sys2Proof.Ctx) (w : Nat) (s : State),
    let back := ((s.ctx c).pc + 4) % 2 ^ 32
    (LelasReady { op := 0x26 } c w s →
      ∃ t, exec (.lelasJmp c) s = .next t ∧ LelasGoes c (4 * lwTgt w) (s.ctx c).stack s t) ∧
    (LelasReady { op := 0x27 } c w s → (s.ctx c).stack.length < 8 →
      ∃ t, exec (.lelasCall c) s = .next t ∧ LelasGoes c (4 * lwTgt w) (back :: (s.ctx c).stack) s t) ∧
    (LelasReady (rowReg 0x28) c w s →
      ∃ t, exec (.lelasJr c) s = .next t ∧ LelasGoes c (s.gr c (lwRa w)).toNat (s.ctx c).stack s t) ∧
    (LelasReady (rowReg 0x29) c w s → (s.ctx c).stack.length < 8 →
      ∃ t, exec (.lelasCallr c) s = .next t ∧ LelasGoes c (s.gr c (lwRa w)).toNat (back :: (s.ctx c).stack) s t) ∧
    (∀ a rest, LelasReady { op := 0x2A, zero := 0x3FFFFFF } c w s → (s.ctx c).stack = a :: rest → a < 2 ^ 32 →
      ∃ t, exec (.lelasRet c) s = .next t ∧ LelasGoes c a rest s t)

/-- Context `c` takes fault `cause` with code `code`: it is in FAULT with the record of R148, SEQ_FLTCTX and SEQ_STAT.FAULT are set, and no general register changes. -/
def LelasFaults (c : Sys2Proof.Ctx) (cause code : Nat) (s t : State) : Prop :=
  (t.ctx c).st = .fault ∧ (t.ctx c).cause = cause ∧ (t.ctx c).code = code ∧ (t.ctx c).fpc = (s.ctx c).pc ∧
    t.g F.seqFltctxCtx = c.val ∧ t.g F.seqFltctxCause = cause ∧ t.g F.seqFltctxCode = code ∧
    t.g F.seqStatFault = 1 ∧ SameGr s t

/-- The faults of R148 that an issue can take: an encoding that breaks R156 or R157 is ILLEGAL; a ninth call and a return with an empty stack are STACK_OVER and STACK_UNDER; TRAP with a code other than 0 faults with it, and TRAP 0 halts the context at the next instruction. -/
def LelasTrapsRule : Prop :=
  ∀ (c : Sys2Proof.Ctx) (w : Nat) (s : State), s.sound = true →
    s.seq.ctxs.all (fun e => e.2.st ≠ .wait) = true → s.jnl.live.all (fun e => e.lease.isNone) = true →
    (lelasTurn c s = true → ctxFetch c s = (.ok, w, s) → urgSpent c s = false → lwOp w = 0x01 → lwFunc w = 0x0 →
      w &&& 0x3FF0 ≠ 0 → ∃ t, exec (.lelasAdd c) s = .next t ∧ LelasFaults c 0x01 0 s t) ∧
    (LelasReady { op := 0x27 } c w s → (s.ctx c).stack.length = 8 →
      ∃ t, exec (.lelasCall c) s = .next t ∧ LelasFaults c 0x04 0 s t) ∧
    (LelasReady { op := 0x2A, zero := 0x3FFFFFF } c w s → (s.ctx c).stack = [] →
      ∃ t, exec (.lelasRet c) s = .next t ∧ LelasFaults c 0x05 0 s t) ∧
    (LelasReady { op := 0x3F, zero := 0x3FFFF00 } c w s → lwK w % 256 ≠ 0 →
      ∃ t, exec (.lelasTrap c) s = .next t ∧ LelasFaults c 0x07 (lwK w % 256) s t) ∧
    (LelasReady { op := 0x3F, zero := 0x3FFFF00 } c w s → lwK w % 256 = 0 →
      ∃ t, exec (.lelasTrap c) s = .next t ∧ (t.ctx c).st = .halt ∧ (t.ctx c).pc = ((s.ctx c).pc + 4) % 2 ^ 32 ∧ SameGr s t)

/-- The rows of R167 that read string time and the context itself, and SIGNAL: TIME answers cycle, phase and fraction in a register pair; SELF answers number, domain and priorities; SIGNAL raises its line after it retires, and a line below 64 is ILLEGAL. -/
def LelasTimeSelfSignalRule : Prop :=
  ∀ (c : Sys2Proof.Ctx) (w : Nat) (s : State),
    (LelasReady { op := 0x35, zero := 0x3FFFFF, even := true } c w s →
      ∃ t, exec (.lelasTime c) s = .next t ∧ t.gr c (lwRd w) = BitVec.ofNat 32 (s.stm.acc.toNat / 2 ^ 48) ∧
        t.gr c (lwRd w + 1) = BitVec.ofNat 32 (s.stm.acc.toNat / 2 ^ 16) ∧
        (t.ctx c).pc = ((s.ctx c).pc + 4) % 2 ^ 32 ∧ (t.ctx c).st = .ready ∧ LelasFrame c s t) ∧
    (LelasReady { op := 0x36, zero := 0x3FFFFF } c w s →
      ∃ t, exec (.lelasSelf c) s = .next t ∧
        LelasWrites c (lwRd w) (BitVec.ofNat 32 (c.val + (s.ctx c).dom * 2 ^ 12 + (s.ctx c).pri * 2 ^ 16 + epri s c * 2 ^ 20)) s t) ∧
    (LelasReady { op := 0x32, zero := 0x3FF00FF } c w s → 64 ≤ lwK w / 256 →
      s.seq.ctxs.all (fun e => e.2.st ≠ .wait) = true →
      ∃ t, exec (.lelasSignal c) s = .next t ∧ t.seq.latch = s.seq.latch ||| (1#256 <<< (lwK w / 256)) ∧ SameGr s t ∧
        (t.ctx c).pc = ((s.ctx c).pc + 4) % 2 ^ 32 ∧ (t.ctx c).st = .ready ∧ t = { s with seq := t.seq })

/-- Context `c`'s wait has ended with TIMEOUT: the code is in its register, and it moves on to the next instruction. -/
def TimedOut (c : Sys2Proof.Ctx) (rd : Nat) (s t : State) : Prop :=
  t.gr c rd = BitVec.ofNat 32 Code.timeout.num ∧ (t.ctx c).st = .ready ∧ (t.ctx c).wait = none ∧
    (t.ctx c).pc = ((s.ctx c).pc + 4) % 2 ^ 32

/-- Waits: a LATCH wait takes a pending latch at once and clears it; a timeout of 0 tests only; any other wait puts the context in WAIT, with a timeout of 192 SCLK a step from its issue. WAITT on a stamp that is due answers the lateness, and otherwise waits for it. The edge on which the timeout of a WAIT, SEMA or JTAKE elapses, if nothing of that edge ends the wait, answers TIMEOUT and moves the context on; JTAKE answers entry 0. -/
def LelasWaitsRule : Prop :=
  ∀ (c : Sys2Proof.Ctx) (w : Nat) (s : State),
    let line := lwK w / 256
    let latch := decide (lwX w % 2 = 1)
    let us := (s.gr c (lwRa w)).toNat % 2 ^ 16
    let stamp := (s.gr c (lwRa w)).toNat * 2 ^ 16 + (s.gr c (lwRb w)).toNat / 2 ^ 16
    (LelasReady { op := 0x30, zero := 0x200FF, src := fun w => [lwRa w] } c w s →
      (latch = true → s.seq.latch.getLsbD line = true →
        ∃ t, exec (.lelasWait c) s = .next t ∧ t.gr c (lwRd w) = 0 ∧ t.seq.latch.getLsbD line = false ∧
          (∀ l, l ≠ line → t.seq.latch.getLsbD l = s.seq.latch.getLsbD l) ∧
          (t.ctx c).pc = ((s.ctx c).pc + 4) % 2 ^ 32 ∧ (t.ctx c).st = .ready ∧ t = { s with seq := t.seq }) ∧
      ((latch = false ∨ s.seq.latch.getLsbD line = false) → us = 0 →
        ∃ t, exec (.lelasWait c) s = .next t ∧ LelasWrites c (lwRd w) (BitVec.ofNat 32 Code.timeout.num) s t) ∧
      ((latch = false ∨ s.seq.latch.getLsbD line = false) → us ≠ 0 →
        ∃ t, exec (.lelasWait c) s = .next t ∧ (t.ctx c).st = .wait ∧ (t.ctx c).wait = some (.event line latch (lwRd w) (s.stm.sclk + 192 * us)) ∧
          SameGr s t ∧ LelasFrame c s t)) ∧
    (LelasReady { op := 0x31, zero := 0x3FFF, src := fun w => [lwRa w, lwRb w] } c w s →
      (stampDue stamp (stampNow s) = true →
        ∃ t, exec (.lelasWaitt c) s = .next t ∧
          LelasWrites c (lwRd w) (BitVec.ofNat 32 (min ((stampNow s + 2 ^ 48 - stamp % 2 ^ 48) % 2 ^ 48) 65535)) s t) ∧
      (stampDue stamp (stampNow s) = false →
        ∃ t, exec (.lelasWaitt c) s = .next t ∧ (t.ctx c).st = .wait ∧ (t.ctx c).wait = some (.time stamp (lwRd w)) ∧
          SameGr s t ∧ LelasFrame c s t)) ∧
    ∀ n, clocked s = true → timeoutLeft c s = some n → nextStop s = some n → (stops s).contains 0 = false →
      let u := edgeWork (advance (n - 1) s)
      exec (.waitTimeout c) s = .next (timeouts u) ∧
      (u.sound = true → (u.ctx c).st = .wait → timeoutLeft c u = some 0 → (∀ d, d ≠ c.val → timeoutLeft d u ≠ some 0) →
        (∀ l m rd d, (u.ctx c).wait = some (.event l m rd d) → TimedOut c rd u (timeouts u)) ∧
        (∀ k rd d, (u.ctx c).wait = some (.sem k rd d) → TimedOut c rd u (timeouts u)) ∧
        (∀ k rd d, (u.ctx c).wait = some (.take k rd d) →
          TimedOut c rd u (timeouts u) ∧ (timeouts u).gr c (rd + 1) = 0))

/-- Ranked semaphores: SEMA takes a free semaphore whose rank is above every rank held, and answers OK; a held one is waited for, and with a timeout of 0 answers TIMEOUT. SEMR frees a semaphore the context holds when nobody waits, and answers INVALID for any other. -/
def LelasSemaphoresRule : Prop :=
  ∀ (c : Sys2Proof.Ctx) (w : Nat) (s : State),
    let n := lwK w % 64
    let rank := s.g1 F.seqSemRank n
    let us := (s.gr c (lwRa w)).toNat % 2 ^ 16
    s.seq.ctxs.all (fun e => e.2.st ≠ .wait && decide (e.2.urg = 0)) = true → epri s c < 3 → rank < 16 → (s.ctx c).held < 2 ^ 16 →
    (LelasReady { op := 0x33, zero := 0x3FFC0, src := fun w => [lwRa w] } c w s →
      ((s.ctx c).held / 2 ^ rank = 0 → s.b1 F.seqSemHeld n = false →
        ∃ t, exec (.lelasSema c) s = .next t ∧ t.gr c (lwRd w) = 0 ∧ t.b1 F.seqSemHeld n = true ∧
          t.g1 F.seqSemOwner n = c ∧ (t.ctx c).held = (s.ctx c).held ||| 2 ^ rank ∧ t.mem = s.mem ∧
          (t.ctx c).pc = ((s.ctx c).pc + 4) % 2 ^ 32) ∧
      ((s.ctx c).held / 2 ^ rank = 0 → s.b1 F.seqSemHeld n = true → us = 0 →
        ∃ t, exec (.lelasSema c) s = .next t ∧ LelasWrites c (lwRd w) (BitVec.ofNat 32 Code.timeout.num) s t) ∧
      ((s.ctx c).held / 2 ^ rank = 0 → s.b1 F.seqSemHeld n = true → us ≠ 0 →
        ∃ t, exec (.lelasSema c) s = .next t ∧ (t.ctx c).st = .wait ∧
          (t.ctx c).wait = some (.sem n (lwRd w) (s.stm.sclk + 192 * us)) ∧ SameGr s t ∧ LelasFrame c s t)) ∧
    (LelasReady { op := 0x34, zero := 0x3FFFC0 } c w s →
      (s.b1 F.seqSemHeld n = true → s.g1 F.seqSemOwner n = c →
        ∃ t, exec (.lelasSemr c) s = .next t ∧ t.gr c (lwRd w) = 0 ∧ t.b1 F.seqSemHeld n = false ∧
          (t.ctx c).held.testBit rank = false ∧ t.mem = s.mem ∧ (t.ctx c).pc = ((s.ctx c).pc + 4) % 2 ^ 32) ∧
      ((s.b1 F.seqSemHeld n = false ∨ s.g1 F.seqSemOwner n ≠ c) →
        ∃ t, exec (.lelasSemr c) s = .next t ∧ LelasWrites c (lwRd w) (BitVec.ofNat 32 Code.invalid.num) s t))

/-- A write to SEQ_SIGNAL naming a line of 64 or above raises it. -/
def SignalRaiseRule : Prop :=
  ∀ (id : Id) (line : Byte) (s : State), Reaches id F.seqSignalLine.reg .write s → 64 ≤ line.toNat →
    exec (.seqSignalWrite id line) s = .next ((raiseLine line.toNat s).answer .ok)

/-- Commands to a context through SEQ_CTXCMD, on the context the initiator has selected: START from HALT, STOP from READY or WAIT, CLEAR from FAULT; from any other state the command changes nothing and answers BUSY; a frond domain cannot command a context of another domain. SEQ_SIGNAL raises a line of 64 or above. -/
def Obligations.ContextCommands : Prop :=
  SignalRaiseRule ∧ ∀ (id : Id) (s : State), Reaches id F.seqCtxcmdCmd.reg .write s →
    let c := selOf id s
    (selForeign id s = true →
      exec (.ctxStart id) s = .next (s.answer .denied) ∧ exec (.ctxStop id) s = .next (s.answer .denied) ∧
      exec (.ctxClear id) s = .next (s.answer .denied)) ∧
    (selForeign id s = false →
      ((s.ctx c).st = .halt →
        exec (.ctxStart id) s = .next ((s.setCtx c { s.ctx c with st := .ready, urg := 0 }).answer .ok)) ∧
      ((s.ctx c).st ≠ .halt → exec (.ctxStart id) s = .next (s.answer .busy)) ∧
      ((s.ctx c).st = .fault →
        exec (.ctxClear id) s = .next ((s.setCtx c { s.ctx c with st := .halt, urg := 0 }).answer .ok)) ∧
      ((s.ctx c).st ≠ .fault → exec (.ctxClear id) s = .next (s.answer .busy)) ∧
      ((s.ctx c).st = .ready ∨ ((s.ctx c).st = .wait ∧ ∀ a r op, (s.ctx c).wait ≠ some (.write a r op)) →
        s.jnl.live.all (fun e => e.lease.isNone) = true → s.seq.ctxs.all (fun e => decide (e.2.urg = 0)) = true → s.sound = true →
        ∃ t, exec (.ctxStop id) s = .next t ∧ t.resp.code = .ok ∧ (t.ctx c).st = .halt ∧ (t.ctx c).pc = (s.ctx c).pc ∧
          SameGr s t ∧ t.mem = s.mem) ∧
      ((s.ctx c).st = .run →
        exec (.ctxStop id) s = .next ((s.setCtx c { s.ctx c with stop := true }).answer .ok)) ∧
      ((s.ctx c).st = .halt ∨ (s.ctx c).st = .fault → exec (.ctxStop id) s = .next (s.answer .busy)))

/-- A SIGNAL instruction whose line is below 64 raises nothing of its own and its context takes ILLEGAL: every pending latch but those of the fault itself stays. A write to SEQ_SIGNAL naming such a line changes nothing and completes with INVALID. -/
def Obligations.SignalLineBelow64 : Prop :=
  (∀ (c : Sys2Proof.Ctx) (w : Nat) (s : State), LelasReady { op := 0x32, zero := 0x3FF00FF } c w s → lwK w / 256 < 64 →
    s.seq.ctxs.all (fun e => e.2.st ≠ .wait) = true → s.jnl.live.all (fun e => e.lease.isNone) = true →
    ∃ t, exec (.lelasSignal c) s = .next t ∧ LelasFaults c 0x01 0 s t ∧
      ∀ l, l ≠ 5 → l ≠ 6 → l ≠ 40 → t.seq.latch.getLsbD l = s.seq.latch.getLsbD l) ∧
  ∀ (id : Id) (line : Byte) (s : State), Reaches id F.seqSignalLine.reg .write s → line.toNat < 64 →
    exec (.seqSignalWrite id line) s = .next (s.answer .invalid)

/-- While semaphore `n` is held, a write of SEQ_SEMn never changes its rank: one that would change it changes nothing, FREL included, and completes with BUSY; one that carries the held rank completes with OK, and with FREL it frees the semaphore, clears its rank in the former holder's mask and hands it on. -/
def Obligations.HeldSemaphoreRank : Prop :=
  ∀ (id : Id) (n : Fin 64) (v : BitVec 64) (s : State), Reaches id (F.seqSemRank.reg n) .write s → s.b1 F.seqSemHeld n = true →
    let rank := v.toNat % 16
    let write := exec (.registerWrite id (BitVec.ofNat 32 (F.seqSemRank.reg n)) 2 v none) s
    (rank ≠ s.g1 F.seqSemRank n → write = .next (s.answer .busy)) ∧
    (rank = s.g1 F.seqSemRank n → v.getLsbD 31 = false → write = .next (s.answer .ok)) ∧
    (rank = s.g1 F.seqSemRank n → v.getLsbD 31 = true → write = .next ((semFree n s).answer .ok)) ∧
    (rank = s.g1 F.seqSemRank n → v.getLsbD 31 = true → s.sound = true → s.seq.ctxs.all (fun e => e.2.st ≠ .wait) = true →
      ∃ t, write = .next t ∧ t.b1 F.seqSemHeld n = false ∧ t.g1 F.seqSemRank n = rank ∧
        (t.ctx (s.g1 F.seqSemOwner n)).held.testBit rank = false ∧ SameGr s t ∧ t.mem = s.mem) ∧
    exec (.semForcedRelease id n (BitVec.ofNat 4 rank)) s =
      if rank = s.g1 F.seqSemRank n then .next ((semFree n s).answer .ok) else .next (s.answer .busy)

/-- A read of STM_NOWC answers the cycle count and leaves its initiator the whole stamp; a read of STM_NOWP by that initiator answers the phase and the upper 16 fraction bits of that stamp, also after a read by another initiator; each initiator has its own snapshot. -/
def Obligations.StampSnapshots : Prop :=
  ∀ (id other : Id) (s : State), Reaches id F.stmNowcCycle.reg .read s → Reaches other F.stmNowcCycle.reg .read s →
    id ≠ other → Tab.rising s.stm.snap = true →
    let acc := s.stm.acc.toNat
    ∃ t u, exec (.stmNowcRead id) s = .next t ∧ t.resp = ⟨.ok, acc / 2 ^ 48⟩ ∧
      (∀ j, j ≠ id.val → Tab.val 0 t.stm.snap j = Tab.val 0 s.stm.snap j) ∧
      exec (.stmNowcRead other) t = .next u ∧
      exec (.rcRead id (BitVec.ofNat 32 F.stmNowpPhase.reg) 2 0) t =
        .next (t.answer .ok (acc / 2 ^ 32 % 2 ^ 16 * 2 ^ 16 + acc / 2 ^ 16 % 2 ^ 16)) ∧
      exec (.rcRead id (BitVec.ofNat 32 F.stmNowpPhase.reg) 2 0) u =
        .next (u.answer .ok (acc / 2 ^ 32 % 2 ^ 16 * 2 ^ 16 + acc / 2 ^ 16 % 2 ^ 16))

/-- A BULK request that waits is promoted to CONTROL; the request is otherwise the same. -/
def Obligations.BulkPromotion : Prop :=
  ∀ (c : Sys2Proof.Ctx) (f : InFlight) (s : State), awake s = true → (s.ctx c).st = .run → (s.ctx c).infl = some f →
    exec (.bulkPromote c) s =
      if f.cls = .bulk then .next (s.setCtx c { s.ctx c with infl := some { f with cls := .control } }) else .next s

/-! ### The journal and the frond instructions that use it -/

/-- The host's submission and query: only HOST may submit, one request at a time; the request the submission registers spell joins those waiting and PEND is set, and one of a LEVEL kind that passes checks 1 and 2 has its mailbox load put in line. A query of a SEQ that a live entry carries answers its state and result; one at or below the last accepted number answers ORDER_FAULT, any other INVALID. -/
def HostJournalPortRule : Prop :=
  (∀ (id : Id) (s : State), Reaches id F.jnlHgoGo.reg .write s →
    (id ≠ 0 → exec (.hostSubmit id) s = .next (s.answer .denied)) ∧
    (id = 0 → s.b F.jnlHstatPend = true → exec (.hostSubmit id) s = .next (s.answer .busy)) ∧
    (id = 0 → s.b F.jnlHstatPend = false → s.sound = true → (isLevel (hostReq s) s = false ∨ s.jnl.open_ = false) →
      ∃ t r, exec (.hostSubmit id) s = .next t ∧ t.resp.code = .ok ∧ t.g F.jnlHstatPend = 1 ∧
        t.jnl.reqs = s.jnl.reqs ++ [r] ∧ r.src = 0 ∧ r.addr = 0 ∧ r.seq = s.g F.jnlHseqSeq ∧
        r.kind = s.g F.jnlHkindKind ∧ r.payload = (hostReq s).payload ∧ t.jnl.live = s.jnl.live ∧
        t.jnl.boxes = s.jnl.boxes ∧ t.mem = s.mem) ∧
    (id = 0 → s.b F.jnlHstatPend = false → s.sound = true → isLevel (hostReq s) s = true → s.jnl.open_ = true →
      repeatsWriting (hostReq s) s = false → check1 (hostReq s) s = true → check2 (hostReq s) s = true →
      ∃ t b, exec (.hostSubmit id) s = .next t ∧ t.resp.code = .ok ∧ t.g F.jnlHstatPend = 1 ∧
        t.jnl.reqs = s.jnl.reqs ++ [{ hostReq s with boxed := true }] ∧ t.jnl.boxes = s.jnl.boxes ++ [b] ∧
        b.words = boxWords (hostReq s) s ∧ t.jnl.live = s.jnl.live ∧ t.mem = s.mem)) ∧
  ∀ (id : Id) (seq : Word) (s : State), Reaches id F.jnlHqseqSeq.reg .write s →
    (∀ e, entryOfSeq 0 0 seq.toNat s = some e →
      exec (.hostQuery id seq) s =
        .next ((((s.p F.jnlHqstCode 0).p F.jnlHqstState e.st.num).p F.jnlHqresResult e.result).answer .ok)) ∧
    (entryOfSeq 0 0 seq.toNat s = none →
      let code := match lastAccepted 0 0 s with
        | some n => if seq.toNat ≤ n then Code.orderFault else Code.invalid
        | none => Code.invalid
      exec (.hostQuery id seq) s =
        .next ((((s.p F.jnlHqstCode code.num).p F.jnlHqstState 0).p F.jnlHqresResult 0).answer .ok))

/-- What the host is told of its request: the code, and PEND falls. -/
def HostTold (c : Code) (t : State) : Prop := t.g F.jnlHstatCode = c.num ∧ t.g F.jnlHstatPend = 0

/-- Acceptance: the next request in line that passes the checks of R182 (a known kind that admits its source and length, a SEQ above the sender's last accepted one, a known sender, room above the reserve, JNL not severe) leaves the line and its entry begins at NEXT; a new sender is first given a slot, the lowest free one in this model (log 97), and a slot that does not read back refuses with INTEGRITY. A repeat of a live entry's SEQ only sets DUP, any other stale SEQ is refused with ORDER_FAULT and sets STALE; a kind the table does not know is refused with INVALID. Nothing is accepted while an entry is being written or before recovery has ended. -/
def JournalAcceptanceRule : Prop :=
  ∀ (r : JReq) (bad : Option (Fin 2)) (s : State), Runs 11 s → s.sound = true →
    (s.jnl.writing.isSome = true ∨ s.jnl.open_ = false → exec (.acceptanceRequest bad) s = .next s) ∧
    (s.jnl.writing = none → s.jnl.open_ = true → s.jnl.reqs = [] → exec (.acceptanceRequest bad) s = .next s) ∧
    (s.jnl.writing = none → s.jnl.open_ = true → nextReq s = some r →
      (∀ k, kindRec r.kind s = some k → k.level = false → k.srcMask.testBit r.src = true →
        r.payload.length ≤ k.lenMax → (∀ n, lastAccepted r.src r.addr s = some n → n < r.seq) →
        (s.g F.jnlCfgRsv < jnlFree s → isSevere 3 s = false →
          (findSender r.src r.addr s).isSome →
            ∃ t, exec (.acceptanceRequest bad) s = .next t ∧ t.jnl.writing = some (r, s.jnl.next) ∧
              t.jnl.next = (s.jnl.next + 1) % 2 ^ 20 ∧ t.jnl.reqs = s.jnl.reqs.erase r ∧ t.jnl.live = s.jnl.live ∧
              t.jnl.senders = s.jnl.senders ∧ t.mem = s.mem) ∧
        (s.g F.jnlCfgRsv < jnlFree s → isSevere 3 s = false →
          findSender r.src r.addr s = none → freeSender s ≠ none → s.b F.nvsStatKeybad = false → bad = none → s.nvs.q = [] →
            ∃ t x, exec (.acceptanceRequest bad) s = .next t ∧ t.jnl.writing = some (r, s.jnl.next) ∧
              t.jnl.next = (s.jnl.next + 1) % 2 ^ 20 ∧ t.jnl.reqs = s.jnl.reqs.erase r ∧ t.jnl.live = s.jnl.live ∧
              t.jnl.senders = s.jnl.senders ++ [x] ∧ x.src = r.src ∧ x.addr = r.addr ∧ some x.slot = freeSender s) ∧
        (findSender r.src r.addr s = none → freeSender s = none → r.src = 0 →
            ∃ t, exec (.acceptanceRequest bad) s = .next t ∧ HostTold .busy t ∧ t.g F.jnlStatSndFull = 1 ∧
              t.jnl.reqs = s.jnl.reqs.erase r ∧ t.jnl.live = s.jnl.live ∧ t.jnl.next = s.jnl.next ∧ t.mem = s.mem) ∧
        (findSender r.src r.addr s = none → freeSender s ≠ none → bad ≠ none → s.nvs.q = [] → r.src = 0 →
            ∃ t, exec (.acceptanceRequest bad) s = .next t ∧ HostTold .integrity t ∧
              t.jnl.senders = s.jnl.senders ∧ t.jnl.next = s.jnl.next ∧ t.jnl.live = s.jnl.live)) ∧
      (∀ k n, kindRec r.kind s = some k → k.level = false → k.srcMask.testBit r.src = true →
        r.payload.length ≤ k.lenMax → lastAccepted r.src r.addr s = some n → r.seq ≤ n → r.src = 0 →
        ∃ t, exec (.acceptanceRequest bad) s = .next t ∧ t.jnl.next = s.jnl.next ∧ t.jnl.live = s.jnl.live ∧ t.mem = s.mem ∧
          (entryOfSeq r.src r.addr r.seq s ≠ none → HostTold .ok t ∧ t.g F.jnlStatDup = 1) ∧
          (entryOfSeq r.src r.addr r.seq s = none → HostTold .orderFault t ∧ t.g F.jnlStatStale = 1)) ∧
      (kindRec r.kind s = none → r.src = 0 →
        ∃ t, exec (.acceptanceRequest bad) s = .next t ∧ HostTold .invalid t ∧
          t.jnl.reqs = s.jnl.reqs.erase r ∧ t.jnl.live = s.jnl.live ∧ t.jnl.next = s.jnl.next ∧ t.mem = s.mem))

/-- The lives of an entry in the array: a verified write of a host's entry makes it ACCEPTED, acknowledges it and stores only its two lines, and one that does not read back is refused with INTEGRITY; an entry that meets R196 retires from the head; the control block is written to its two lines when one of R196's cases holds; a mailbox load fills JNL_URGBOX and raises JNL_ACC3. No context waits in the frond engine, and no line write waits in the array. -/
def JournalEntriesRule : Prop :=
  (∀ (r : JReq) (k : KindRec) (anum : Nat) (s : State), Runs 11 s → s.sound = true → s.jnl.writing = some (r, anum) →
    kindRec r.kind s = some k → k.level = false → r.src = 0 → s.b F.nvsStatKeybad = false → s.nvs.q = [] →
    s.seq.ctxs.all (fun e => e.2.st ≠ .wait) = true → findEntry anum s = none →
    (∃ t, exec (.entryWriteDone none) s = .next t ∧ t.jnl.writing = none ∧ HostTold .ok t ∧ t.g F.jnlHstatAnum = anum % 2 ^ 20 ∧
      t.jnl.live = s.jnl.live ++ [{
        anum := anum, src := 0, addr := r.addr, seq := r.seq, kind := r.kind, cls := k.pri, rclass := k.rclass
        level := false, pair := some r.pair }] ∧
      some (t.byteList (entryAddr anum) 64) = entryBytes r anum s ∧
      (∀ a, a < entryAddr anum ∨ entryAddr anum + 64 ≤ a → t.byte a = s.byte a)) ∧
    ∀ i, ∃ t, exec (.entryWriteDone (some i)) s = .next t ∧ t.jnl.writing = none ∧ HostTold .integrity t ∧
      t.jnl.live = s.jnl.live ∧ t.jnl.next = s.jnl.next) ∧
  (∀ (bad : Option (Fin 2)) (s : State), Runs 11 s → s.jnl.writing = none → exec (.entryWriteDone bad) s = .next s) ∧
  (∀ (e : JEntry) (s : State), awake s = true → findEntry s.jnl.head s = some e → mayRetire e s = true →
    s.jnl.writing = none → s.jnl.next = (s.jnl.head + 1) % 2 ^ 20 → s.jnl.head < 2 ^ 20 →
    ∃ t, exec .entryRetire s = .next t ∧ t.jnl.head = s.jnl.next ∧ t.jnl.next = s.jnl.next ∧
      t.jnl.live = s.jnl.live.filter (fun x => x.anum ≠ e.anum) ∧ t.mem = s.mem) ∧
  (∀ s : State, Runs 11 s → s.sound = true → s.b F.nvsStatKeybad = false → s.jnl.senders = [] → s.nvs.q = [] →
    (cbDue s = false → exec .controlBlockWrite s = .next s) ∧
    (cbDue s = true →
      ∃ t, exec .controlBlockWrite s = .next t ∧ t.jnl.gen = (s.jnl.gen + 1) % 2 ^ 32 ∧ t.jnl.headWritten = s.jnl.head ∧
        t.byteList 0x10020000 32 = cbBytes t.jnl.gen s.jnl.head ∧ t.byteList 0x10020020 32 = cbBytes t.jnl.gen s.jnl.head ∧
        (∀ a, a < 0x10020000 ∨ 0x10020040 ≤ a → t.byte a = s.byte a))) ∧
  ∀ (b : BoxLoad) (rest : List BoxLoad) (s : State), Runs 11 s → s.jnl.open_ = true → s.jnl.boxes = b :: rest → b.again = none →
    s.sound = true →
    exec .urgboxLoad s = .next (raiseLine 11 (b.words.zipIdx.foldl (fun t p => t.p1 F.jnlUrgboxWord p.2 p.1)
      { s with jnl := { s.jnl with boxes := rest } })) ∧
    ∀ i < 13, b.words.length = 13 → ∃ t, exec .urgboxLoad s = .next t ∧ t.jnl.boxes = rest ∧ t.mem = s.mem ∧
      t.g1 F.jnlUrgboxWord i = b.words.getD i 0 % 2 ^ 32

/-- JTAKE gives the context the entry its class queue offers, once its lines read back, with OK and the entry's address in the pair, and leases it; with nothing to offer it waits, or with a timeout of 0 answers TIMEOUT; without R on the journal it answers DENIED; JMARK, JDONE and JFAIL on an entry the context holds wait for their writes, and answer INVALID for an entry it does not hold; a JMARK's verified write makes the entry STARTED, a JDONE's or JFAIL's finishes it with its result and ends the lease, and answers OK; a first write that does not read back answers INTEGRITY and leaves the entry as it was. -/
def LelasJournalRule : Prop :=
  ∀ (c : Sys2Proof.Ctx) (w : Nat) (s : State),
    let a := (s.gr c (lwRa w)).toNat
    let result := (s.gr c (lwRb w)).toNat
    let us := a % 2 ^ 16
    let cls := lwK w % 4
    let take := LelasReady { op := 0x38, zero := 0x3FFFC, even := true, src := fun w => [lwRa w] } c w s
    let mark := LelasReady { op := 0x39, zero := 0x3FFFF, src := fun w => [lwRa w] } c w s
    let done := LelasReady { op := 0x3A, zero := 0x3FFF, src := fun w => [lwRa w, lwRb w] } c w s
    let fail := LelasReady { op := 0x3B, zero := 0x3FFF, src := fun w => [lwRa w, lwRb w] } c w s
    let wrong := result % 256 = 0 ∨ 0x0B < result % 256 ∨ result % 256 = 7
    (∀ e, take → hasRight 10 0 (ctxId c s) .read s = true → offer cls c (s.ctx c).dom s = some e →
      findEntry e.anum s = some e → entryLinesOk e.anum s = true → s.nvs.q = [] →
      ∃ t, exec (.lelasJtake c) s = .next t ∧ t.gr c (lwRd w) = 0 ∧
        t.gr c (lwRd w + 1) = BitVec.ofNat 32 (entryAddr e.anum) ∧ (t.ctx c).lease = some e.anum ∧
        (t.ctx c).st = .ready ∧ (t.ctx c).pc = ((s.ctx c).pc + 4) % 2 ^ 32 ∧ t.mem = s.mem ∧ t.regs = s.regs) ∧
    (take → hasRight 10 0 (ctxId c s) .read s = true → offer cls c (s.ctx c).dom s = none →
      (us = 0 → ∃ t, exec (.lelasJtake c) s = .next t ∧ LelasPair c (lwRd w) (BitVec.ofNat 32 Code.timeout.num) 0 s t) ∧
      (us ≠ 0 → ∃ t, exec (.lelasJtake c) s = .next t ∧ (t.ctx c).st = .wait ∧
        (t.ctx c).wait = some (.take cls (lwRd w) (s.stm.sclk + 192 * us)) ∧ SameGr s t ∧ LelasFrame c s t)) ∧
    (take → hasRight 10 0 (ctxId c s) .read s = false →
      ∃ t, exec (.lelasJtake c) s = .next t ∧ t.gr c (lwRd w) = BitVec.ofNat 32 Code.denied.num ∧
        t.g F.accStatDeny = 1 ∧ t.jnl = s.jnl ∧ t.mem = s.mem) ∧
    (∀ e, entryAt a s = some e → e.lease = some c.val →
      (mark → e.st = .accepted →
        ∃ t, exec (.lelasJmark c) s = .next t ∧ (t.ctx c).st = .wait ∧ (t.ctx c).wait = some (.write e.anum (lwRd w) .mark) ∧
          SameGr s t ∧ LelasFrame c s t) ∧
      (mark → e.st = .started → e.replay = false →
        ∃ t, exec (.lelasJmark c) s = .next t ∧ LelasWrites c (lwRd w) 0 s t) ∧
      (done → e.st = .started →
        ∃ t, exec (.lelasJdone c) s = .next t ∧ (t.ctx c).st = .wait ∧
          (t.ctx c).wait = some (.write e.anum (lwRd w) (.finish true result)) ∧ SameGr s t ∧ LelasFrame c s t) ∧
      (fail → e.st = .started → ¬ wrong →
        ∃ t, exec (.lelasJfail c) s = .next t ∧ (t.ctx c).st = .wait ∧
          (t.ctx c).wait = some (.write e.anum (lwRd w) (.finish false result)) ∧ SameGr s t ∧ LelasFrame c s t) ∧
      (fail → e.st = .started → wrong →
        ∃ t, exec (.lelasJfail c) s = .next t ∧ LelasWrites c (lwRd w) (BitVec.ofNat 32 Code.invalid.num) s t)) ∧
    ((∀ e, entryAt a s = some e → e.lease ≠ some c.val) →
      (mark → ∃ t, exec (.lelasJmark c) s = .next t ∧ LelasWrites c (lwRd w) (BitVec.ofNat 32 Code.invalid.num) s t) ∧
      (done → ∃ t, exec (.lelasJdone c) s = .next t ∧ LelasWrites c (lwRd w) (BitVec.ofNat 32 Code.invalid.num) s t) ∧
      (fail → ∃ t, exec (.lelasJfail c) s = .next t ∧ LelasWrites c (lwRd w) (BitVec.ofNat 32 Code.invalid.num) s t)) ∧
    (∀ anum rd op, Runs 11 s → s.sound = true → (s.ctx c).st = .wait → (s.ctx c).wait = some (.write anum rd op) →
      lineOk (entryAddr anum) s = true → lineOk (entryAddr anum + 32) s = true → s.nvs.q = [] →
      Tab.rising s.nvs.lines = true →
      s.seq.ctxs.all (fun e => e.2.st ≠ .wait || decide (e.1 = c.val)) = true →
      (op = .mark →
        ∃ t, exec (.journalWriteComplete c none) s = .next t ∧ t.gr c rd = 0 ∧ (t.ctx c).st = .ready ∧
          (t.ctx c).wait = none ∧ (t.ctx c).pc = ((s.ctx c).pc + 4) % 2 ^ 32 ∧
          t.jnl.live = s.jnl.live.map (fun e => if e.anum = anum then { e with st := .started } else e) ∧
          (∀ b, b < entryAddr anum ∨ entryAddr anum + 4 ≤ b → t.byte b = s.byte b)) ∧
      (∀ e good v, op = .finish good v → findEntry anum s = some e → e.src = 0 →
        ∃ t x, exec (.journalWriteComplete c none) s = .next t ∧ t.gr c rd = 0 ∧ (t.ctx c).st = .ready ∧
          (t.ctx c).lease = none ∧ (t.ctx c).pc = ((s.ctx c).pc + 4) % 2 ^ 32 ∧ t.g F.jnlStatHcomp = 1 ∧
          findEntry anum t = some x ∧ x.st = (if good then .done else .failed) ∧ x.result = finishWord good v ∧
          x.lease = none ∧ x.reported = true ∧
          (∀ b, b < entryAddr anum ∨ entryAddr anum + 64 ≤ b → t.byte b = s.byte b)) ∧
      ∃ t, exec (.journalWriteComplete c (some 0)) s = .next t ∧ t.gr c rd = BitVec.ofNat 32 Code.integrity.num ∧
        (t.ctx c).st = .ready ∧ (t.ctx c).pc = ((s.ctx c).pc + 4) % 2 ^ 32 ∧ t.jnl.live = s.jnl.live)

/-- SEND queues the frame its descriptor describes and answers OK with the frame's SEQ; CLAIM of a free timer makes the context's domain its holder and answers OK, unless a rival of a lower ID claims it on the same edge, which then holds it while the context is answered BUSY; FREE of a timer that nobody holds answers NOT_CLAIMED; a CLASS or INDEX out of range answers INVALID. -/
def Obligations.LelasSendClaimFree : Prop :=
  ∀ (c : Sys2Proof.Ctx) (w : Nat) (s : State),
    let a := (s.gr c (lwRa w)).toNat
    let k := lwK w
    let claim := LelasReady { op := 0x3D, zero := 0x3FC000 } c w s
    let free := LelasReady { op := 0x3E, zero := 0x3FC000 } c w s
    (LelasReady { op := 0x3C, zero := 0x3FFFF, even := true, src := fun w => [lwRa w] } c w s →
      (∀ i < 7, granted (ctxId c s) (a + 8 * i) .read s = true ∧ domUp (domainOf (a + 8 * i)) s = true ∧
        NSet.has s.sramGood (a / 8 + i) = true ∧ NSet.has s.sramOne (a / 8 + i) = false) →
      hasRight 11 1 (ctxId c s) .write s = true → a % 8 = 0 → a + 56 ≤ 0x100000 →
      sendWordOk (s.bytesLE a 4) s = true → (domUp 9 s || domUp 10 s) = true → sendUsed s < 16 →
      (s.link.txNext = s.link.txEnd → s.b F.nvsStatKeybad = false ∧ s.nvs.q = []) →
      ∃ t, exec (.lelasSend c) s = .next t ∧ t.gr c (lwRd w) = 0 ∧
        t.gr c (lwRd w + 1) = BitVec.ofNat 32 s.link.txNext ∧
        t.link.txq = s.link.txq ++ [sendFrame (s.bytesLE a 4) (s.bytesLE (a + 4) 4) (s.byteList (a + 8) 48) s.link.txNext] ∧
        (t.ctx c).pc = ((s.ctx c).pc + 4) % 2 ^ 32 ∧ (t.ctx c).st = .ready) ∧
    (∀ i, k = 0x100 + i → i < 8 → granted (ctxId c s) (F.tmrOwnHeld.reg i) .write s = true → domUp 1 s = true →
      (claim → s.b1 F.tmrOwnHeld i = false →
        ∃ t, exec (.lelasClaim c none) s = .next t ∧ t.gr c (lwRd w) = 0 ∧ t.b1 F.tmrOwnHeld i = true ∧
          t.g1 F.tmrOwnOwner i = ctxId c s % 16 ∧ (t.ctx c).pc = ((s.ctx c).pc + 4) % 2 ^ 32 ∧ t.mem = s.mem) ∧
      (∀ r : Id, claim → s.b1 F.tmrOwnHeld i = false → r.val < ctxId c s → Reaches r (F.tmrOwnHeld.reg i) .write s →
        ∃ t, exec (.lelasClaim c (some (r, 0x10000))) s = .next t ∧ t.gr c (lwRd w) = BitVec.ofNat 32 Code.busy.num ∧
          t.b1 F.tmrOwnHeld i = true ∧ t.g1 F.tmrOwnOwner i = r ∧ (t.ctx c).pc = ((s.ctx c).pc + 4) % 2 ^ 32 ∧ t.mem = s.mem) ∧
      (free → s.b1 F.tmrOwnHeld i = false →
        ∃ t, exec (.lelasFree c) s = .next t ∧ LelasWrites c (lwRd w) (BitVec.ofNat 32 Code.notClaimed.num) s t) ∧
      (free → s.b1 F.tmrOwnHeld i = true → s.g1 F.tmrOwnOwner i = ctxId c s →
        ∃ t, exec (.lelasFree c) s = .next t ∧ t.gr c (lwRd w) = 0 ∧ t.b1 F.tmrOwnHeld i = false ∧
          (t.ctx c).pc = ((s.ctx c).pc + 4) % 2 ^ 32 ∧ t.mem = s.mem)) ∧
    (ownerReg (k / 256 % 16) (k % 256) = none →
      (claim → ∃ t, exec (.lelasClaim c none) s = .next t ∧ LelasWrites c (lwRd w) (BitVec.ofNat 32 Code.invalid.num) s t) ∧
      (free → ∃ t, exec (.lelasFree c) s = .next t ∧ LelasWrites c (lwRd w) (BitVec.ofNat 32 Code.invalid.num) s t))


/-! ### String link -/

/-- A frame that passed every check has ended its reception on a medium: the receiver is free, RSSI is recorded, the medium has heard a frame in this superframe, LAST is 0, and its sender's window is the one given (R209, R213, R225). -/
def FrameTaken (pair : Bool) (rssi : Nat) (ws : List Window) (s : State) : State :=
  ((s.p F.slkRxstatRssi (min rssi 255)).p F.slkRxstatLast 0).modLink (fun l =>
    { l.setMedium pair { l.medium pair with rx := none, seen := true } with wins := ws })

/-- A frame being received on a medium passes every check of R209. -/
def FramePasses (pair : Bool) (bytes : List Byte) (f : Frame) (rssi : Nat) (s : State) : Prop :=
  Runs (medDomain pair) s ∧ (s.link.medium pair).rx = some rssi ∧ ∃ b, judgeFrame bytes s = (.pass f, b)

/-- The COMMAND is a journal request: its source by its family, its number, its kind and its payload. -/
def CommandFramesRule : Prop :=
  ∀ (pair : Bool) (bytes : List Byte) (f : Frame) (r : Nat) (s : State), FramePasses pair bytes f r s →
    (f.ftype = 0x02 → exec (.commandRx pair bytes) s = .next (submit {
      src := 1, addr := f.src, seq := f.seq, kind := ofBe (f.payload.take 2), payload := f.payload.drop 2, pair := pair }
      (FrameTaken pair r s.link.wins s))) ∧
    (f.ftype = 0x82 → exec (.commandRx pair bytes) s = .next (submit {
      src := 2, addr := f.src, seq := f.seq, kind := ofBe (f.payload.take 2), payload := f.payload.drop 2, pair := pair }
      (FrameTaken pair r s.link.wins s))) ∧
    (f.ftype ≠ 0x02 → f.ftype ≠ 0x82 → exec (.commandRx pair bytes) s = .next s)

/-- A verified REPLY or APP enters the receive ring with the stamp of its sync's end and raises SLK_RX; with the ring full it is dropped and RXOVF is set. A verified BEACON records its number, raises SLK_BEACON, stores the gateway's window, notes the JOIN schedule and counts for keep-alive unless SHUT; it corrects string time only on the beacon medium (no JOIN waits). A verified JOIN is dropped. -/
def ReceivedFramesRule : Prop :=
  ∀ (pair : Bool) (ago : Nat) (bytes : List Byte) (f : Frame) (r : Nat) (ws : List Window) (s : State),
    FramePasses pair bytes f r s → windowAccept (winFam f) f.src f.seq s.link.wins = some ws → s.sound = true →
    let u := FrameTaken pair r ws s
    let n := s.g F.slkRxheadCount
    let t := (accAt ago s % (2 ^ 80 : Int)).toNat / 2 ^ 32
    let e : RxEntry := {
      src := f.src, dtype := f.dtype, pair := pair, ftype := f.ftype, seq := f.seq
      cycle := t / 2 ^ 16, phase := t % 2 ^ 16, payload := f.payload }
    let stored := raiseLine 14 ((u.p F.slkRxheadCount (n + 1)).modLink (fun l =>
      { l with ring := Tab.set l.ring ((s.g F.slkRxheadHead + n) % 16) e }))
    let kept := if 16 ≤ n then u.p F.slkStatRxovf 1 else stored
    (f.ftype = 0x03 ∨ f.ftype = 0x83 → exec (.replyRx pair ago bytes) s = .next kept) ∧
    (0x10 ≤ f.ftype → f.ftype ≤ 0x3F → exec (.appRx pair ago bytes) s = .next kept) ∧
    (0x90 ≤ f.ftype → f.ftype ≤ 0xBF → exec (.peerAppRx pair ago bytes) s = .next kept) ∧
    (f.ftype = 0x04 → exec (.joinRx pair bytes) s = .next (u.p F.slkRxstatLast 5)) ∧
    (f.ftype = 0x01 → s.link.txq.any (·.isJoin) = false →
      let cycle := ofBe (f.payload.take 4)
      let flags := ofBe ((f.payload.drop 4).take 1)
      let v := (storeWindow 0 (raiseLine 16 (u.p F.slkBcnlastCycle cycle))).modLink (fun l => { l with
        plan := if flags.testBit 1 then some ⟨ofBe ((f.payload.drop 5).take 1), ofBe ((f.payload.drop 6).take 1), pair, 0⟩ else none
        kaSeen := l.kaSeen || !flags.testBit 0, kaSince := l.kaSince || !flags.testBit 0 })
      exec (.beaconRx pair ago bytes) s = .next (if pair = beaconMedium v then beaconReference ago cycle v else v)) ∧
    (f.ftype ≠ 0x04 → exec (.joinRx pair bytes) s = .next s) ∧
    (f.ftype ≠ 0x01 → exec (.beaconRx pair ago bytes) s = .next s)

/-- Commissioning frames act only while COMMISS is 1: ASSIGN gives the node its address, its gateway and its string, and drops the peers' windows; KEYLOAD gives a link key slot its unwrapped key; a slot or version that does not exist loads nothing. Each queues a JOIN with its outcome. FORGET leaves the node without address and link keys. -/
def Obligations.Commissioning : Prop :=
  (∀ (pair : Bool) (bytes : List Byte) (f : Frame) (r : Nat) (ws : List Window) (s : State),
    FramePasses pair bytes f r s → windowAccept (winFam f) f.src f.seq s.link.wins = some ws →
    let u := storeWindow 2 (FrameTaken pair r ws s)
    let field := fun i n => ofBe ((f.payload.drop i).take n)
    (f.ftype = 0x05 → u.b F.slkCmctlCommiss = false → exec (.assignRx pair bytes) s = .next u) ∧
    (f.ftype = 0x06 → u.b F.slkCmctlCommiss = false → exec (.keyloadRx pair bytes) s = .next u) ∧
    (f.ftype = 0x05 → u.b F.slkCmctlCommiss = true → u.b F.nvsStatKeybad = false → s.sound = true →
      ∃ t, exec (.assignRx pair bytes) s = .next t ∧ t.g F.slkAddrValid = 1 ∧ t.g F.slkAddrAddr = field 8 2 % 2 ^ 12 ∧
        t.g F.slkGwGwaddr = field 10 2 % 2 ^ 12 ∧ t.g F.slkGwStrid = field 12 2 ∧ t.link.cmCode = 0 ∧
        t.link.cmSeq = f.seq ∧ t.link.joinWait = 0 ∧ (∀ w ∈ t.link.wins, w.fam ≠ 1)) ∧
    (f.ftype = 0x06 → u.b F.slkCmctlCommiss = true → field 8 1 ≤ 3 → field 9 1 = 0 → u.b F.nvsStatKeybad = false →
      s.sound = true → ∀ k, kd 2 s = some k →
      ∃ t, exec (.keyloadRx pair bytes) s = .next t ∧ t.link.cmCode = 0 ∧ t.link.cmSeq = f.seq ∧
        (t.g F.slkCmctlKeymap).testBit (field 8 1) = true ∧
        Tab.get t.sec.linkKeys (field 8 1) =
          some (beNum (aesInv (bytes16 k) (padTo 16 ((f.payload.drop 10).take 16))))) ∧
    (f.ftype = 0x06 → u.b F.slkCmctlCommiss = true → (3 < field 8 1 ∨ field 9 1 ≠ 0) →
      ∃ t, exec (.keyloadRx pair bytes) s = .next t ∧ t.link.cmCode = Code.invalid.num ∧ t.link.cmSeq = f.seq ∧
        t.sec.linkKeys = s.sec.linkKeys)) ∧
  ∀ (id : Id) (c : Bool) (s : State), Reaches id F.slkCmctlForget.reg .write s → s.sound = true →
    ∃ t, exec (.forget id c) s = .next t ∧ t.resp.code = .ok ∧ t.g F.slkCmctlCommiss = bit c ∧ t.g F.slkAddrValid = 0 ∧
      t.g F.slkCmctlKeymap = 0 ∧ t.sec.linkKeys = [] ∧ (∀ w ∈ t.link.wins, w.fam ≠ 0)

/-- Reception: a preamble locks an idle receiver; during a reception one that is stronger by MARGIN captures it and counts, any other counts as a collision. A frame that fails a check is dropped and counted by the first check it fails; a node without a BCST key still takes the JOIN schedule of a beacon whose CRC verifies. A command whose conditions do not hold leaves the state as it is: the model's choice, log 5. -/
def Obligations.ReceptionAndDrops : Prop :=
  (∀ (pair : Bool) (rssi : Byte) (s : State), Runs (medDomain pair) s →
    let m := s.link.medium pair
    let lock := s.modLink (fun l => l.setMedium pair { m with rx := some rssi.toNat })
    (medEnabled pair s = true → m.tx = none → m.rx = none → exec (.receptionStart pair rssi) s = .next lock) ∧
    ((m.rx.isSome ∨ m.tx.isSome ∨ medEnabled pair s = false) → exec (.receptionStart pair rssi) s = .next s) ∧
    (∀ cur, m.rx = some cur → cur + s.g F.slkCfgMargin ≤ rssi.toNat →
      exec (.preambleDetect pair rssi) s =
        .next ((((s.p F.slkRxstatRssi (min cur 255)).p F.slkRxstatLast 3).sat F.slkCapturesCount 1).modLink (fun l =>
          l.setMedium pair { m with rx := some rssi.toNat }))) ∧
    (∀ cur, m.rx = some cur → rssi.toNat < cur + s.g F.slkCfgMargin →
      exec (.preambleDetect pair rssi) s = .next (s.sat F.slkCollideCount 1)) ∧
    (m.rx = none → exec (.preambleDetect pair rssi) s = .next s)) ∧
  (∀ (pair : Bool) (ago : Nat) (bytes : List Byte) (r : Nat) (s : State), Runs (medDomain pair) s →
    (s.link.medium pair).rx = some r →
    let f := parseFrame bytes
    let free := (s.p F.slkRxstatRssi (min r 255)).modLink (fun l => l.setMedium pair { l.medium pair with rx := none })
    (10 ≤ bytes.length → 48 < f.len →
      exec (.frameDropped pair bytes ago) s = .next ((free.sat F.slkErrcnt0Fmt 1).p F.slkRxstatLast 2)) ∧
    (f.len ≤ 48 → (bytes.length ≠ 20 + f.len ∨ f.crc ≠ crc16 (bytes.take (18 + f.len))) →
      exec (.frameDropped pair bytes ago) s = .next ((free.sat F.slkErrcnt0Crc 1).p F.slkRxstatLast 1)) ∧
    (f.len ≤ 48 → bytes.length = 20 + f.len → f.crc = crc16 (bytes.take (18 + f.len)) → formatOk f = false →
      exec (.frameDropped pair bytes ago) s = .next ((free.sat F.slkErrcnt0Fmt 1).p F.slkRxstatLast 2)) ∧
    (f.len ≤ 48 → bytes.length = 20 + f.len → f.crc = crc16 (bytes.take (18 + f.len)) → formatOk f = true →
      f.ftype ≠ 1 → destOk f s = false →
      exec (.frameDropped pair bytes ago) s = .next (free.p F.slkRxstatLast 5)) ∧
    (∀ cnt last seen, judgeFrame bytes s = (.drop (some cnt) last, seen) → f.ftype ≠ 1 ∨ (Tab.get s.sec.linkKeys 2).isSome →
      exec (.frameDropped pair bytes ago) s = .next (((if seen then markSeen pair free else free).sat cnt 1).p F.slkRxstatLast last)) ∧
    (f.len = 8 → bytes.length = 28 → f.crc = crc16 (bytes.take 26) → formatOk f = true → f.ftype = 1 → f.dtype = 2 →
      Tab.get s.sec.linkKeys 2 = none → s.b F.slkAddrValid = false → s.link.txq = [] →
      ∃ t, exec (.frameDropped pair bytes ago) s = .next t ∧
        t.link.plan.map (fun j => (j.first, j.count, j.pair)) =
          (if (ofBe ((f.payload.drop 4).take 1)).testBit 1
            then some (ofBe ((f.payload.drop 5).take 1), ofBe ((f.payload.drop 6).take 1), pair) else none) ∧
        t.stm = s.stm ∧ t.mem = s.mem)) ∧
  ∀ (pair : Bool) (ago : Nat) (bytes : List Byte) (s : State), (s.link.medium pair).rx = none →
    exec (.frameDropped pair bytes ago) s = .next s

/-- Sending: at a slot boundary a SEND frame that is the medium's next goes on the air inside the window; at the end of a transmission a SEND frame leaves the queue with its number and OK in the last-result registers and SLK_TXDONE raised; RX_POP releases the ring's head and is INVALID on an empty ring; an unaddressed node queues a JOIN once its backoff is over. -/
def LinkSendingRule : Prop :=
  (∀ (pair : Bool) (f : TxFrame) (s : State), awake s = true → domUp (medDomain pair) s = true →
    phaseNow s % 0x1000 = 0 → sweepTx s = s → (s.link.medium pair).tx = none → txHead pair s = some f → f.kind = .send →
    let win := txWindow pair s
    let air := airTicks pair f s
    let slot := slotNumber s.stm.acc.toNat
    0 < win.2.1 → air + 256 ≤ win.2.1 * 0x1000 → cycleNow s / 4 % 2 ^ win.2.2.1 = win.2.2.2 → win.1 ≤ slot →
    slot < win.1 + win.2.1 → air + 256 ≤ (win.1 + win.2.1 - slot) * 0x1000 → f.notBefore = none →
    exec (.frameTxStart pair) s =
      .next (s.modLink (fun l => l.setMedium pair { l.medium pair with tx := some f, rx := none }))) ∧
  (∀ (pair : Bool) (s : State), awake s = false → exec (.frameTxStart pair) s = .next s) ∧
  (∀ (pair : Bool) (f : TxFrame) (s : State), Runs (medDomain pair) s → (s.link.medium pair).tx = some f →
    f.kind = .send →
    exec (.frameTxEnd pair) s = .next (raiseLine 15
      (((s.modLink (fun l => { l.setMedium pair { l.medium pair with tx := none } with txq := l.txq.erase f })).p
        F.slkTxlastSeq f.seq).p F.slkTxlcodeCode 0))) ∧
  (∀ (pair : Bool) (s : State), (s.link.medium pair).tx = none → exec (.frameTxEnd pair) s = .next s) ∧
  (∀ (first count : Nat) (pair : Bool) (ofs : Int) (s : State), awake s = true → s.link.plan = some ⟨first, count, pair, ofs⟩ →
    s.b F.slkAddrValid = false → s.b F.slkCmctlCommiss = true → 0 < count → s.link.joinWait = 0 → s.link.txq = [] →
    ∃ t f, exec .joinSend s = .next t ∧ t.link.txq = [f] ∧ f.ftype = 0x04 ∧ f.dtype = 3 ∧ f.seq = s.link.txNext ∧
      f.med = (if pair then 2 else 1) ∧ f.payload = joinPayload s ∧
      ∃ k, f.kind = .join (some k) ∧ first ≤ k ∧ k < first + count) ∧
  (∀ s : State, s.link.plan = none → exec .joinSend s = .next s) ∧
  ∀ (id : Id) (s : State), Reaches id F.slkRxpopPop.reg .write s →
    (s.g F.slkRxheadCount = 0 → exec (.rxPop id) s = .next (s.answer .invalid)) ∧
    (0 < s.g F.slkRxheadCount →
      exec (.rxPop id) s = .next (((s.p F.slkRxheadHead (s.g F.slkRxheadHead + 1)).p F.slkRxheadCount
        (s.g F.slkRxheadCount - 1)).answer .ok))

/-- Keep-alive and the media: K missed superframes force every running input to SAFE, set KALOSS, raise SLK_KALOSS and are a fault event; a medium whose driver fails, or that is silent while the other hears, fails with MEDFAIL and a fault event and moves its roles; after RET good superframes it works again and takes them back under AUTORET. -/
def KeepAliveAndMediaRule : Prop :=
  (∀ s : State, awake s = true →
    (s.b F.slkKaEn = true → s.g F.slkKaK ≤ s.g F.slkKaMissed → s.link.kaActed = false → s.link.kaSeen = false →
      exec .keepaliveLoss s = .next (raiseLine 17 (faultEvent 4
        ((forceSafeAll (s.modLink (fun l => { l with kaActed := true, kaSince := false }))).p F.slkStatKaloss 1)))) ∧
    ((s.b F.slkKaEn = false ∨ s.g F.slkKaMissed < s.g F.slkKaK ∨ s.link.kaActed = true ∨ s.link.kaSeen = true) →
      exec .keepaliveLoss s = .next s)) ∧
  ∀ (pair : Bool) (s : State),
    let failed := if pair then F.slkMedPfail else F.slkMedCfail
    let drv := if pair then F.slkMedPtxf else F.slkMedCtxf
    let m := s.link.medium pair
    let down := fun (t : State) (tx : Option TxFrame) => faultEvent 4 (((t.p failed 1).modLink (fun l =>
      l.setMedium pair { m with tx := tx, moved := true, silent := 0, good := 0, otherSeen := false })).p F.slkStatMedfail 1)
    (Runs (medDomain pair) s → s.sound = true → s.b failed = false → exec (.mediumDriverFault pair) s = .next (down (s.p drv 1) none)) ∧
    (awake s = true → exec (.txDriverFaultEnd pair) s = .next (s.p drv 0)) ∧
    (awake s = true → s.b failed = false → s.g F.slkMedT ≤ m.silent → m.otherSeen = true →
      exec (.mediumSilence pair) s = .next (down s m.tx)) ∧
    ((s.b failed = true ∨ m.silent < s.g F.slkMedT ∨ m.otherSeen = false) → exec (.mediumSilence pair) s = .next s) ∧
    (awake s = true → s.b failed = true → s.g F.slkMedRet ≤ m.good → s.b drv = false →
      exec (.mediumRestore pair) s = .next ((s.p failed 0).modLink (fun l =>
        l.setMedium pair { m with moved := m.moved && !s.b F.slkCfgAutoret, good := 0 }))) ∧
    ((s.b failed = false ∨ m.good < s.g F.slkMedRet ∨ s.b drv = true) → exec (.mediumRestore pair) s = .next s)


/-! ### Panel power stages -/

/-- PST_x has been raised: a context that waits for the line has taken it, or its pending latch stands (R139). -/
def StageRaised (x : Nat) (s t : State) : Prop :=
  waitersOn (WaitFor.onLine (18 + x) true) s = [] → t.seq.latch.getLsbD (18 + x) = true

/-- FLT has counted a fault event of input `x`, or none. -/
def StageEvent (x : Nat) (one : Bool) (s t : State) : Prop :=
  t.g1 F.fltSrcStatEvcnt (5 + x) =
    if one then min (s.g1 F.fltSrcStatEvcnt (5 + x) + 1) (2 ^ F.fltSrcStatEvcnt.w - 1) else s.g1 F.fltSrcStatEvcnt (5 + x)

/-- A trip of input `x`: its flag is set, its line is raised, it is one fault event, and the input goes to OFF where `off` says so or the event is severe, which also sets LOCKOUT (R253, R255). -/
def StageTrip (x : Nat) (flag : Fam) (off : Bool) (s t : State) : Prop :=
  t.b1 flag x = true ∧ StageRaised x s t ∧ StageEvent x true s t ∧
    (let severe := (faultPush (5 + x) s).1;
      t.b1 F.pstStatLockout x = (s.b1 F.pstStatLockout x || severe) ∧
      pstMode x t = (if off || severe then 0 else pstMode x s)) ∧ t.mem = s.mem

/-- Modes: a write of OFF always takes the input to OFF; a run mode written in OFF or SAFE starts a soft start from the targets with the current limit at 0, PASS starting in BUCK, and is BUSY with LOCKOUT, without a present panel or under a SAFE hold; a new run mode written while running waits for the period starts; SAFE is BUSY under LOCKOUT. A write on the edge on which hardware changes the mode changes nothing and is BUSY. -/
def Obligations.StageModes : Prop :=
  ∀ (id : Id) (x : Fin 8) (s : State), Reaches id (F.pstModeMode.reg x) .write s → s.sound = true →
    (∃ t, exec (.modeOff id x none) s = .next t ∧ t.resp.code = .ok ∧ t.g1 F.pstStatMode x = 0 ∧ t.g1 F.pstModeMode x = 0 ∧
      t.g1 F.pstStatSsdone x = 0 ∧ t.g1 F.pstStatSreg x = 0 ∧ t.g1 F.pstBalTrim x = 0 ∧ (t.pin x).ss = false ∧
      (t.pin x).restart = false ∧ t.mem = s.mem) ∧
    (∀ h, pstMode x (modeHit x h s) ≠ pstMode x s →
      exec (.modeOff id x (some h)) s = .next ((modeHit x h s).answer .busy)) ∧
    (∀ r ∈ [((1 : Nat), fun h => Instr.modeBuck id x h), (2, fun h => .modeBoost id x h), (3, fun h => .modeBuckBoost id x h),
        (4, fun h => .modePass id x h)],
      (s.b1 F.pstStatLockout x = true → exec (r.2 none) s = .next (s.answer .busy)) ∧
      (pstMode x s = 0 ∨ pstMode x s = 5 → (s.b1 F.pstStatPresent x = false ∨ safeHold s = true) →
        exec (r.2 none) s = .next (s.answer .busy)) ∧
      (s.b1 F.pstStatLockout x = false → pstMode x s = 0 → s.b1 F.pstStatPresent x = true → safeHold s = false →
        ∃ t, exec (r.2 none) s = .next t ∧ t.resp.code = .ok ∧ t.g1 F.pstModeMode x = r.1 ∧
          t.g1 F.pstStatMode x = (if r.1 = 4 then 1 else r.1) ∧ t.g1 F.pstStatResume x = r.1 ∧
          t.g1 F.pstCmdvinVal x = s.g1 F.pstVinMv x % 2 ^ 17 ∧
          t.g1 F.pstCmdvoutVal x = s.g1 F.pstVoutMv x % 2 ^ 17 ∧ t.g1 F.pstCmdilimVal x = 0 ∧ t.g1 F.pstStatSsdone x = 0 ∧ (t.pin x).ss = true ∧
          (t.pin x).ssPass = decide (r.1 = 4) ∧ t.mem = s.mem) ∧
      (s.b1 F.pstStatLockout x = false → 1 ≤ pstMode x s → pstMode x s ≤ 4 →
        ∃ t, exec (r.2 none) s = .next t ∧ t.resp.code = .ok ∧ t.g1 F.pstModeMode x = r.1 ∧ t.g1 F.pstStatResume x = r.1 ∧
          t.g1 F.pstStatMode x = s.g1 F.pstStatMode x ∧ t.mem = s.mem ∧
          (s.g1 F.pstModeMode x ≠ r.1 → (t.pin x).next = some r.1) ∧ (s.g1 F.pstModeMode x = r.1 → t.pst = s.pst)) ∧
      (∀ h, s.b1 F.pstStatLockout x = false → 1 ≤ pstMode x s → pstMode x s ≤ 4 →
        pstMode x (modeHit x h s) ≠ pstMode x s →
        exec (r.2 (some h)) s = .next ((modeHit x h s).answer .busy))) ∧
    (s.b1 F.pstStatLockout x = true → exec (.modeSafe id x none) s = .next (s.answer .busy)) ∧
    (s.b1 F.pstStatLockout x = false → pstMode x s ≠ 0 → pstMode x s ≠ 5 →
      ∃ t, exec (.modeSafe id x none) s = .next t ∧ t.resp.code = .ok ∧ t.g1 F.pstStatMode x = 5 ∧ t.g1 F.pstModeMode x = 5 ∧
        t.g1 F.pstStatSreg x = 0 ∧ t.g1 F.pstStatSsdone x = 0 ∧ (t.pin x).ss = false ∧ t.mem = s.mem) ∧
    (s.b1 F.pstStatLockout x = false → (pstMode x s = 0 ∨ pstMode x s = 5) →
      exec (.modeSafe id x none) s = .next (s.answer .ok))

/-- Protection: an overcurrent trip, in any mode, holds its phase low until its next period start and counts; overvoltage and a driver fault take the input to OFF; undervoltage takes a running input to OFF ready to restart, and is no fault event; a soft start that does not complete takes it to OFF. Each flag raises the input's line and, but for undervoltage, is a fault event of the input; a severe one takes it to OFF and locks it out. -/
def StageProtectionRule : Prop :=
  ∀ (x : Fin 8) (s : State), Runs (pstDomain x) s → s.sound = true →
    (∃ t, exec (.overcurrentTrip x 0) s = .next t ∧ StageTrip x F.pstStatOc0 false s t ∧ (t.pin x).trip0 = true ∧
      t.g1 F.pstOccntCnt0 x = min (s.g1 F.pstOccntCnt0 x + 1) 65535) ∧
    (∃ t, exec (.overcurrentTrip x 1) s = .next t ∧ StageTrip x F.pstStatOc1 false s t ∧ (t.pin x).trip1 = true ∧
      t.g1 F.pstOccntCnt1 x = min (s.g1 F.pstOccntCnt1 x + 1) 65535) ∧
    (∃ t, exec (.overvoltageTrip x false) s = .next t ∧ StageTrip x F.pstStatOv true s t) ∧
    (ovpPin x s = true → ∃ t, exec (.overvoltageTrip x true) s = .next t ∧ StageTrip x F.pstStatOv true s t) ∧
    (ovpPin x s = false → exec (.overvoltageTrip x true) s = .next s) ∧
    (∃ t, exec (.driverFault x) s = .next t ∧ StageTrip x F.pstStatDrvflt true s t) ∧
    (pstMode x s ≠ 0 → ∃ t, exec (.undervoltageTrip x) s = .next t ∧ t.b1 F.pstStatUv x = true ∧ StageRaised x s t ∧
      StageEvent x false s t ∧ pstMode x t = 0 ∧ (t.pin x).restart = true ∧ t.mem = s.mem) ∧
    (pstMode x s = 0 → exec (.undervoltageTrip x) s = .next s) ∧
    ((s.pin x).ss = true → ∃ t, exec (.softStartTimeout x) s = .next t ∧ StageTrip x F.pstStatSsfail true s t) ∧
    ((s.pin x).ss = false → exec (.softStartTimeout x) s = .next s)

/-- Presence: a panel that appears sets PRESENT and PRESCHG, and restarts an input that presence loss or undervoltage took to OFF when PRES.UVR allows it and nothing holds it; one that disappears takes a running input to OFF with REMOVED, ready to restart, and fails a soft start. -/
def StagePresenceRule : Prop :=
  ∀ (x : Fin 8) (s : State), Runs (pstDomain x) s → s.sound = true →
    let resume := s.g1 F.pstStatResume x
    let again := (s.pin x).restart && s.b1 F.pstPresUvr x && !s.b1 F.pstStatLockout x && !safeHold s &&
      decide (pstMode x s = 0 ∧ 1 ≤ resume ∧ resume ≤ 4)
    (s.b1 F.pstStatPresent x = true → exec (.presenceDetected x) s = .next s) ∧
    (s.b1 F.pstStatPresent x = false →
      ∃ t, exec (.presenceDetected x) s = .next t ∧ t.b1 F.pstStatPresent x = true ∧ t.b1 F.pstStatPreschg x = true ∧
        StageRaised x s t ∧ StageEvent x false s t ∧ (t.pin x).restart = false ∧ t.mem = s.mem ∧
        (again = false → pstMode x t = pstMode x s) ∧
        (again = true → pstMode x t = (if resume = 4 then 1 else resume) ∧ t.g1 F.pstModeMode x = resume ∧
          (t.pin x).ss = true ∧ t.g1 F.pstCmdilimVal x = 0 ∧ t.g1 F.pstStatSsdone x = 0)) ∧
    (s.b1 F.pstStatPresent x = false → exec (.presenceLost x) s = .next s) ∧
    (s.b1 F.pstStatPresent x = true →
      ∃ t, exec (.presenceLost x) s = .next t ∧ t.b1 F.pstStatPresent x = false ∧ t.b1 F.pstStatPreschg x = true ∧
        StageRaised x s t ∧ pstMode x t = 0 ∧ t.mem = s.mem ∧
        (pstMode x s = 0 → t.pst = s.pst ∧ StageEvent x false s t) ∧
        (pstMode x s ≠ 0 → t.b1 F.pstStatRemoved x = true ∧ (t.pin x).restart = true ∧
          ((s.pin x).ss = false → StageEvent x false s t) ∧
          ((s.pin x).ss = true → StageTrip x F.pstStatSsfail true s t)))

/-- Forced SAFE and bypass: PST_FORCE.SAFE takes every running input to SAFE; BYP may be set at any time and cleared only under the conditions of R106; after DWELL an input in SAFE without a pin demand regulates to VSAFE, its limit rising from 0. A command whose conditions do not hold leaves the state as it is: the model's choice, log 5. -/
def Obligations.ForcedSafeAndBypass : Prop :=
  (∀ (id : Id) (s : State), Reaches id F.pstForceSafe.reg .write s → s.sound = true →
    (∃ t, exec (.pstForceWrite id true) s = .next t ∧ t.resp.code = .ok ∧ t.g F.pstForceSafe = 1 ∧
      (∀ x < 8, pstMode x t = if pstMode x s = 0 then 0 else 5) ∧ t.mem = s.mem) ∧
    exec (.pstForceWrite id false) s = .next ((s.p F.pstForceSafe 0).answer .ok)) ∧
  (∀ (id : Id) (s : State), Reaches id F.pstBypByp.reg .write s →
    exec (.bypassWrite id true) s = .next ((s.p F.pstBypByp 1).answer .ok) ∧
    (s.b F.sysBootstatDone = true → safeDemand s = false → s.b F.fltSafestatDiscrepancy = false →
      s.b F.sysSupstatWarn = false → (∃ x < 8, s.b1 F.pstStatSsdone x = true ∧ 1 ≤ pstMode x s ∧ pstMode x s ≤ 4) →
      exec (.bypassWrite id false) s = .next ((s.p F.pstBypByp 0).answer .ok)) ∧
    ((s.b F.sysBootstatDone = false ∨ safeDemand s = true ∨ s.b F.fltSafestatDiscrepancy = true ∨
        s.b F.sysSupstatWarn = true ∨ ∀ x < 8, s.b1 F.pstStatSsdone x = false ∨ pstMode x s = 0 ∨ 4 < pstMode x s) →
      exec (.bypassWrite id false) s = .next (s.answer .busy))) ∧
  ∀ (x : Fin 8) (s : State), Runs (pstDomain x) s →
    (pstMode x s = 5 → s.b1 F.pstStatSreg x = false → s.g1 F.pstVsafeMv x ≠ 0 → safeDemand s = false →
      s.sound = true →
      ∃ t, exec (.safeDwellExpiry x) s = .next t ∧ t.g1 F.pstStatMode x = 5 ∧ t.g1 F.pstStatSreg x = 1 ∧
        t.g1 F.pstCmdilimVal x = 0 ∧ t.g1 F.pstStatSsdone x = 0 ∧ (t.pin x).ss = true ∧ (t.pin x).ssPass = false) ∧
    ((pstMode x s ≠ 5 ∨ s.b1 F.pstStatSreg x = true ∨ s.g1 F.pstVsafeMv x = 0 ∨ safeDemand s = true) →
      exec (.safeDwellExpiry x) s = .next s)

/-- A field of `w` bits after one step of at most `r` toward its target; at once where `r` is 0 (R248). -/
def steppedTo (w v target r v' : Nat) : Prop :=
  (r = 0 → v' = target % 2 ^ w) ∧ (0 < r → v ≤ target → v' = min (v + r) target % 2 ^ w) ∧
    (0 < r → target ≤ v → v' = max (v - r) target % 2 ^ w)

/-- The periodic steps: a slew step moves the commanded values of every running input toward their targets by the slew rates and leaves an input in OFF alone; every 100 µs the period in use moves toward its aim by at most 1/1 024 of itself, but is held after one or two missing reference edges. -/
def SlewAndPeriodStepsRule : Prop :=
  ∀ (s : State), awake s = true → s.sound = true →
    (∃ t, exec .slewStep s = .next t ∧ t.mem = s.mem ∧
      ∀ x < 8, domUp (pstDomain x) s = true → pstMode x s ≠ 0 →
        steppedTo 17 (s.g1 F.pstCmdvoutVal x) (s.g1 F.pstVoutMv x) (s.g1 F.pstSlewSv x) (t.g1 F.pstCmdvoutVal x) ∧
        steppedTo 17 (s.g1 F.pstCmdvinVal x) (s.g1 F.pstVinMv x) (s.g1 F.pstSlewSv x) (t.g1 F.pstCmdvinVal x) ∧
        steppedTo 17 (s.g1 F.pstCmdvsafeVal x) (s.g1 F.pstVsafeMv x) (s.g1 F.pstSlewSv x) (t.g1 F.pstCmdvsafeVal x) ∧
        steppedTo 17 (s.g1 F.pstCmdilimVal x) (s.g1 F.pstIlimMa x)
          (if (s.pin x).ss then s.g1 F.pstSsRate x else s.g1 F.pstSlewSi x) (t.g1 F.pstCmdilimVal x)) ∧
    ((∀ x < 8, pstMode x s = 0 ∨ domUp (pstDomain x) s = false) → exec .slewStep s = .next s) ∧
    ∃ t, exec .syncSlewStep s = .next t ∧ OnlyRegs s t ∧
      ∀ x < 8, domUp (pstDomain x) s = true →
        if (s.pin x).missRun = 1 ∨ (s.pin x).missRun = 2 then t.g1 F.pstPernowPer x = s.g1 F.pstPernowPer x
        else steppedTo 16 (s.g1 F.pstPernowPer x) (s.pin x).aim (max (s.g1 F.pstPernowPer x / 1024) 1) (t.g1 F.pstPernowPer x)

/-- Periods and update points: the two switches of a leg are never both high; a period start of phase 0 takes up the committed period set and the written comparator settings and ends an overcurrent hold; one of phase 1 takes up phase 0's set and period; an update point loads the phase's shadows into its active compares, phase 1 trimmed; the end of a balance window of 2^N periods moves TRIM by one step toward balance. A command whose conditions do not hold leaves the state as it is: the model's choice, log 5. -/
def Obligations.PeriodsAndUpdates : Prop :=
  (∀ (x y n : Nat) (s : State), let o := outputs x y n s
    (o.bh && o.bl) = false ∧ (o.kh && o.kl) = false) ∧
  ∀ (x : Fin 8) (s : State), Runs (pstDomain x) s → s.sound = true →
    (∀ e, ∃ t, exec (.pwmPeriodStart x 0 e) s = .next t ∧ (t.pin x).set0 = committedSet x s ∧
      (t.pin x).cmp = writtenCmp x s ∧ (t.pin x).trip0 = false ∧ (t.pin x).set1 = (s.pin x).set1 ∧
      (s.g1 F.pstSyncSrc x = 0 → t.g1 F.pstPernowPer x = s.g1 F.pstPerPer x % 2 ^ 16 ∧ (t.pin x).per0 = t.g1 F.pstPernowPer x) ∧
      (∀ m, (s.pin x).next = some m → m < 8 → t.g1 F.pstStatMode x = m) ∧
      ((s.pin x).next = none → t.g1 F.pstStatMode x = s.g1 F.pstStatMode x) ∧ t.mem = s.mem) ∧
    (∀ e, ∃ t, exec (.pwmPeriodStart x 1 e) s = .next t ∧ (t.pin x).set1 = (s.pin x).set0 ∧ (t.pin x).per1 = (s.pin x).per0 ∧
      (t.pin x).trip1 = false ∧ (t.pin x).set0 = (s.pin x).set0 ∧ t.regs = s.regs ∧
      (∀ m, (s.pin x).next = some m → pstMode x s = m → (t.pin x).m1 = m ∧ (t.pin x).next = none)) ∧
    (∃ t, exec (.updatePoint x 0) s = .next t ∧ (t.pin x).db0 = s.g1 F.pstDb0Duty x ∧ (t.pin x).dk0 = s.g1 F.pstDk0Duty x ∧
      (t.pin x).db1 = (s.pin x).db1 ∧ (t.pin x).dk1 = (s.pin x).dk1) ∧
    (let trim := if s.b1 F.pstBalEn x then trimOf x s else 0
      let p := (s.pin x).per1
      let d := fun (v : Nat) => min (max (Int.tdiv (256 * (v : Int) + trim * p) 256) 0).toNat p
      ∃ t, exec (.updatePoint x 1) s = .next t ∧ (t.pin x).db1 = d (s.g1 F.pstDb1Duty x) ∧
        (t.pin x).dk1 = d (s.g1 F.pstDk1Duty x) ∧ (t.pin x).db0 = (s.pin x).db0) ∧
    ((s.pin x).win < 2 ^ s.g1 F.pstBalN x → exec (.balanceWindowEnd x) s = .next s) ∧
    (s.b1 F.pstBalEn x = true → 2 ^ s.g1 F.pstBalN x ≤ (s.pin x).win → 0 < (s.pin x).n0 → 0 < (s.pin x).n1 →
      let p := s.pin x
      let gap := p.sum1 * p.n0 - p.sum0 * p.n1
      let lim : Int := (s.g1 F.pstBalDb x : Int) * (p.n0 * p.n1 : Nat)
      let cleared := s.modPin x (fun q => { q with n0 := 0, sum0 := 0, n1 := 0, sum1 := 0, win := 0 })
      (gap < -lim → -32 ≤ trimOf x s → trimOf x s < 16 →
        ∃ t, exec (.balanceWindowEnd x) s = .next t ∧ trimOf x t = trimOf x s + 1 ∧ t.pst = cleared.pst) ∧
      (lim < gap → -16 < trimOf x s → trimOf x s < 32 →
        ∃ t, exec (.balanceWindowEnd x) s = .next t ∧ trimOf x t = trimOf x s - 1 ∧ t.pst = cleared.pst) ∧
      ((gap < -lim ∧ trimOf x s = 16) ∨ (lim < gap ∧ ¬ gap < -lim ∧ trimOf x s = -16) →
        ∃ t, exec (.balanceWindowEnd x) s = .next t ∧ t.b1 F.pstStatBalLim x = true ∧ trimOf x t = trimOf x s ∧
          StageRaised x s t ∧ t.pst = cleared.pst) ∧
      (-lim ≤ gap → gap ≤ lim → exec (.balanceWindowEnd x) s = .next cleared))

/-- An external reference: an input that follows SYNCIN counts its edges by DIV; a reference within 20 % of the committed period is good and the fourth in a row sets the aim, which every later one moves; one further off is a missing edge, and the third missing in a row loses lock with SYNC_LOST and turns the aim back to the committed period. An input with the internal reference is left alone. -/
def SyncReferenceRule : Prop :=
  (∀ (gap phErr : Nat) (s : State), awake s = true → s.sound = true →
    ((∀ x < 8, (s.pin x).set0.src ≠ 1 ∨ domUp (pstDomain x) s = false) → exec (.syncinEdge gap phErr) s = .next s) ∧
    ∃ t, exec (.syncinEdge gap phErr) s = .next t ∧ t.mem = s.mem ∧
      ∀ x < 8, domUp (pstDomain x) s = true → (s.pin x).set0.src = 1 →
        let p := s.pin x
        let ref := 16 * (p.gap + gap)
        let good := 5 * (max ref p.set0.per - min ref p.set0.per) ≤ p.set0.per
        (p.edges + 1 < p.set0.div → t.pin x = { p with edges := p.edges + 1, gap := p.gap + gap }) ∧
        (p.set0.div ≤ p.edges + 1 → good → p.follow = false → p.goodRun < 3 →
          t.pin x = { p with edges := 0, gap := 0, missRun := 0, goodRun := p.goodRun + 1, phErr := phErr }) ∧
        (p.set0.div ≤ p.edges + 1 → good → (p.follow = true ∨ 3 ≤ p.goodRun) →
          t.pin x = { p with
            edges := 0, gap := 0, missRun := 0, goodRun := min (p.goodRun + 1) 4, phErr := phErr, aim := ref, follow := true }) ∧
        (p.set0.div ≤ p.edges + 1 → ¬ good → p.missRun ≠ 2 →
          t.pin x = { p with edges := 0, gap := 0, missRun := p.missRun + 1, goodRun := 0 }) ∧
        (p.set0.div ≤ p.edges + 1 → ¬ good → p.missRun = 2 →
          t.b1 F.pstStatSyncLost x = true ∧ t.b1 F.pstStatSynclk x = false ∧
          t.pin x = { p with
            edges := 0, gap := 0, missRun := 3, goodRun := 0, aim := p.set0.per, follow := false })) ∧
  ∀ (x : Fin 8) (s : State), Runs (pstDomain x) s → s.sound = true →
    let p := s.pin x
    (p.set0.src = 0 → exec (.syncEdgeMissing x) s = .next s) ∧
    (p.set0.src ≠ 0 → p.missRun ≠ 2 →
      exec (.syncEdgeMissing x) s = .next (s.modPin x (fun p => { p with missRun := p.missRun + 1, goodRun := 0 }))) ∧
    (p.set0.src ≠ 0 → p.missRun = 2 →
      ∃ t, exec (.syncEdgeMissing x) s = .next t ∧ t.b1 F.pstStatSyncLost x = true ∧ t.b1 F.pstStatSynclk x = false ∧
        StageRaised x s t ∧ t.mem = s.mem ∧
        t.pin x = { p with missRun := 3, goodRun := 0, aim := p.set0.per, follow := false })


/-! ### Control engine -/

/-- Lane `l` issues word `w` of the run `i` next, D4 being on (R267, R270). -/
def CeIssues (l : Fin 2) (i : CeInst) (w : Nat) (s : State) : Prop :=
  Runs 4 s ∧ s.ce.lane l = some i ∧ i.pc < progLen i.idx i.prog ∧ ceText i.idx i.prog i.pc = w

/-- r[F] of the run, as a signed number, F standing at bit `b` of the word. -/
def ceR (i : CeInst) (w b : Nat) (s : State) : Int := (ceReg i (bitsOf w b 5) s).toInt

/-- An instruction that loads accumulator A of the word with an exact result: it wraps to 64 bits, setting AOVF (R269). Another word than its own leaves the lane as it is. -/
def CeAccRow (op mbz : Nat) (mk : Fin 2 → Instr) (result : CeInst → Nat → State → Int) : Prop :=
  ∀ (l : Fin 2) (i : CeInst) (w : Nat) (s : State), CeIssues l i w s →
    (bitsOf w 27 5 = op → w &&& mbz = 0 →
      let v := result i w s
      exec (mk l) s = .next (ceNext l ({ i with acc := Tab.put 0 i.acc (bitsOf w 25 2) (BitVec.ofInt 64 v) },
        if -2 ^ 63 ≤ v ∧ v < 2 ^ 63 then s else s.p F.ceStatAovf 1))) ∧
    (bitsOf w 27 5 ≠ op → exec (mk l) s = .next s)

/-- An instruction that writes r[F1] of the word. -/
def CeRegRow (op mbz : Nat) (mk : Fin 2 → Instr) (result : CeInst → Nat → State → BitVec 32) : Prop :=
  ∀ (l : Fin 2) (i : CeInst) (w : Nat) (s : State), CeIssues l i w s →
    (bitsOf w 27 5 = op → w &&& mbz = 0 →
      exec (mk l) s = .next (ceNext l (ceSetReg i (bitsOf w 20 5) (result i w s) s))) ∧
    (bitsOf w 27 5 ≠ op → exec (mk l) s = .next s)

/-- The accumulator instructions: products are exact and shifted right rounding toward minus infinity; ADA and LDA shift left, ASR shifts the accumulator right. -/
def CeAccumulatorsRule : Prop :=
  let coef := fun (i : CeInst) (w : Nat) (s : State) =>
    ceR i w 20 s * coefVal i.idx i.prog (bitsOf w 9 6) / 2 ^ coefSh i.idx i.prog (bitsOf w 9 6)
  let regs := fun (i : CeInst) (w : Nat) (s : State) => ceR i w 20 s * ceR i w 15 s / 2 ^ bitsOf w 4 5
  let left := fun (i : CeInst) (w : Nat) (s : State) => ceR i w 20 s * 2 ^ bitsOf w 4 5
  let acc := fun (i : CeInst) (w : Nat) => ceAcc i (bitsOf w 25 2)
  CeAccRow 0x01 0x000F81FF .ceMac (fun i w s => acc i w + coef i w s) ∧
  CeAccRow 0x02 0x000F81FF .ceMsu (fun i w s => acc i w - coef i w s) ∧
  CeAccRow 0x03 0x000F81FF .ceMul (fun i w s => coef i w s) ∧
  CeAccRow 0x04 0x00007E0F .ceMacr (fun i w s => acc i w + regs i w s) ∧
  CeAccRow 0x05 0x00007E0F .ceMulr (fun i w s => regs i w s) ∧
  CeAccRow 0x06 0x000FFE0F .ceAda (fun i w s => acc i w + left i w s) ∧
  CeAccRow 0x07 0x000FFE0F .ceLda (fun i w s => left i w s) ∧
  CeAccRow 0x08 0x01FFFFFF .ceCla (fun _ _ _ => 0) ∧
  CeAccRow 0x09 0x01FFFE0F .ceAsr (fun i w _ => acc i w / 2 ^ bitsOf w 4 5)

/-- The register instructions: 32-bit sums and differences wrap, MIN and MAX compare as signed numbers, SEL looks at the accumulator's sign, LDI extends its immediate, RDP reads a port. -/
def CeRegistersRule : Prop :=
  let r2 := fun (i : CeInst) (w : Nat) (s : State) => ceReg i (bitsOf w 15 5) s
  let r3 := fun (i : CeInst) (w : Nat) (s : State) => ceReg i (bitsOf w 10 5) s
  CeRegRow 0x0C 0x060003FF .ceAdd (fun i w s => BitVec.ofInt 32 (ceR i w 15 s + ceR i w 10 s)) ∧
  CeRegRow 0x0D 0x060003FF .ceSub (fun i w s => BitVec.ofInt 32 (ceR i w 15 s - ceR i w 10 s)) ∧
  CeRegRow 0x0E 0x060003FF .ceMin (fun i w s => BitVec.ofInt 32 (min (ceR i w 15 s) (ceR i w 10 s))) ∧
  CeRegRow 0x0F 0x060003FF .ceMax (fun i w s => BitVec.ofInt 32 (max (ceR i w 15 s) (ceR i w 10 s))) ∧
  CeRegRow 0x10 0x06007FFF .ceMov r2 ∧
  CeRegRow 0x11 0x000003FF .ceSel (fun i w s => if ceAcc i (bitsOf w 25 2) < 0 then r2 i w s else r3 i w s) ∧
  CeRegRow 0x12 0x060F0000 .ceLdi (fun _ w _ => (BitVec.ofNat 16 w).signExtend 32) ∧
  CeRegRow 0x13 0x060FF000 .ceRdp (fun i w s => portReadBy i (bitsOf w 0 12) s)

/-- What a clamping instruction does: r[F1] takes the value held between two limits, and a clamp sets SATF and is remembered for the run (R269). -/
def CeClamps (l : Fin 2) (i : CeInst) (f : Nat) (v lo hi : Int) (s : State) (t : Out) : Prop :=
  let r := ceSetReg i f (BitVec.ofInt 32 (max lo (min v hi))) s
  t = .next (ceNext l (if max lo (min v hi) = v then r else ({ r.1 with clamped := true }, r.2.p F.ceStatSatf 1)))

/-- SAT, SATW and PRE clamp, PRE only while FIRST of the program is set; WRP holds its write for the release; NOP does nothing; after each the lane goes on to the next word, and after the last the lane is free and the run awaits its release. -/
def Obligations.CeClampsAndFlow : Prop :=
  ∀ (l : Fin 2) (i : CeInst) (w : Nat) (s : State), CeIssues l i w s →
    let op := bitsOf w 27 5
    let acc := ceAcc i (bitsOf w 25 2)
    let c := bitsOf w 9 6
    (op = 0x0A → w &&& 0x000F81FF = 0 →
      CeClamps l i (bitsOf w 20 5) acc (coefVal i.idx i.prog c) (coefVal i.idx i.prog (c + 1)) s (exec (.ceSat l) s)) ∧
    (op = 0x0B → w &&& 0x000FFFFF = 0 →
      CeClamps l i (bitsOf w 20 5) acc (-2 ^ 31) (2 ^ 31 - 1) s (exec (.ceSatw l) s)) ∧
    (op = 0x15 → w &&& 0x000FF000 = 0 → NSet.has s.ce.first i.prog = true →
      CeClamps l i (bitsOf w 20 5) ((Tab.val 0 s.ce.last (bitsOf w 0 12) : BitVec 32).toInt - acc) (-2 ^ 31) (2 ^ 31 - 1) s
        (exec (.cePre l) s)) ∧
    (op = 0x15 → w &&& 0x000FF000 = 0 → NSet.has s.ce.first i.prog = false → exec (.cePre l) s = .next (ceNext l (i, s))) ∧
    (op = 0x14 → w &&& 0x060FF000 = 0 → exec (.ceWrp l) s =
      .next (ceNext l ({ i with held := i.held ++ [(bitsOf w 0 12, ceReg i (bitsOf w 20 5) s)] }, s))) ∧
    (op = 0x1F → w &&& 0x07FFFFFF = 0 →
      (i.pc + 1 < progLen i.idx i.prog →
        exec (.ceNop l) s = .next { s with ce := s.ce.setLane l (some { i with pc := i.pc + 1 }) }) ∧
      (i.pc + 1 = progLen i.idx i.prog →
        exec (.ceNop l) s =
          .next { s with ce := { s.ce.setLane l none with out := s.ce.out ++ [{ i with pc := i.pc + 1 }] } }))

/-- A trigger edge of one program that is idle and not paired makes it an instance and queues its conversions; one that is still busy loses the trigger with OVRN. A stage raises triggers only in a mode that switches; a free lane takes the run that became ready first, of those ready on one edge the one of the lowest program. A command whose conditions do not hold leaves the state as it is: the model's choice, log 5. -/
def Obligations.CeTriggers : Prop :=
  (∀ (n : Nat) (r : Instr) (s : State), Runs 4 s → s.sound = true →
    (r = .stimeTrigger ∧ progsOn (fun g => match g with
        | .stime k ofs => decide (phaseNow s % 2 ^ k = ofs % 2 ^ k)
        | _ => false) s = [n] ∨
      ∃ (x : Fin 8) (y : Fin 2), r = .pwmTrigger x y ∧ domUp (pstDomain x) s = true ∧ trigRaised x s = true ∧
        progsOn (fun g => g = .pwm x y) s = [n]) →
    paired s.ce.idx n = false → Tab.get s.ce.back n = none → s.b F.ceStatHalted = false → degrOf n s = 0 →
    s.ce.pend = [] →
    (progBusy n s = false → exec r s = .next { s with
      ce := { s.ce with div := Tab.put 0 s.ce.div n 0, queue := s.ce.queue ++ [newInst n s] }
      adc := { s.adc with trig := (trigConvs s.ce.idx s.stm.sclk [n]).foldl joinConvs s.adc.trig } }) ∧
    (progBusy n s = true → ∃ t, exec r s = .next t ∧ t.g F.ceStatOvrn = 1 ∧
      t.g F.ceOvrcntCount = min (s.g F.ceOvrcntCount + 1) 65535 ∧ t.mem = s.mem)) ∧
  (∀ (x : Fin 8) (y : Fin 2) (s : State), s.sound = true → trigRaised x s = false → exec (.pwmTrigger x y) s = .next s) ∧
  ∀ (l : Fin 2) (s : State), Runs 4 s →
    (∀ i ∈ s.ce.queue, s.ce.lane l = none → i.lane = l.val → i.need = [] →
      (∀ j ∈ s.ce.queue, j.lane = l.val → j.need = [] →
        j = i ∨ i.ready < j.ready ∨ (i.ready = j.ready ∧ i.prog < j.prog)) →
      exec (.instanceDispatch l) s = .next { s with ce := { s.ce.setLane l (some i) with
        queue := s.ce.queue.filter (fun x => x.prog ≠ i.prog), disp := Tab.set s.ce.disp i.prog s.stm.sclk } }) ∧
    ((s.ce.lane l ≠ none ∨ ∀ i ∈ s.ce.queue, i.lane ≠ l.val ∨ i.need ≠ []) → exec (.instanceDispatch l) s = .next s)

/-- A release writes the ports the run held, and ends FIRST of its program: a duty goes to the stage's shadow and restarts its count of periods; a halted engine releases nothing. A failover proof degrades every program that has to, at once, and records the proof. A command whose conditions do not hold leaves the state as it is: the model's choice, log 5. -/
def Obligations.CeReleaseAndProof : Prop :=
  (∀ (l : Fin 2) (i : CeInst) (s : State), Runs 4 s → s.sound = true → dueOn l s = some i → dutyLate i s = false →
    (s.b F.ceStatHalted = true → exec (.instanceRelease l) s = .next { s with ce := { s.ce with out := s.ce.out.erase i } }) ∧
    (s.b F.ceStatHalted = false → (∀ n < 4, s.g1 F.trcStatState n = 0 ∨ s.g1 F.trcCfgPrg n ≠ i.prog) →
      progsOn (fun g => match g with
        | .nest q _ => q = i.prog
        | _ => false) s = [] → i.own = none →
      (i.held = [] → exec (.instanceRelease l) s = .next { s with ce := { s.ce with
        out := s.ce.out.erase i, first := NSet.del s.ce.first i.prog } }) ∧
      (∀ (x : Fin 8) (v : BitVec 32), Tab.rising s.ce.last = true → i.held = [(0x100 + 4 * x.val, v)] → degrOf (repOf i.idx i.prog) s = 0 →
        ∃ t, exec (.instanceRelease l) s = .next t ∧ t.g1 F.pstDb0Duty x = v.toNat % 2 ^ 16 ∧ (t.pin x).since = some 0 ∧
          Tab.val 0 t.ce.last (0x100 + 4 * x) = v ∧ t.ce.out = s.ce.out.erase i ∧ t.mem = s.mem) ∧
      (∀ (k : Fin 32) (v : BitVec 32), i.held = [(0x80 + k.val, v)] → (∀ q m, progTrig i.idx i.prog ≠ some (.nest q m)) →
        ∃ t, exec (.instanceRelease l) s = .next t ∧ t.g1 F.ceSpVal k = v.toNat ∧ t.ce.out = s.ce.out.erase i ∧
          t.mem = s.mem))) ∧
  (∀ (l : Fin 2) (s : State), s.sound = true → dueOn l s = none → exec (.instanceRelease l) s = .next s) ∧
  ∀ s : State, Runs 4 s → s.sound = true →
    (s.ce.reproof = false → exec .failoverProofDone s = .next s) ∧
    (s.ce.reproof = true →
      let p := degradeTo s
      ((∀ n < 32, repOf s.ce.idx n = n → p.step n = degrOf n s) →
        exec .failoverProofDone s = .next (recordProof p.run { s with ce := { s.ce with reproof := false, back := [] } })) ∧
      ∃ t, exec .failoverProofDone s = .next t ∧ t.ce.reproof = false ∧
        (∀ n < 32, repOf s.ce.idx n = n → degrOf n s < p.step n → degrOf n t = p.step n) ∧
        ((∃ n < 32, repOf s.ce.idx n = n ∧ p.step n ≠ degrOf n s) → t.g F.ceStatDegr = 1))

/-- The engine's registers and the trace buffers: a write of a set-point slot is its value at once; CE_IDATA stages an index of the set, refuses a state register, reads either, and moves the writer's index on; ARM starts an idle or finished buffer of its owner afresh, FORCE acts on an armed one, STOP ends it at once from any state; a TRC_TRIG edge, on a pin that carries it, marks every armed buffer. A command whose conditions do not hold leaves the state as it is: the model's choice, log 5. -/
def Obligations.CeRegistersAndTrace : Prop :=
  (∀ (id : Id) (k : Fin 32) (v : Word) (s : State), Reaches id (F.ceSpVal.reg k) .write s →
    exec (.ceSpWrite id k v) s = .next ({ s.p1 F.ceSpVal k v.toNat with
      ce := { s.ce with last := Tab.put 0 s.ce.last (0x80 + k) v } }.answer .ok)) ∧
  (∀ (id : Id) (v : Word) (s : State), Reaches id F.ceIdataData.reg .write s →
    let i := Tab.val 0 s.ce.iaddr id
    let on := fun (t : State) => { t with ce := { t.ce with iaddr := Tab.put 0 t.ce.iaddr id ((i + 1) % 2 ^ 16) } }
    (i < 0x3080 → (s.stage 8).owner = none → exec (.ceIdataAccess id (some v)) s =
      .next ((on (s.setStage 8 { owner := some id, gone := none, vals := [(i, ixWord i v.toNat)] })).answer .ok)) ∧
    (∀ o, i < 0x3080 → (s.stage 8).owner = some o → o ≠ id → exec (.ceIdataAccess id (some v)) s = .next (s.answer .busy)) ∧
    (0x4000 ≤ i → i < 0x4200 → exec (.ceIdataAccess id (some v)) s = .next (s.answer .denied)) ∧
    ((0x3080 ≤ i ∧ i < 0x4000) ∨ 0x4200 ≤ i → exec (.ceIdataAccess id (some v)) s = .next (s.answer .invalid))) ∧
  (∀ (id : Id) (s : State), Reaches id F.ceIdataData.reg .read s →
    let i := Tab.val 0 s.ce.iaddr id
    let on := { s with ce := { s.ce with iaddr := Tab.put 0 s.ce.iaddr id ((i + 1) % 2 ^ 16) } }
    (i < 0x3080 → exec (.ceIdataAccess id none) s = .next (on.answer .ok (Tab.val 0 s.ce.idx i))) ∧
    (0x4000 ≤ i → i < 0x4200 → exec (.ceIdataAccess id none) s =
      .next (on.answer .ok (Tab.val 0 s.ce.xs (i - 0x4000) : BitVec 32).toNat)) ∧
    ((0x3080 ≤ i ∧ i < 0x4000) ∨ 0x4200 ≤ i → exec (.ceIdataAccess id none) s = .next (s.answer .invalid))) ∧
  (∀ (id : Id) (n : Fin 4) (s : State), Reaches id (F.trcCtlArm.reg n) .write s →
    let st := s.g1 F.trcStatState n
    let mine := s.b1 F.trcOwnHeld n = true ∧ s.g1 F.trcOwnOwner n = id
    (mine → st = 0 ∨ st = 3 → exec (.traceArm id n) s =
      .next ((((s.p1 F.trcStatState n 1).p1 F.trcStatCount n 0).modTrc n (fun x => { x with
        forced := false, edge := false, prev := none, skip := 0, left := 0 })).answer .ok)) ∧
    (mine → st = 1 ∨ st = 2 → exec (.traceArm id n) s = .next (s.answer .ok)) ∧
    (mine → st = 1 → exec (.traceForce id n) s = .next ((s.modTrc n (fun x => { x with forced := true })).answer .ok)) ∧
    (mine → st ≠ 1 → exec (.traceForce id n) s = .next (s.answer .ok)) ∧
    (mine → exec (.traceStop id n) s = .next ((s.p1 F.trcStatState n 3).answer .ok)) ∧
    ∀ i ∈ [Instr.traceArm id n, .traceForce id n, .traceStop id n],
      (s.b1 F.trcOwnHeld n = false → exec i s = .next (s.answer .notClaimed)) ∧
      (s.b1 F.trcOwnHeld n = true → s.g1 F.trcOwnOwner n ≠ id → exec i s = .next (s.answer .busy))) ∧
  ∀ s : State, Runs 4 s →
    (s.g1 F.sysGpFunc 8 ≠ 3 → s.g1 F.sysGpFunc 20 ≠ 3 → exec .trcTrigEdge s = .next s) ∧
    (s.g1 F.sysGpFunc 8 = 3 ∨ s.g1 F.sysGpFunc 20 = 3 → Tab.rising s.ce.trc = true →
      ∃ t, exec .trcTrigEdge s = .next t ∧ t.regs = s.regs ∧ t.mem = s.mem ∧
        ∀ n < 4, t.trc n = if s.g1 F.trcStatState n = 1 then { s.trc n with edge := true } else s.trc n)


/-! ### Converters -/

/-- Conversions: a result goes, corrected by its entry's offset and gain and clamped to its range, to the channel's last-result register; a triggered one leaves the queue of triggers, a one-shot leaves its queue and enters the FIFO, a held channel's enters the FIFO; a full FIFO drops the word with FOVF. A slot that began before the last write of the table or of the format uses what stood before it. Nothing lands on a converter that does not serve the channel. A command whose conditions do not hold leaves the state as it is: the model's choice, log 5. -/
def Obligations.ConversionResults : Prop :=
  ∀ (m l : Fin 2) (hold : Bool) (raw : BitVec 14) (early calEarly : Bool) (s : State), Runs (5 + m) s → s.sound = true →
    (adcServer l s ≠ m ∨ adcServes m s = false → exec (.conversionResult m l hold raw early calEarly) s = .next s) ∧
    (adcServer l s = m → adcServes m s = true → ∀ ch : Fin 32,
      let d := isDiff l ch s
      let k := calFor l ch (decide (m ≠ l)) calEarly s
      let r : Int := if d then raw.toInt else raw.toNat
      let c := max (codeLo d) (min (codeHi d) (((256 * r - k.ofs) * k.gain + 2 ^ 37) / 2 ^ 38))
      let f := fmtOf l ch early s
      let v := if d && !f.2 then c + 8192 else c
      let room := (s.conv l).fifo.length < 16
      let word := (fifoData v f.1 f.2).toNat * 2 ^ 16 + (s.conv l).seqn % 256 * 256 + bit k.cald * 128 +
        bit (decide (r = codeLo d) || decide (r = codeHi d)) * 64 + m * 32 + ch
      let into := fun (t : State) => t.g2 F.adcLastValue l ch = (lastWord v f.1 f.2).toNat ∧ t.mem = s.mem
      let pushed := fun (t : State) => (t.conv l).fifo = (s.conv l).fifo ++ [word] ∧
        (t.conv l).seqn = ((s.conv l).seqn + 1) % 256 ∧ t.g1 F.adcFstatCount l = (s.conv l).fifo.length + 1
      (∀ g, s.adc.trig.find? (fun g => adcServer g.conv s = m) = some g → g.conv = l → g.ch = ch →
        ∃ t, exec (.conversionResult m l hold raw early calEarly) s = .next t ∧ into t ∧ (t.conv l).fifo = (s.conv l).fifo) ∧
      (s.adc.trig.find? (fun g => adcServer g.conv s = m) = none → calHolds l s = false →
        (∀ rest, (s.conv l).shots = ch.val :: rest →
          ∃ t, exec (.conversionResult m l hold raw early calEarly) s = .next t ∧ into t ∧ (t.conv l).shots = rest ∧
            t.g1 F.adcNextQlen l = rest.length % 8 ∧ (room → pushed t) ∧
            (¬ room → t.g (fovfFam l) = 1 ∧ (t.conv l).fifo = (s.conv l).fifo)) ∧
        ((s.conv l).shots = [] → hold = true → s.b1 F.adcNextHold l = true → gateOpen l s = true →
          s.g1 F.adcNextCh l = ch →
          ∃ t, exec (.conversionResult m l hold raw early calEarly) s = .next t ∧ into t ∧ (room → pushed t)) ∧
        ((s.conv l).shots = [] → (hold = false ∨ s.b1 F.adcNextHold l = false ∨ gateOpen l s = false) →
          exec (.conversionResult m l hold raw early calEarly) s = .next s)))

/-- The converter's registers: a one-shot is queued, four at most; HOLD keeps a channel and a divider, HOFF ends it; a read of the FIFO takes its oldest word, BUSY when it is empty; ARM of a window holds its stamps, refusing an empty or a second window, and STOP ends an open window with WDONE, disarms an armed one, and otherwise counts an orphan. -/
def Obligations.ConverterRegisters : Prop :=
  ∀ (id : Id) (l : Fin 2) (s : State),
    (Reaches id (F.adcNextCh.reg l) .write s →
      (∀ ch : Fin 32, (s.conv l).shots.length < 4 → exec (.nextOneshot id l ch) s =
        .next (((s.modConv l (fun c => { c with shots := c.shots ++ [ch.val] })).p1 F.adcNextQlen l
          ((s.conv l).shots.length + 1)).answer .ok)) ∧
      (∀ ch : Fin 32, 4 ≤ (s.conv l).shots.length → exec (.nextOneshot id l ch) s = .next (s.answer .busy)) ∧
      (∀ (ch : Fin 32) (hdiv : BitVec 4), exec (.holdOn id l ch hdiv) s =
        .next ((((s.p1 F.adcNextCh l ch).p1 F.adcNextHdiv l hdiv.toNat).p1 F.adcNextHold l 1).answer .ok)) ∧
      exec (.holdOff id l) s = .next ((s.p1 F.adcNextHold l 0).answer .ok)) ∧
    (Reaches id (F.adcFifoWord.reg l) .read s →
      ((s.conv l).fifo = [] → exec (.fifoPop id l) s = .next (s.answer .busy)) ∧
      ∀ w rest, (s.conv l).fifo = w :: rest → exec (.fifoPop id l) s =
        .next (((s.modConv l (fun c => { c with fifo := rest })).p1 F.adcFstatCount l rest.length).answer .ok w)) ∧
    (Reaches id (F.adcWctlArm.reg l) .write s → s.sound = true → ∀ gate : Bool,
      let a := s.g1 F.adcWstcCycle l * 2 ^ 16 + s.g1 F.adcWphStart l
      let z := s.g1 F.adcWspcCycle l * 2 ^ 16 + s.g1 F.adcWphStop l
      (emptyWindow a z = true → exec (.windowArm id l gate) s = .next (s.answer .emptyWindow)) ∧
      (emptyWindow a z = false → s.b1 F.adcWctlArmed l = true ∨ s.b1 F.adcWctlOpen l = true →
        exec (.windowArm id l gate) s = .next (s.answer .busy)) ∧
      (emptyWindow a z = false → s.b1 F.adcWctlArmed l = false → s.b1 F.adcWctlOpen l = false →
        stampDue a (stampNow s) = false →
        ∃ t, exec (.windowArm id l gate) s = .next t ∧ t.resp.code = .ok ∧ t.g1 F.adcWctlArmed l = 1 ∧
          t.g1 F.adcWctlOpen l = 0 ∧ (t.conv l).start = a ∧ (t.conv l).stop = z ∧ t.g1 F.adcWctlGate l = bit gate) ∧
      (emptyWindow a z = false → s.b1 F.adcWctlArmed l = false → s.b1 F.adcWctlOpen l = false →
        stampPast a (stampNow s) = true → stampDue z (stampNow s) = false →
        ∃ t, exec (.windowArm id l gate) s = .next t ∧ t.resp.code = .ok ∧ t.g1 F.adcWctlArmed l = 0 ∧
          t.g1 F.adcWctlOpen l = 1 ∧ t.g1 F.adcWctlLate l = 1) ∧
      (s.b1 F.adcWctlOpen l = true → ∃ t, exec (.windowStop id l gate) s = .next t ∧ t.resp.code = .ok ∧
        t.g1 F.adcWctlOpen l = 0 ∧ t.g1 F.adcWctlWdone l = 1 ∧ OnlyRegs s t) ∧
      (s.b1 F.adcWctlOpen l = false → s.b1 F.adcWctlArmed l = true →
        ∃ t, exec (.windowStop id l gate) s = .next t ∧ t.resp.code = .ok ∧ t.g1 F.adcWctlArmed l = 0 ∧
          t.g1 F.adcWctlOpen l = 0 ∧ OnlyRegs s t) ∧
      (s.b1 F.adcWctlOpen l = false → s.b1 F.adcWctlArmed l = false →
        ∃ t, exec (.windowStop id l gate) s = .next t ∧ t.resp.code = .ok ∧
          t.g1 F.adcWctlOrphan l = min (s.g1 F.adcWctlOrphan l + 1) (2 ^ F.adcWctlOrphan.w - 1) ∧
          t.g1 F.adcWctlGate l = s.g1 F.adcWctlGate l ∧ OnlyRegs s t))

/-- Calibration: a command starts on the converter its path names, with 2^4 to 2^12 conversions; ZERO holds the mean as the pending offset, FULL computes the gain from it, SET takes both from the registers; FULL and SET write the entry, and no other byte, to its line. A result at a limit or a gain outside its range ends the command with INVALID. A converter that has read its table holds the entries the lines spell. -/
def CalibrationRule : Prop :=
  (∀ (id : Id) (conv : Fin 2) (ch : Fin 32) (cross : Bool) (avg : BitVec 4) (s : State),
    Reaches id F.adcCalcmdCmd.reg .write s →
    ∀ r ∈ [((1 : Nat), Instr.calZero id conv ch cross avg), (2, .calFull id conv ch cross avg),
      (3, .calSet id conv ch cross avg)],
      let ended := fun (c : Code) => raiseLine 27
        { (s.p F.adcCalstatCode c.num).p F.adcCalstatBusy 0 with adc := { s.adc with run := none } }
      let m := if cross then 1 - conv.val else conv.val
      (s.adc.run ≠ none → exec r.2 s = .next (s.answer .busy)) ∧
      (s.adc.run = none → avg < 4 ∨ 12 < avg → exec r.2 s = .next ((ended .invalid).answer .ok)) ∧
      (s.adc.run = none → 4 ≤ avg → avg ≤ 12 → adcServes m s = false → exec r.2 s = .next ((ended .busy).answer .ok)) ∧
      (s.adc.run = none → 4 ≤ avg → avg ≤ 12 → adcServes m s = true → exec r.2 s = .next
        ({ s.p F.adcCalstatBusy 1 with
          adc := { s.adc with run := some ⟨r.1, conv.val, ch.val, cross, avg.toNat⟩ } }.answer .ok))) ∧
  (∀ (sum : Int) (r : CalRun) (s : State), Runs 11 s → s.adc.run = some r → s.sound = true → s.nvs.q = [] →
    let e := calEntry r.conv r.ch r.cross
    let n : Int := 2 ^ r.avg
    let m := 256 * sum / n
    let written := fun (t : State) (ofs : Int) (g : Nat) =>
      t.word (calAddr e) = (BitVec.ofInt 32 ofs).toNat ∧ t.word (calAddr e + 4) = g % 2 ^ 32 ∧
      (∀ a, a < calAddr e ∨ calAddr e + 8 ≤ a → t.byte a = s.byte a) ∧
      Tab.get t.adc.cal e = some ⟨ofs, g, false⟩ ∧ t.g F.adcCalstatCode = 0 ∧ t.g F.adcCalstatBusy = 0 ∧ t.adc.run = none
    (r.cmd ≠ 3 → exec (.calCommandDone sum true) s = .next (raiseLine 27
      { (s.p F.adcCalstatCode Code.invalid.num).p F.adcCalstatBusy 0 with adc := { s.adc with run := none } })) ∧
    (r.cmd = 1 → m * n = 256 * sum →
      ∃ t, exec (.calCommandDone sum false) s = .next t ∧ t.g F.adcCalofsOfs = (BitVec.ofInt 32 m).toNat ∧
        t.adc.zero = some (e, m) ∧ t.adc.run = none ∧ t.g F.adcCalstatCode = 0 ∧ t.mem = s.mem) ∧
    (r.cmd = 2 → m * n = 256 * sum → r.conv < 2 → r.ch < 32 → lineOk (calAddr e) s = true → ∀ ofs, s.adc.zero = some (e, ofs) →
      let val := int16 (s.g F.adcCalvalVal)
      let g := (2 * (val * 2 ^ 38) + (m - ofs)) / (2 * (m - ofs))
      0 < val → ofs < m → 0x20000000 ≤ g → g ≤ 0x7FFFFFFF →
      ∃ t, exec (.calCommandDone sum false) s = .next t ∧ t.g F.adcCalgG = g.toNat ∧ written t ofs g.toNat) ∧
    (∀ lim, r.cmd = 3 → r.conv < 2 → r.ch < 32 → lineOk (calAddr e) s = true → 0x20000000 ≤ s.g F.adcCalgG →
      s.g F.adcCalgG ≤ 0x7FFFFFFF →
      ∃ t, exec (.calCommandDone sum lim) s = .next t ∧
        written t (BitVec.ofNat 32 (s.g F.adcCalofsOfs)).toInt (s.g F.adcCalgG)) ∧
    (∀ lim, r.cmd = 3 → (s.g F.adcCalgG < 0x20000000 ∨ 0x7FFFFFFF < s.g F.adcCalgG) →
      ∃ t, exec (.calCommandDone sum lim) s = .next t ∧ t.g F.adcCalstatCode = Code.invalid.num ∧ t.adc.cal = s.adc.cal ∧
        t.mem = s.mem)) ∧
  ∀ (m : Fin 2) (s : State), Runs 11 s → domUp (5 + m) s = true → Tab.rising s.adc.cal = true → s.nvs.q = [] →
    (∀ e < 128, lineOk (calAddr e) s = true) →
    ∃ t, exec (.calTableLoadDone m) s = .next t ∧ (t.conv m).loaded = true ∧ t.regs = s.regs ∧ t.mem = s.mem ∧
      ∀ ch < 32, ∀ e ∈ [32 * m.val + ch, 64 + 32 * (1 - m.val) + ch],
        Tab.get t.adc.cal e = if s.word (calAddr e + 4) = 0 then none
          else some ⟨(BitVec.ofNat 32 (s.word (calAddr e))).toInt, s.word (calAddr e + 4), false⟩

/-- Self-checks: a pair within tolerance counts as good and ends a run of bad ones, the first after a planned change returning the converter; a bad pair counts as bad; N bad ones in a row take the converter out of service with FAIL, ADC_FAILOVER, a re-proof and a fault event; RESTORE returns it after N good pairs, and is BUSY otherwise. -/
def SelfChecksRule : Prop :=
  ∀ (m : Fin 2) (s : State),
    let ok := if m = 0 then F.adcStatOk0 else F.adcStatOk1
    let served := if m = 0 then F.ceStatA0ok else F.ceStatA1ok
    (Runs (5 + m) s → s.sound = true → (s.conv m).loaded = true →
      (∀ d0 d1, exec (.selfCheck m true d0 d1) s = .next (s.p (if m = 0 then F.adcStatChkmiss0 else F.adcStatChkmiss1) 1)) ∧
      (∀ d0 d1, d0 ≤ s.g F.adcChkTol → d1 ≤ s.g F.adcChkTol → (s.conv m).planned = false →
        exec (.selfCheck m false d0 d1) s =
          .next (s.modConv m (fun c => { c with good := min (c.good + 1) 15, bad := 0 }))) ∧
      (∀ d0 d1, d0 ≤ s.g F.adcChkTol → d1 ≤ s.g F.adcChkTol → (s.conv m).planned = true →
        ∃ t, exec (.selfCheck m false d0 d1) s = .next t ∧ t.g ok = 1 ∧ (t.conv m).planned = false ∧ t.g served = 1 ∧
          t.ce.reproof = true) ∧
      (∀ d0 d1, (s.g F.adcChkTol < d0 ∨ s.g F.adcChkTol < d1) →
        exec (.selfCheck m false d0 d1) s =
          .next (s.modConv m (fun c => { c with bad := min (c.bad + 1) 15, good := 0 })))) ∧
    (Runs (5 + m) s → s.sound = true → ∀ noResult lost kept,
      (s.b ok = true → (noResult = true ∨ s.g F.adcChkN ≤ (s.conv m).bad) →
        ∃ t, exec (.converterFail m noResult lost kept) s = .next t ∧ t.g ok = 0 ∧
          t.g (if m = 0 then F.adcStatFail0 else F.adcStatFail1) = 1 ∧ t.g served = 0 ∧ t.g F.ceStatFovr = 1 ∧
          t.ce.reproof = true ∧ t.adc.trig = againFirst m lost kept s ∧ (fifoOf 14 t).length = min ((fifoOf 14 s).length + 1) 8 ∧ t.mem = s.mem) ∧
      (s.b ok = false → exec (.converterFail m noResult lost kept) s = .next s) ∧
      (noResult = false → (s.conv m).bad < s.g F.adcChkN → exec (.converterFail m noResult lost kept) s = .next s)) ∧
    ∀ id, Reaches id F.adcCtlRestore0.reg .write s → s.sound = true →
      (s.b ok = true → exec (.converterRestore id m) s = .next (s.answer .ok)) ∧
      (s.b ok = false → s.g F.adcChkN ≤ (s.conv m).good → isSevere 14 s = false → domUp (5 + m) s = true →
        (s.conv m).loaded = true →
        ∃ t, exec (.converterRestore id m) s = .next t ∧ t.resp.code = .ok ∧ t.g ok = 1 ∧ t.g served = 1 ∧
          t.ce.reproof = true ∧ t.mem = s.mem) ∧
      (s.b ok = false → ((s.conv m).good < s.g F.adcChkN ∨ isSevere 14 s = true ∨ (s.conv m).loaded = false) →
        exec (.converterRestore id m) s = .next (s.answer .busy))


/-! ### Housekeeping, the backup cell, the NVS array and DMA -/

/-- Rails: VSET is taken within its range in register mode and starts a ramp from the present voltage on a rail that is on; EN starts the ramp from 0 V, or is BUSY under LOCK or a strap fault and INVALID without a voltage; clearing it switches the rail off. Power good needs an enabled rail; an undervoltage after power good and a lasting overcurrent switch the rail off with their flag, HKR_RAIL and a fault event. A command whose conditions do not hold leaves the state as it is: the model's choice, log 5. -/
def Obligations.Rails : Prop :=
  (∀ (id : Id) (i : Fin 8) (mv : Half) (s : State), Reaches id (F.hkrVsetMv.reg i) .write s →
    let v := mv.toNat
    let legal := if i < 4 then 600 ≤ v ∧ v ≤ 3600 ∧ v % 10 = 0 else 800 ≤ v ∧ v ≤ 3300 ∧ v % 25 = 0
    (railClosed id s = true → exec (.railVsetWrite id i mv) s = .next (s.answer .busy)) ∧
    (railClosed id s = false → railReg i s = false → exec (.railVsetWrite id i mv) s = .next (s.answer .denied)) ∧
    (railClosed id s = false → railReg i s = true → ¬ legal → exec (.railVsetWrite id i mv) s = .next (s.answer .invalid)) ∧
    (railClosed id s = false → railReg i s = true → legal → s.b1 F.hkrEnEn i = false →
      exec (.railVsetWrite id i mv) s = .next ((s.p1 F.hkrVsetMv i v).answer .ok)) ∧
    (railClosed id s = false → railReg i s = true → legal → s.b1 F.hkrEnEn i = true →
      exec (.railVsetWrite id i mv) s = .next (((s.p1 F.hkrVsetMv i v).modRail i (fun r => { r with
        v0 := railCommand i s, t0 := s.stm.sclk, target := v, num := s.g1 F.hkrSlewSr i, den := 1 })).answer .ok))) ∧
  (∀ (id : Id) (i : Fin 8) (s : State), Reaches id (F.hkrEnEn.reg i) .write s →
    ∀ en, railClosed id s = true → exec (.railEnableWrite id i en) s = .next (s.answer .busy)) ∧
  (∀ (id : Id) (i : Fin 8) (s : State), Reaches id (F.hkrEnEn.reg i) .write s → s.sound = true → railClosed id s = false →
    (s.b1 F.hkrEnLock i = true ∨ railStrapFault i s = true →
      exec (.railEnableWrite id i true) s = .next (s.answer .busy)) ∧
    (s.b1 F.hkrEnLock i = false → railStrapFault i s = false → railReg i s = true → s.g1 F.hkrVsetMv i = 0 →
      exec (.railEnableWrite id i true) s = .next (s.answer .invalid)) ∧
    (s.b1 F.hkrEnLock i = false → railStrapFault i s = false → (railReg i s = true → s.g1 F.hkrVsetMv i ≠ 0) →
      (s.b1 F.hkrEnEn i = true → exec (.railEnableWrite id i true) s = .next (s.answer .ok)) ∧
      (s.b1 F.hkrEnEn i = false → ∃ t, exec (.railEnableWrite id i true) s = .next t ∧ t.resp.code = .ok ∧
        t.g1 F.hkrEnEn i = 1 ∧ getBit F.hkrRailstatOn i t = true ∧
        (∀ k < 8, k ≠ i → getBit F.hkrRailstatOn k t = getBit F.hkrRailstatOn k s) ∧ t.mem = s.mem ∧
        (railReg i s = true → t.rail i = { s.rail i with
          v0 := 0, t0 := s.stm.sclk, target := s.g1 F.hkrVsetMv i, num := s.g1 F.hkrSlewSr i, den := 1, once := false }) ∧
        (railReg i s = false → t.rail i = { s.rail i with
          v0 := 0, t0 := s.stm.sclk, target := (s.rail i).strap, num := (s.rail i).strap, den := 400, once := false }))) ∧
    (s.b1 F.hkrEnEn i = true → ∃ t, exec (.railEnableWrite id i false) s = .next t ∧ t.resp.code = .ok ∧
      t.g1 F.hkrEnEn i = 0 ∧ getBit F.hkrRailstatOn i t = false ∧ getBit F.hkrRailstatPg i t = false ∧ t.mem = s.mem) ∧
    (s.b1 F.hkrEnEn i = false → exec (.railEnableWrite id i false) s = .next (s.answer .ok))) ∧
  ∀ (i : Fin 8) (s : State), s.pow.phase ≠ .dark → s.sound = true →
    (s.b1 F.hkrEnEn i = true → s.pow.rail ≠ some i.val → ∃ t, exec (.railPowerGood i) s = .next t ∧
      getBit F.hkrRailstatPg i t = true ∧ (t.rail i).once = true ∧ t.mem = s.mem) ∧
    (s.b1 F.hkrEnEn i = false → s.pow.rail ≠ some i.val → exec (.railPowerGood i) s = .next s) ∧
    (getBit F.hkrRailstatPg i s = false → exec (.railPgLoss i) s = .next s) ∧
    (getBit F.hkrRailstatPg i s = true → exec (.railPgLoss i) s =
      .next (raiseLine 30 (s.p F.hkrRailstatPg (s.g F.hkrRailstatPg - 2 ^ i.val)))) ∧
    (s.b1 F.hkrEnEn i = true → (s.rail i).once = true → ∃ t, exec (.railUvFault i) s = .next t ∧
      getBit F.hkrRailfltUv i t = true ∧ t.g1 F.hkrEnEn i = 0 ∧ getBit F.hkrRailstatPg i t = false ∧ t.mem = s.mem ∧
      (held s = false → (fifoOf 15 t).length = min ((fifoOf 15 s).length + 1) 8)) ∧
    ((s.b1 F.hkrEnEn i = false ∨ (s.rail i).once = false) → exec (.railUvFault i) s = .next s) ∧
    (s.b1 F.hkrEnEn i = true → ∃ t, exec (.railOcFault i) s = .next t ∧ getBit F.hkrRailfltOc i t = true ∧
      t.g1 F.hkrEnEn i = 0 ∧ getBit F.hkrRailstatPg i t = false ∧ t.mem = s.mem ∧
      (held s = false → (fifoOf 15 t).length = min ((fifoOf 15 s).length + 1) 8)) ∧
    (s.b1 F.hkrEnEn i = false → exec (.railOcFault i) s = .next s)

/-- Slot `b` of switch `n` holds no window. -/
def SlotIdle (n : Nat) (b : Bool) (s : State) : Prop := slotBusy n b s = false ∧ slotDeferred n b s = false

/-- Load switches: ON drives the switch unless it is locked, and a policy does not change under a window; ARM holds a window, BUSY where the slot holds one or the switch is locked, and opens it at its start, defers it there under a window of the other slot, or refuses it, as the policy says; NOW opens one without a stop; STOP closes an open window with outcome 1, disarms an armed one with 2 and otherwise counts an orphan; an overcurrent or thermal fault of a switch that is on turns it off and ends its windows with outcome 3; its current limit shows in ILIM while it acts. A command whose conditions do not hold leaves the state as it is: the model's choice, log 5. -/
def Obligations.LoadSwitches : Prop :=
  (∀ (id : Id) (n : Fin 8) (v : Word) (s : State), Reaches id (F.hkrHsCtrlOn.reg n) .write s → s.sound = true →
    let w := v.toNat
    let pol := w / 4 % 4
    (pol ≠ s.g1 F.hkrHsCtrlPolicy n → pol ≠ 3 → slotBusy n false s = true ∨ slotBusy n true s = true →
      exec (.hsCtrlWrite id n v) s = .next (s.answer .busy)) ∧
    (s.b1 F.hkrHsCtrlLock n = true → w.testBit 0 = true → exec (.hsCtrlWrite id n v) s = .next (s.answer .busy)) ∧
    (s.b1 F.hkrHsCtrlLock n = false ∨ w.testBit 0 = false →
      pol = 3 ∨ pol = s.g1 F.hkrHsCtrlPolicy n ∨ slotBusy n false s = false ∧ slotBusy n true s = false →
      ∃ t, exec (.hsCtrlWrite id n v) s = .next t ∧ t.resp.code = (if pol = 3 then .invalid else .ok) ∧
        t.g1 F.hkrHsCtrlOn n = w % 2 ∧ t.g1 F.hkrHsCtrlIen n = w / 2 ^ 12 % 2 ∧
        t.g1 F.hkrHsCtrlPolicy n = (if pol = 3 then s.g1 F.hkrHsCtrlPolicy n else pol) ∧
        t.g1 F.hkrHsStatSwon n = bit (w.testBit 0 || slotActive n false s || slotActive n true s) ∧ OnlyRegs s t)) ∧
  (∀ (id : Id) (n : Fin 8) (b : Bool) (s : State), Reaches id (slotReg n b) .write s → s.sound = true →
    let f := slotF b
    let a := s.g1 f.stc n * 2 ^ 16 + s.g1 f.pstart n
    let z := s.g1 f.spc n * 2 ^ 16 + s.g1 f.pstop n
    let now := stampNow s
    (s.b1 F.hkrHsCtrlLock n = true ∨ slotBusy n b s = true →
      exec (.slotArm id n b) s = .next (s.answer .busy) ∧ exec (.slotNow id n b) s = .next (s.answer .busy)) ∧
    (s.b1 F.hkrHsCtrlLock n = false → slotBusy n b s = false → emptyWindow a z = true →
      exec (.slotArm id n b) s = .next (s.answer .emptyWindow)) ∧
    (s.b1 F.hkrHsCtrlLock n = false → SlotIdle n b s → SlotIdle n (!b) s → slotRejected n b ⟨a, some z⟩ s = false →
      emptyWindow a z = false → stampDue a now = false →
      ∃ t, exec (.slotArm id n b) s = .next t ∧ t.resp.code = .ok ∧ t.g1 f.armed n = 1 ∧ t.g1 f.act n = 0 ∧
        slotWin n b t = some ⟨a, some z⟩ ∧ t.g1 F.hkrHsStatSwon n = s.g1 F.hkrHsStatSwon n ∧ t.mem = s.mem) ∧
    (s.b1 F.hkrHsCtrlLock n = false → SlotIdle n b s → SlotIdle n (!b) s → slotRejected n b ⟨a, some z⟩ s = false →
      emptyWindow a z = false → stampDue a now = true →
      ∃ t, exec (.slotArm id n b) s = .next t ∧ t.resp.code = .ok ∧ t.g1 f.armed n = 0 ∧ t.mem = s.mem ∧
        (stampPast a now = true → t.g1 F.hkrHsStatLate n = 1) ∧
        (stampDue z now = false → t.g1 f.act n = 1 ∧ t.g1 F.hkrHsStatSwon n = 1) ∧
        (stampDue z now = true → t.g1 f.act n = 0 ∧ t.g1 f.out n = 2)) ∧
    (s.b1 F.hkrHsCtrlLock n = false → SlotIdle n b s → slotActive n (!b) s = true → s.b1 (slotF (!b)).armed n = false →
      stopDue n (!b) s = false → emptyWindow a z = false → stampDue a now = true → stampDue z now = false →
      (s.g1 F.hkrHsCtrlPolicy n = 0 → ∃ t, exec (.slotArm id n b) s = .next t ∧ t.resp.code = .ok ∧ t.g1 f.armed n = 1 ∧
        t.g1 f.dfr n = 1 ∧ t.g1 f.act n = 0 ∧ t.g1 F.hkrHsStatSlotDeferred n = 1 ∧ t.mem = s.mem) ∧
      (s.g1 F.hkrHsCtrlPolicy n = 1 → ∃ t, exec (.slotArm id n b) s = .next t ∧ t.resp.code = .ok ∧ t.g1 f.act n = 1 ∧
        t.g1 (slotF (!b)).act n = 1 ∧ t.mem = s.mem)) ∧
    (s.b1 F.hkrHsCtrlLock n = false → slotBusy n b s = false → slotRejected n b ⟨a, some z⟩ s = true → emptyWindow a z = false →
      exec (.slotArm id n b) s = .next (s.answer .busy)) ∧
    (s.b1 F.hkrHsCtrlLock n = false → slotBusy n b s = false → slotRejected n b ⟨now, none⟩ s = true →
      exec (.slotNow id n b) s = .next (s.answer .busy)) ∧
    (s.b1 F.hkrHsCtrlLock n = false → SlotIdle n b s → SlotIdle n (!b) s → slotRejected n b ⟨now, none⟩ s = false →
      ∃ t, exec (.slotNow id n b) s = .next t ∧ t.resp.code = .ok ∧ t.g1 f.act n = 1 ∧ t.g1 F.hkrHsStatSwon n = 1 ∧
        t.mem = s.mem) ∧
    (slotActive n b s = true → SlotIdle n (!b) s →
      ∃ t, exec (.slotStop id n b) s = .next t ∧ t.resp.code = .ok ∧ t.g1 f.act n = 0 ∧ t.g1 f.out n = 1 ∧
        t.g1 F.hkrHsStatSwon n = bit (s.b1 F.hkrHsCtrlOn n) ∧ t.mem = s.mem) ∧
    (slotActive n b s = false → s.b1 f.armed n = true →
      ∃ t, exec (.slotStop id n b) s = .next t ∧ t.resp.code = .ok ∧ t.g1 f.armed n = 0 ∧ t.g1 f.out n = 2 ∧ t.mem = s.mem) ∧
    (slotBusy n b s = false → exec (.slotStop id n b) s = .next ((s.sat1 F.hkrHsStatOrphan n 1).answer .ok))) ∧
  ∀ (n : Fin 8) (s : State), s.pow.phase ≠ .dark → s.sound = true →
    (s.b1 F.hkrHsStatSwon n = true → exec (.switchOvercurrent n .acts) s = .next (s.p1 F.hkrHsStatIlim n 1) ∧
      exec (.switchOvercurrent n .ends) s = .next (s.p1 F.hkrHsStatIlim n 0)) ∧
    (s.b1 F.hkrHsStatSwon n = false → ∀ e, exec (.switchOvercurrent n e) s = .next s) ∧
    ∀ r ∈ [(F.hkrHsStatHsoc, Instr.switchOvercurrent n .held), (F.hkrHsStatHsot, .switchThermal n)],
      (s.b1 F.hkrHsStatSwon n = false → exec r.2 s = .next s) ∧
      (s.b1 F.hkrHsStatSwon n = true → ∃ t, exec r.2 s = .next t ∧ t.g1 r.1 n = 1 ∧ t.g1 F.hkrHsCtrlOn n = 0 ∧
        t.g1 F.hkrHsStatSwon n = 0 ∧ t.g1 F.hkrHsStatIlim n = 0 ∧ (slotBusy n false s = true → t.g1 F.hkrHsStatAout n = 3) ∧
        (slotBusy n true s = true → t.g1 F.hkrHsStatBout n = 3) ∧ t.mem = s.mem ∧
        (held s = false → (fifoOf 15 t).length = min ((fifoOf 15 s).length + 1) 8))

/-- No standing fault condition of the charger acts: the judged zone is neither open nor shorted, nor hot while the cell carries VSYS. -/
def CellQuiet (s : State) : Prop :=
  s.g F.chgCfgChem = 0 ∨ s.g F.chgStatNtcz ≠ 0 ∧ s.g F.chgStatNtcz ≠ 6 ∧ (s.g F.chgStatNtcz = 5 → s.b F.chgStatPath = false)

/-- The backup cell: a tick chooses the phase from IDLE or SUSPEND by the cell's voltage, suspends where charging may not go on, is IDLE while it is not enabled, and moves from phase to phase by voltage, time and current; a cell above its overvoltage level is a fault; the NTC gives its zone with hysteresis, QUAL follows presence and zone, and an open or shorted NTC is a fault; a qualified cell takes VSYS while the supply is low; the path returns to VPRE with the warning and the lockout ended. A command whose conditions do not hold leaves the state as it is: the model's choice, log 5. -/
def Obligations.BackupCell : Prop :=
  (∀ (bat cur : Nat) (indpm treg : Bool) (s : State), s.pow.phase ≠ .dark → s.sound = true → domUp 15 s = true →
    CellQuiet s → let chem := s.g F.chgCfgChem
    let ph := s.g F.chgStatPhase
    let v := chemV chem
    let lvl := v.1 - 50 * (s.g F.chgCfgVrch + 1)
    let run := Instr.chargerTick bat cur indpm treg
    let next := fun (t : State) (p : Nat) => t.g F.chgStatPhase = p ∧ t.mem = s.mem ∧ (ph ≠ p → t.g F.chgStatPhchg = 1) ∧
      (p = 0 ∨ 5 ≤ p → ph ≠ p → t.g F.chgStatIndpm = 0 ∧ t.g F.chgStatTreg = 0)
    (chem = 0 ∨ bat ≤ v.2.2.2 → chgFaulted s = false →
      (chgC12 s = true → chgC345 s = true → ph = 0 ∨ ph = 7 → ∃ t, exec run s = .next t ∧
        next t (if bat < v.2.1 then 1 else if bat < lvl then 2 else 3)) ∧
      (chgC12 s = true → chgC345 s = false → ph ≠ 6 → ∃ t, exec run s = .next t ∧ next t 7) ∧
      (chgC12 s = false ∨ ph = 6 → ∃ t, exec run s = .next t ∧ next t 0 ∧ t.chg = {}) ∧
      (chgC12 s = true → chgC345 s = true → ph = 1 → v.2.1 ≤ bat → 9 ≤ s.chg.up → ∃ t, exec run s = .next t ∧ next t 2) ∧
      (chgC12 s = true → chgC345 s = true → ph = 2 → v.1 ≤ bat → s.chg.fast + 1 < s.g F.chgCfgTfast * 3600000 →
        ∃ t, exec run s = .next t ∧ next t 3 ∧ t.g F.chgStatIndpm = bit indpm ∧ t.g F.chgStatTreg = bit treg) ∧
      (chgC12 s = true → chgC345 s = true → ph = 3 → cur < 5 * s.g F.chgCfgIterm → s.g F.chgStatNtcz ≠ 2 → indpm = false →
        treg = false → 15 ≤ s.chg.term → s.chg.fast + 1 < s.g F.chgCfgTfast * 3600000 → ∃ t, exec run s = .next t ∧
        next t (if s.g F.chgCfgTopoff = 0 then 5 else 4) ∧ (s.g F.chgCfgTopoff = 0 → t.g F.chgStatDone = 1)) ∧
      (chgC12 s = true → chgC345 s = true → ph = 5 → bat < lvl → 9 ≤ s.chg.low → ∃ t, exec run s = .next t ∧
        next t (if bat < v.2.1 then 1 else 2) ∧ t.g F.chgStatRechg = 1)) ∧
    (chem ≠ 0 → v.2.2.2 < bat → ph ≠ 0 → s.b F.chgFltBatov = false → ∃ t, exec run s = .next t ∧ t.g F.chgFltBatov = 1 ∧
      t.g F.chgStatPhase = 6 ∧ t.mem = s.mem ∧ (held s = false → (fifoOf 16 t).length = min ((fifoOf 16 s).length + 1) 8))) ∧
  (∀ (bat cur : Nat) (indpm treg : Bool) (s : State), s.sound = true → s.pow.phase = .dark ∨ domUp 15 s = false →
    exec (.chargerTick bat cur indpm treg) s = .next s) ∧
  (∀ (present : Bool) (s : State), s.pow.phase ≠ .dark →
    exec (.cellPresenceChange present) s = .next (s.p F.chgStatPresent (bit present))) ∧
  (∀ (mv : Nat) (s : State), s.pow.phase ≠ .dark → s.sound = true →
    let z := zoneNext (s.g F.chgStatNtcz) mv
    (s.g F.chgCfgChem = 0 → exec (.ntcJudge mv) s = .next ((s.p F.chgStatNtcz 7).p F.chgStatQual 0)) ∧
    (s.g F.chgCfgChem ≠ 0 → 1 ≤ z → z ≤ 4 → s.b F.chgStatPresent = false ∨ s.pow.low = false →
      exec (.ntcJudge mv) s = .next ((s.p F.chgStatNtcz z).p F.chgStatQual (bit (s.b F.chgStatPresent)))) ∧
    (s.g F.chgCfgChem ≠ 0 → 1 ≤ z → z ≤ 4 → s.b F.chgStatPresent = true → s.pow.low = true →
      ∃ t, exec (.ntcJudge mv) s = .next t ∧ t.g F.chgStatQual = 1 ∧ t.b F.chgStatPath = true ∧ t.mem = s.mem ∧
        (s.b F.chgStatPath = false → t.g F.sysSupstatOnbat = 1 ∧ t.g F.chgStatPathchg = 1)) ∧
    (s.g F.chgCfgChem ≠ 0 → ∀ r ∈ [((0 : Nat), F.chgFltNtcopen), (6, F.chgFltNtcshort)], z = r.1 →
      s.b r.2 = false ∨ s.g F.chgStatNtcz ≠ r.1 →
      ∃ t, exec (.ntcJudge mv) s = .next t ∧ t.g F.chgStatNtcz = z ∧ t.g F.chgStatQual = 0 ∧ t.g r.2 = 1 ∧
        t.g F.chgStatPhase = 6 ∧ t.mem = s.mem ∧
        (held s = false → (fifoOf 16 t).length = min ((fifoOf 16 s).length + 1) 8))) ∧
  ∀ s : State, s.pow.phase ≠ .dark →
    let ended := fun (t : State) => ({ t with pow := { t.pow with low := false } }.p F.sysSupstatWarn 0).p F.rtcStatLockout 0
    (s.b F.chgStatPath = true → exec .powerPathToVpre s = .next (ended (raiseLine 32
      (((s.p F.chgStatPath 0).p F.sysSupstatOnbat 0).p F.chgStatPathchg 1)))) ∧
    (s.b F.chgStatPath = false → exec .powerPathToVpre s = .next (ended s))

/-- The front line operation writes its line whole, and no other byte, under the next count and a tag that holds, or that does not where the line came out bad, and answers OK; with the key unusable it writes nothing and answers INTEGRITY. -/
def LineOperationsRule : Prop :=
  ∀ (holds : Bool) (op : NvsOp) (rest : List NvsOp) (s : State), Runs 11 s → s.nvs.q = op :: rest →
    op.data.length = 32 → s.sound = true → s.nvsBad.Pairwise (· < ·) →
    (s.b F.nvsStatKeybad = false → ∃ t, exec (.lineOperationDone holds) s = .next t ∧ t.resp.code = .ok ∧
      t.nvs.q = rest ++ (nvsGrant s.nvs.wait).toList ∧ t.byteList (lineAddr (lineOf op.addr)) 32 = op.data ∧
      (∀ a, a < lineAddr (lineOf op.addr) ∨ lineAddr (lineOf op.addr) + 32 ≤ a → t.byte a = s.byte a) ∧
      t.regs = s.regs ∧ (s.sec.root ≠ none → lineOk op.addr t = holds) ∧
      ((Tab.get t.nvs.lines (lineOf op.addr)).map (·.count)).getD 0 =
        ((Tab.get s.nvs.lines (lineOf op.addr)).map (·.count)).getD 0 + 1) ∧
    (s.b F.nvsStatKeybad = true → ∃ t, exec (.lineOperationDone holds) s = .next t ∧ t.resp.code = .integrity ∧
      t.nvs.q = rest ++ (nvsGrant s.nvs.wait).toList ∧ t.mem = s.mem ∧ t.g F.nvsStatInteg = 1 ∧
      t.g F.nvsErraddrAddr = lineAddr (lineOf op.addr) % 2 ^ 32 ∧
      (fifoOf 17 t).length = min ((fifoOf 17 s).length + 1) 8)

/-- DMA commands: a write of an address takes an idle channel and is BUSY on an active one; START, KICK and RELEASE are DENIED to others than the owner; START of an idle channel with a count and aligned addresses runs it from its first element; ABORT returns an idle-handed channel to IDLE at once and otherwise waits for its access; KICK wakes an EMPTY channel and is kept in RUN; RELEASE frees an IDLE channel. -/
def Obligations.DmaCommands : Prop :=
  ∀ (id : Id) (n : Fin 32) (s : State), s.sound = true →
    let st := s.g1 F.dmaChStatState n
    let mine := s.b1 F.dmaChStatOwnv n = true ∧ s.g1 F.dmaChStatOwner n = id
    (∀ (dst : Bool) (a : Word), Reaches id (if dst then F.dmaChDstAddr.reg n else F.dmaChSrcAddr.reg n) .write s →
      (st = 1 ∨ st = 2 → exec (.dmaAddressWrite id n dst a) s = .next (s.answer .busy)) ∧
      (st = 0 ∨ st = 3 → exec (.dmaAddressWrite id n dst a) s =
        .next ((((s.p1 (if dst then F.dmaChDstAddr else F.dmaChSrcAddr) n a.toNat).p1 F.dmaChStatOwner n id).p1
          F.dmaChStatOwnv n 1).answer .ok))) ∧
    (Reaches id (F.dmaChCtlStart.reg n) .write s →
      (¬ mine → ∀ i ∈ [Instr.dmaStart id n, .dmaKick id n, .dmaRelease id n], exec i s = .next (s.answer .denied)) ∧
      (mine → dmaLocked n s = false → st = 0 → s.b1 F.dmaChCfgMode n = false → s.g1 F.dmaChCntCnt n ≠ 0 →
        s.g1 F.dmaChSrcAddr n % 2 ^ s.g1 F.dmaChCfgWidth n = 0 → s.g1 F.dmaChDstAddr n % 2 ^ s.g1 F.dmaChCfgWidth n = 0 →
        exec (.dmaStart id n) s = .next ((((s.p1 F.dmaChStatState n 1).p1 F.dmaChPosDone n 0).modChan n (fun _ => {
          step := .read, src := s.g1 F.dmaChSrcAddr n, dst := s.g1 F.dmaChDstAddr n, since := s.stm.sclk })).answer .ok)) ∧
      (mine → dmaLocked n s = false → st = 0 → s.b1 F.dmaChCfgMode n = true →
        exec (.dmaStart id n) s = .next ((((s.p1 F.dmaChStatState n 1).p1 F.dmaChPosDone n 0).modChan n (fun _ => {
          step := .fetch0, src := s.g1 F.dmaChSrcAddr n, dst := s.g1 F.dmaChDstAddr n, since := s.stm.sclk })).answer .ok)) ∧
      (mine → (dmaLocked n s = true ∨ st ≠ 0) → exec (.dmaStart id n) s = .next (s.answer .busy)) ∧
      (mine → dmaLocked n s = false → st = 0 → s.b1 F.dmaChCfgMode n = false → s.g1 F.dmaChCntCnt n = 0 ∨
        s.g1 F.dmaChSrcAddr n % 2 ^ s.g1 F.dmaChCfgWidth n ≠ 0 ∨ s.g1 F.dmaChDstAddr n % 2 ^ s.g1 F.dmaChCfgWidth n ≠ 0 →
        exec (.dmaStart id n) s = .next (s.answer .invalid)) ∧
      (st = 1 → (s.chan n).infl = true →
        exec (.dmaAbort id n) s = .next ((s.modChan n (fun c => { c with abort := true })).answer .ok)) ∧
      (st = 1 ∧ (s.chan n).infl = false ∨ st = 2 ∨ st = 3 → exec (.dmaAbort id n) s =
        .next (((s.p1 F.dmaChStatState n 0).modChan n (fun _ => {})).answer .ok)) ∧
      (st = 0 → exec (.dmaAbort id n) s = .next (s.answer .ok)) ∧
      (mine → dmaLocked n s = false → st = 2 → exec (.dmaKick id n) s =
        .next (((s.p1 F.dmaChStatState n 1).modChan n (fun c => { c with step := .fetch0, since := s.stm.sclk })).answer .ok)) ∧
      (mine → dmaLocked n s = false → st = 1 → exec (.dmaKick id n) s = .next ((s.p1 F.dmaChStatKpend n 1).answer .ok)) ∧
      (mine → dmaLocked n s = true ∨ st = 0 ∨ st = 3 → exec (.dmaKick id n) s = .next (s.answer .busy)) ∧
      (mine → st ≠ 0 → exec (.dmaRelease id n) s = .next (s.answer .busy)) ∧
      (mine → st = 0 → ∃ t, exec (.dmaRelease id n) s = .next t ∧ t.resp.code = .ok ∧ t.g1 F.dmaChStatOwnv n = 0 ∧
        t.g1 F.dmaChStatOwner n = 0 ∧ t.g1 F.dmaChSrcAddr n = 0 ∧ t.g1 F.dmaChCntCnt n = 0 ∧ t.mem = s.mem))

/-- DMA transfers: one access issues at a time, of a ready channel, CONTROL before BULK, starved before the others, then by priority; it completes once its target grants it; a source read keeps its element, a destination write moves both addresses on by the width where they step and counts, and the last ends the transfer in IDLE with code OK; a failed access is an ERROR with its code and address and a fault event; a ring whose descriptor is not valid is EMPTY, or is read again after a KICK. -/
def DmaTransfersRule : Prop :=
  (∀ s : State, Runs 13 s →
    (∀ n, dmaPick s = some n →
      exec .dmaIssue s = .next (let t := s.modChan n (fun c => { c with infl := true, issued := s.stm.sclk, starved := false })
        { t with dma := { t.dma with last := Tab.set t.dma.last (4 * s.g1 F.dmaChCfgClass n + s.g1 F.dmaChCfgPri n) n } }) ∧
      n < 32 ∧ dmaReady n s = true ∧ ∀ m < 32, dmaReady m s = true →
        (s.b1 F.dmaChCfgClass m = true → s.b1 F.dmaChCfgClass n = true) ∧
        (s.b1 F.dmaChCfgClass m = s.b1 F.dmaChCfgClass n → (s.chan m).starved = true → (s.chan n).starved = true) ∧
        (s.b1 F.dmaChCfgClass m = s.b1 F.dmaChCfgClass n → (s.chan m).starved = (s.chan n).starved →
          s.g1 F.dmaChCfgPri m ≤ s.g1 F.dmaChCfgPri n)) ∧
    ((∀ n < 32, dmaReady n s = false) → exec .dmaIssue s = .next s)) ∧
  ∀ (n : Fin 32) (s : State), Runs 13 s →
    let late := dmaReady n s = true ∧ dmaReadySince n s + 256 ≤ s.stm.sclk
    (late → exec (.dmaStarvation n) s = .next (s.modChan n (fun c => { c with starved := true }))) ∧
    (¬ late → exec (.dmaStarvation n) s = .next s) ∧
    let may := mayGrant (dmaAddr n s) (dmaCls n s).num (s.g1 F.dmaChStatOwner n) s
    (may = false → exec (.dmaAccessDone n) s = .next s) ∧
    (s.sound = true → may = true → s.g1 F.dmaChStatState n = 1 → (s.chan n).infl = true → (s.chan n).abort = false →
      let x := s.chan n
      let id := s.g1 F.dmaChStatOwner n
      let run := Instr.dmaAccessDone n
      let inSram := fun (a w : Nat) (k : AccKind) => a < 0x100000 ∧ a % w = 0 ∧ granted id a k s = true ∧
        domUp (domainOf a) s = true ∧ (NSet.has s.sramGood (a / 8) = true ∨ k = .write ∧ w = 8)
      (s.b1 F.dmaChCfgMode n = false →
        let w := 2 ^ s.g1 F.dmaChCfgWidth n
        w ≤ 8 → let k := s.g1 F.dmaChPosDone n + 1
        let cnt := s.g1 F.dmaChCntCnt n
        let src := if s.b1 F.dmaChCfgSinc n then (x.src + w) % 2 ^ 32 else x.src
        let dst := if s.b1 F.dmaChCfgDinc n then (x.dst + w) % 2 ^ 32 else x.dst
        (x.step = .read → inSram x.src w .read → ∃ t, exec run s = .next t ∧
          t.chan n = { x with data := s.bytesLE x.src w, infl := false, step := .write, since := s.stm.sclk } ∧
          t.mem = s.mem ∧ t.g1 F.dmaChStatState n = 1 ∧ t.g1 F.dmaChPosDone n = s.g1 F.dmaChPosDone n) ∧
        (x.step = .write → inSram x.dst w .write → k ≤ cnt → k < 2 ^ 20 → ∃ t, exec run s = .next t ∧ t.g1 F.dmaChPosDone n = k ∧
          t.bytesLE x.dst w = x.data % 2 ^ (8 * w) ∧ (∀ a, a < x.dst ∨ x.dst + w ≤ a → t.byte a = s.byte a) ∧
          (k < cnt → t.g1 F.dmaChStatState n = 1 ∧ t.chan n = { x with
            src := src, dst := dst, infl := false, step := .read, since := s.stm.sclk }) ∧
          (k = cnt → t.g1 F.dmaChStatState n = 0 ∧ t.g1 F.dmaChStatCode n = 0 ∧
            (s.b1 F.dmaChCfgIe n = true → (t.g F.dmaEvtEvt).testBit n = true))) ∧
        (x.step = .read → mapped x.src = false →
          ∃ t, exec run s = .next t ∧ t.g1 F.dmaChStatState n = 3 ∧
            t.g1 F.dmaChStatCode n = Code.invalid.num ∧ t.g1 F.dmaChErraddrAddr n = x.src % 2 ^ 32 ∧ t.g F.dmaStatErr = 1 ∧
            (fifoOf 18 t).length = min ((fifoOf 18 s).length + 1) 8 ∧ t.mem = s.mem)) ∧
      (s.b1 F.dmaChCfgMode n = true → x.step = .fetch0 → inSram (dmaDesc n s) 8 .read →
        (s.word (dmaDesc n s)).testBit 31 = false → ∃ t, exec run s = .next t ∧ t.mem = s.mem ∧ t.g1 F.dmaChStatKpend n = 0 ∧
          t.g1 F.dmaChStatState n = (if s.b1 F.dmaChStatKpend n then 1 else 2)))


/-! ### Two-wire ports, real-time clock, faults and the fan -/

/-- The state of a write or read phase the node has answered: the bus busy and the address byte seen (R386, R387). -/
def TwbOpened (dev : BitVec 7) (rd : Bool) (s : State) : State :=
  (s.p F.twbStatBusbusy 1).modTwb (fun t => { t with
    open_ := true, seen := [BitVec.ofNat 8 (2 * dev.toNat + bit rd)] })

/-- The transaction that stands ends with its STOP, where it has one and SCLK still runs (R386, R387). -/
def TwbEnded (fin : HostEnd) (s : State) : State := if fin = .stop ∧ awake s = true then twbStop s else s

/-- Host transactions: a write sets the pointer from its first four bytes and makes one access per further word, in order, the pointer moving on by 4; a read makes one access at the pointer and sends its bytes; a read of SYS_CHIPID answers the chip's identity. An access that fails sets ACCERR with its code, direction and address. With PEC a write is made once its PEC byte is right, else PECERR is set, and a read sends its PEC after the word. No other target's address and no reserved one is answered, nor any before the bus is seen free. -/
def TwoWireTransactionsRule : Prop :=
  (∀ (dev : BitVec 7) (fin : HostEnd) (s : State), awake s = true → s.twb.free = true → s.twb.cfg.addr = dev.toNat →
    twbReserved dev.toNat = false → s.twb.open_ = false → s.twb.seen = [] → s.sound = true →
    (∀ (p : List Byte), p.length = 4 → s.twb.cfg.pec = false →
      exec (.hostWriteTransaction dev p fin) s = .next (TwbEnded fin (((TwbOpened dev false s).modTwb (fun t => { t with
        body := p, writing := true, nacked := false })).p F.twbPtrPtr (ofBe p)))) ∧
    (∀ (p : List Byte) (w : Word) (tail : List Byte), p.length = 4 →
      let bs := p ++ leBytes 4 w.toNat ++ tail
      let u := ((TwbOpened dev false s).modTwb (fun t => { t with
        body := bs, writing := true, nacked := false })).p F.twbPtrPtr (ofBe p)
      let good := crc8 (BitVec.ofNat 8 (2 * dev.toNat) :: p ++ leBytes 4 w.toNat)
      let r := portStoreAt 0 (ofBe p) 4 w.toNat u
      let sent := fun (t : State) => TwbEnded fin (((t.p F.twbPtrPtr ((ofBe p + 4) % 2 ^ 32)).modTwb (fun t => { t with
        wrote := true })).answer .ok)
      (s.twb.cfg.pec = false ∧ tail = [] ∨ s.twb.cfg.pec = true ∧ tail = [BitVec.ofNat 8 good] → r.1 = .ok →
        r.2.g F.twbPtrPtr = ofBe p → exec (.hostWriteTransaction dev bs fin) s = .next (sent r.2)) ∧
      (∀ c : Byte, s.twb.cfg.pec = true → tail = [c] → c.toNat ≠ good →
        exec (.hostWriteTransaction dev bs fin) s = .next (TwbEnded fin (twbFlag F.twbStatPecerr u))) ∧
      (s.twb.cfg.pec = false → tail = [] → mapped (ofBe p) = false →
        ∃ t, exec (.hostWriteTransaction dev bs fin) s = .next t ∧ t.resp.code = .invalid ∧ t.g F.twbStatAccerr = 1 ∧
          t.g F.twbLastCode = Code.invalid.num ∧ t.g F.twbLastDir = 1 ∧ t.g F.twbLastaddrAddr = ofBe p ∧ t.mem = s.mem)) ∧
    (let a := s.g F.twbPtrPtr
     let r := portLoadAt 0 a 4 (TwbOpened dev true s)
     let past := (r.2.2.p F.twbPtrPtr ((a + 4) % 2 ^ 32)).answer .ok r.2.1
     (∀ acks < 4, s.twb.cfg.pec = false → r.1 = .ok → r.2.2.g F.twbPtrPtr = a →
      exec (.hostReadTransaction dev acks fin) s = .next (TwbEnded fin (past.modTwb (fun t => { t with
        sent := (leBytes 4 r.2.1).take (acks + 1) })))) ∧
     (s.twb.cfg.pec = true → r.1 = .ok → r.2.2.g F.twbPtrPtr = a →
      exec (.hostReadTransaction dev 4 fin) s = .next (TwbEnded fin (past.modTwb (fun t => { t with
        sent := leBytes 4 r.2.1 ++ [BitVec.ofNat 8 (crc8 (past.twb.seen ++ leBytes 4 r.2.1))] })))) ∧
     (∀ acks < 4, s.twb.cfg.pec = false → mapped a = false →
      ∃ t, exec (.hostReadTransaction dev acks fin) s = .next t ∧ t.resp.code = .invalid ∧
      t.g F.twbStatAccerr = 1 ∧ t.g F.twbLastCode = Code.invalid.num ∧ t.g F.twbLastDir = 0 ∧
      t.g F.twbLastaddrAddr = a % 2 ^ 32 ∧ t.g F.twbPtrPtr = (a + 4) % 2 ^ 32 ∧ t.mem = s.mem)) ∧
    ∀ (other : BitVec 7) (bs : List Byte) (acks : Nat), other ≠ dev ∨ twbReserved other.toNat = true →
      let gone := s.p F.twbStatBusbusy 0
      let out := .next (TwbEnded fin (if twbHs other.toNat = true then gone.modTwb (fun t => { t with
        free := false, hs := true }) else gone))
      exec (.hostWriteTransaction other bs fin) s = out ∧ exec (.hostReadTransaction other acks fin) s = out) ∧
  ∀ (dev : BitVec 7) (fin : HostEnd) (bs : List Byte) (acks : Nat) (s : State), awake s = false ∨ s.twb.free = false →
    exec (.hostWriteTransaction dev bs fin) s = .next (TwbEnded fin s) ∧
    exec (.hostReadTransaction dev acks fin) s = .next (TwbEnded fin s)

/-- What else the two-wire ports do: a STOP or a free bus puts the committed configuration in force; a stretched access completes but answers TIMEOUT; the low timeouts abandon the transaction with their flag; SW sets PEND with its enable, and a won response to the alert address clears it; an address match in sleep wakes the node. On the second port GO starts a transfer, needing its pins and free lines, and its end gives the code, the position of a NACK and the bytes received. -/
def TwoWireEventsRule : Prop :=
  (∀ s : State, awake s = true →
    (s.twb.hs = false → exec (.busFree false) s = .next (s.modTwb fun _ =>
      { s.twb with free := true, cfg := ⟨s.g F.twbCfgAddr, s.b F.twbCfgPec, s.b F.twbCfgToen, s.b F.twbCfgWake⟩ })) ∧
    (s.twb.hs = true → exec (.busFree false) s = .next s) ∧ exec (.busFree true) s = .next (twbStop s) ∧
    (twbStop s).twb.free = true ∧ (twbStop s).twb.hs = false ∧ (twbStop s).twb.open_ = false ∧
    (s.twb.open_ = false → ∀ w, exec (.stretchLimit w) s = .next s) ∧
    (s.twb.open_ = true → s.sound = true →
      let a := s.g F.twbPtrPtr
      let r := portLoadAt 0 a 4 s
      (∀ w : Word, let q := portStoreAt 0 a 4 w.toNat s
       q.2.g F.twbPtrPtr = a → exec (.stretchLimit (some w)) s = .next ((twbFlag F.twbStatAccerr
        ((((((q.2.p F.twbPtrPtr ((a + 4) % 2 ^ 32)).modTwb (fun t => { t with wrote := t.wrote || decide (q.1 = .ok), nacked := true })).p
          F.twbLastCode Code.timeout.num).p F.twbLastDir 1).p F.twbLastaddrAddr a))).answer .timeout)) ∧
      (r.2.2.g F.twbPtrPtr = a →
      exec (.stretchLimit none) s = .next ((twbFlag F.twbStatAccerr ((((((r.2.2.p F.twbPtrPtr ((a + 4) % 2 ^ 32)).modTwb
        (fun t => { t with sent := List.replicate 4 0xFF#8 })).p F.twbLastCode Code.timeout.num).p F.twbLastDir 0).p
        F.twbLastaddrAddr a))).answer .timeout 0xFFFFFFFF))) ∧
    (s.twb.cfg.toen = true → s.twb.open_ = true → exec .clockLowTimeout s = .next (twbAbandon (twbFlag F.twbStatClto s))) ∧
    (s.twb.cfg.toen = true → exec .dataLowTimeout s = .next (twbAbandon (twbFlag F.twbStatDlto s))) ∧
    ((s.twb.cfg.toen = false ∨ s.twb.open_ = false) → exec .clockLowTimeout s = .next s) ∧
    (s.twb.cfg.toen = false → exec .dataLowTimeout s = .next s) ∧
    (s.b F.twbAlertPend = true → s.twb.free = true →
      exec (.alertResponse true) s = .next (((s.answer .ok (2 * s.twb.cfg.addr)).p F.twbAlertPend 0).p F.twbAlertAra 1) ∧
      exec (.alertResponse false) s = .next (s.answer .ok (2 * s.twb.cfg.addr))) ∧
    ((s.b F.twbAlertPend = false ∨ s.twb.free = false) → ∀ won, exec (.alertResponse won) s = .next s)) ∧
  (∀ (id : Id) (en : BitVec 4) (s : State), Reaches id F.twbAlertSw.reg .write s → s.sound = true →
    ∃ t, exec (.alertSw id en) s = .next t ∧ t.resp.code = .ok ∧ t.g F.twbAlertEn = en.toNat ∧
      t.g F.twbAlertPend = (if en.toNat.testBit 3 then 1 else s.g F.twbAlertPend % 2) ∧ OnlyRegs s t) ∧
  (∀ (dev : BitVec 7) (s : State),
    (s.pow.phase ≠ .asleep ∨ s.b F.hkrSleepWkTwb = false ∨ dev.toNat ≠ s.twb.cfg.addr ∨ twbReserved dev.toNat = true →
      exec (.addressMatchWake dev) s = .next s) ∧
    (s.pow.phase = .asleep → s.sound = true → s.b F.hkrSleepWkTwb = true → dev.toNat = s.twb.cfg.addr →
      twbReserved dev.toNat = false →
      ∃ t, exec (.addressMatchWake dev) s = .next t ∧ awake t = true ∧
        (s.twb.cfg.wake = true → t.g F.twbStatNackf = 1) ∧
        (s.twb.cfg.wake = false → t.g F.twbStatWoke = 1 ∧ t.g F.twbStatBusbusy = 1 ∧ t.twb.open_ = true))) ∧
  (∀ (id : Id) (addr : BitVec 7) (wlen rlen : BitVec 5) (linesFree : Bool) (s : State),
    Reaches id F.twb2CmdGo.reg .write s →
    let u := s.modTwb (fun t => { t with lines2 := linesFree })
    (s.b F.twb2OwnHeld = false → exec (.twb2Go id addr wlen rlen linesFree) s = .next (u.answer .notClaimed)) ∧
    (s.b F.twb2OwnHeld = true → s.g F.twb2OwnOwner ≠ id →
      exec (.twb2Go id addr wlen rlen linesFree) s = .next (u.answer .busy)) ∧
    (s.b F.twb2OwnHeld = true → s.g F.twb2OwnOwner = id → wlen ≤ 16 → rlen ≤ 16 → s.sound = true → twb2Run s = false →
      (twb2Pins s = true → linesFree = true → ∃ t, exec (.twb2Go id addr wlen rlen linesFree) s = .next t ∧
        t.resp.code = .ok ∧ t.g F.twb2StatState = 1 ∧ t.g F.twb2CmdAddr = addr.toNat ∧ t.g F.twb2CmdWlen = wlen.toNat ∧
        t.g F.twb2CmdRlen = rlen.toNat ∧ t.twb.rlen2 = rlen.toNat ∧ t.mem = s.mem) ∧
      (twb2Pins s = false → exec (.twb2Go id addr wlen rlen linesFree) s = .next (u.answer .invalid)) ∧
      (twb2Pins s = true → linesFree = false → exec (.twb2Go id addr wlen rlen linesFree) s = .next (u.answer .busy)))) ∧
  ∀ (k : Fin 4) (npos : Fin 32) (rx : List Byte) (s : State), awake s = true → s.sound = true →
    (twb2Run s = false ∨ k = 3 ∧ s.b F.twb2CfgToen = false → exec (.twb2TransferDone k npos rx) s = .next s) ∧
    (twb2Run s = true → (k ≠ 3 ∨ s.b F.twb2CfgToen = true) →
      ∃ t, exec (.twb2TransferDone k npos rx) s = .next t ∧ t.g F.twb2StatState = 0 ∧
        t.g F.twb2StatCode = (match k with
          | 0 => Code.ok
          | 1 => .invalid
          | 2 => .busy
          | 3 => .timeout).num ∧
        t.g F.twb2StatNpos = (if k = 1 then npos.val else s.g F.twb2StatNpos) ∧ t.g F.twb2StatArbl = bit (decide (k = 2)) ∧
        (∀ i < 4, t.g1 F.twb2RxData i =
          ofLe (((padTo 16 (rx.take s.twb.rlen2)).drop (4 * i)).take 4)) ∧ t.mem = s.mem)

/-- The real-time clock: a read of RTC_SEC answers the seconds and keeps both parts for the reader; START waits for a cycle boundary, needs K of 4 to 16 and string time in LOCKED; a window that closes gives the error and, with AUTO, the trim that undoes it; ABORT and the stop of the oscillator end a measurement with reason 5; an alarm whose target is reached sets its flag, raises the line once, and is disabled or moves on by its repeat. -/
def RealTimeClockRule : Prop :=
  (∀ (id : Id) (s : State), Reaches id F.rtcSecSec.reg .read s →
    exec (.rtcSnapshotRead id) s = .next ({ s with rtc := { s.rtc with
      snap := Tab.set s.rtc.snap id (s.g F.rtcSecSec, s.g F.rtcSubSub) } }.answer .ok (s.g F.rtcSecSec))) ∧
  (∀ (id : Id) (k : BitVec 5) (auto : Bool) (s : State), Reaches id F.rtcTrctlStart.reg .write s →
    (s.b F.rtcStatLockout = true → exec (.trimStart id k auto) s = .next (s.answer .denied) ∧
      exec (.trimAbort id k auto) s = .next (s.answer .denied)) ∧
    (s.b F.rtcStatLockout = false → s.b F.rtcTrstatState = true → exec (.trimStart id k auto) s = .next (s.answer .busy)) ∧
    (s.b F.rtcStatLockout = false → s.b F.rtcTrstatState = false → (k < 4 ∨ 16 < k) →
      exec (.trimStart id k auto) s = .next (s.answer .invalid)) ∧
    (s.b F.rtcStatLockout = false → s.b F.rtcTrstatState = false → 4 ≤ k → k ≤ 16 → s.g F.stmStatState ≠ 2 →
      exec (.trimStart id k auto) s = .next (s.answer .busy)) ∧
    (s.b F.rtcStatLockout = false → s.b F.rtcTrstatState = false → 4 ≤ k → k ≤ 16 → s.g F.stmStatState = 2 →
      exec (.trimStart id k auto) s = .next (((({ s.p F.rtcTrstatState 1 with rtc := { s.rtc with k := k.toNat } } : State).p
        F.rtcTrctlAuto (bit auto)).p F.rtcTrctlK k.toNat).answer .ok)) ∧
    (s.b F.rtcStatLockout = false → s.sound = true →
      ∃ t, exec (.trimAbort id k auto) s = .next t ∧ t.resp.code = .ok ∧ t.g F.rtcTrctlAuto = bit auto ∧
        t.g F.rtcTrctlK = k.toNat ∧ OnlyRegs s t ∧
        (s.b F.rtcTrstatState = true → t.g F.rtcTrstatState = 0 ∧ t.g F.rtcTrstatResult = 2 ∧ t.g F.rtcTrstatReason = 5 ∧
          t.g F.rtcStatTrdone = 1))) ∧
  (∀ (m : Nat) (s : State), awake s = true → s.sound = true →
    (s.g F.rtcTrstatState ≠ 2 → exec (.trimWindowClose m) s = .next s) ∧
    (s.g F.rtcTrstatState = 2 → (cycleNow s + 2 ^ 32 - s.rtc.opened) % 2 ^ 32 = 2 ^ s.rtc.k →
      let q : Int := 2 ^ 21 * 2 ^ s.rtc.k
      let r : Int := if s.g F.stmCfgNom = 0 then 100 else 120
      let e := (2 * (32000000 * (m * r - q)) + q) / (2 * q)
      let v := max (-16384) (min 16384 e)
      ∃ t, exec (.trimWindowClose m) s = .next t ∧ t.g F.rtcTrerrErr = (BitVec.ofInt 16 v).toNat ∧
        t.g F.rtcTrstatResult = 1 ∧ t.g F.rtcTrstatState = 0 ∧ t.g F.rtcStatTrdone = 1 ∧
        t.g F.rtcTrstatTrsat = (if v = e then 0 else 1) ∧ OnlyRegs s t ∧
        (s.b F.rtcTrctlAuto = true → v = e → t.g F.rtcTrimTrim = (BitVec.ofInt 16 (-v)).toNat) ∧
        (s.b F.rtcTrctlAuto = false → t.g F.rtcTrimTrim = s.g F.rtcTrimTrim))) ∧
  (∀ (n : Fin 2) (s : State), s.sound = true →
    (alarmDue n s = false → exec (.alarmFire n) s = .next s) ∧
    (awake s = true → s.b F.rtcStatOscok = true → alarmDue n s = true →
      s.g1 F.rtcAlmCtlRepeat n = 0 →
      ∃ t, exec (.alarmFire n) s = .next t ∧ t.g (if n = 0 then F.rtcStatAlmf0 else F.rtcStatAlmf1) = 1 ∧
        t.b1 F.rtcAlmCtlEn n = false ∧ t.g1 F.rtcAlmTimeA n = s.g1 F.rtcAlmTimeA n ∧ t.mem = s.mem) ∧
    (awake s = true → s.b F.rtcStatOscok = true → alarmDue n s = true →
      0 < s.g1 F.rtcAlmCtlRepeat n →
      let a := s.g1 F.rtcAlmTimeA n
      let d := (s.g F.rtcSecSec + 2 ^ 32 - a) % 2 ^ 32
      let p := s.g1 F.rtcAlmCtlRepeat n
      ∃ t, exec (.alarmFire n) s = .next t ∧ t.g (if n = 0 then F.rtcStatAlmf0 else F.rtcStatAlmf1) = 1 ∧
        t.b1 F.rtcAlmCtlEn n = true ∧ t.g1 F.rtcAlmTimeA n = (a + (d / p + 1) * p) % 2 ^ 32 ∧ t.mem = s.mem)) ∧
  ∀ s : State, s.pow.phase ≠ .dark →
    exec .oscResume s = .next (s.p F.rtcStatOscok 1) ∧
    (s.b F.rtcStatOscok = false → exec .oscStop s = .next s) ∧
    (s.b F.rtcStatOscok = true → s.b F.rtcTrstatState = false → s.sound = true →
      exec .oscStop s = .next ((s.p F.rtcStatOscok 0).p F.rtcStatOscstop 1)) ∧
    (s.b F.rtcStatOscok = true → s.b F.rtcTrstatState = true → s.sound = true →
      exec .oscStop s = .next ((((((s.p F.rtcStatOscok 0).p F.rtcStatOscstop 1).p F.rtcTrstatState 0).p F.rtcTrstatResult
        2).p F.rtcTrstatReason 5).p F.rtcStatTrdone 1))

/-- The fault block and the SAFE input: a named severe bit clears, with its stamps, once its source has no flag, and the answer is BUSY where one stays; a demand that begins forces every running input to SAFE and is recorded with its cycle; a disagreement starts the timer, counts where it ends before T_disc, and latches DISCREPANCY when it lasts; DISCREPANCY clears only with both channels healthy. A command whose conditions do not hold leaves the state as it is: the model's choice, log 5. -/
def Obligations.FaultBlock : Prop :=
  (∀ (id : Id) (v : Word) (s : State), Reaches id F.fltSevSev.reg .write s → s.sound = true →
    ∃ t, exec (.severeClear id v) s = .next t ∧ t.mem = s.mem ∧
      (∀ k < 24, (t.g F.fltSevSev).testBit k = ((s.g F.fltSevSev).testBit k && !(v.toNat.testBit k && !srcFlagged k s))) ∧
      (t.resp.code = .busy ↔ ∃ k < 24, v.toNat.testBit k = true ∧ srcFlagged k s = true ∧ (s.g F.fltSevSev).testBit k = true) ∧
      ∀ k < 24, v.toNat.testBit k = true → srcFlagged k s = false → t.g1 F.fltSrcStatDepth k = 0) ∧
  (∀ (a b : Bool) (s : State), awake s = true → s.sound = true →
    let dem := !a || b
    let dis := (!a) != b
    (a = s.flt.pinA → b = s.flt.pinB → exec (.safePinChange a b) s = .next s) ∧
    (safeDemand s = false → safeDisagree s = false → dem = true → dis = false →
      ∃ t, exec (.safePinChange a b) s = .next t ∧ t.flt.pinA = a ∧ t.flt.pinB = b ∧ t.g F.fltSafestatDemev = 1 ∧
        t.g F.fltSafecntDemcnt = min (s.g F.fltSafecntDemcnt + 1) 65535 ∧ t.g F.fltSafecycCycle = cycleNow s % 2 ^ 32 ∧
        t.g F.fltSafephPhase = phaseNow s ∧ (∀ x < 8, pstMode x t = if pstMode x s = 0 then 0 else 5) ∧
        t.flt.disag = s.flt.disag ∧ t.mem = s.mem) ∧
    (safeDisagree s = false → dis = true →
      ∃ t, exec (.safePinChange a b) s = .next t ∧ t.flt.pinA = a ∧ t.flt.pinB = b ∧
        t.flt.disag = some (s.g F.fltUstUs, s.g F.fltSafecfgTdisc) ∧ t.mem = s.mem) ∧
    (∀ t0 td, safeDemand s = true → safeDisagree s = true → dem = false → s.flt.disag = some (t0, td) →
      disagTime t0 s < 1000 * td →
      ∃ t, exec (.safePinChange a b) s = .next t ∧ t.flt.disag = none ∧
        t.g F.fltSafecntDisag = min (s.g F.fltSafecntDisag + 1) 65535 ∧
        t.g F.fltSafestatDiscrepancy = s.g F.fltSafestatDiscrepancy ∧ t.mem = s.mem)) ∧
  (∀ s : State, awake s = true → s.sound = true →
    (discrepancyDue s = true → ∃ t, exec .discrepancyLatch s = .next t ∧ t.g F.fltSafestatDiscrepancy = 1 ∧
      t.flt.disag = none ∧ (∀ x < 8, pstMode x t = if pstMode x s = 0 then 0 else 5) ∧
      (fifoOf 23 t).length = min ((fifoOf 23 s).length + 1) 8 ∧ t.mem = s.mem) ∧
    (discrepancyDue s = false → exec .discrepancyLatch s = .next s)) ∧
  ∀ (id : Id) (s : State), Reaches id F.fltSafestatDiscrepancy.reg .write s → s.sound = true →
    ∃ t, exec (.discrepancyClear id) s = .next t ∧ t.resp.code = .ok ∧ OnlyRegs s t ∧
      (safeDemand s = false → t.g F.fltSafestatDiscrepancy = 0) ∧
      (safeDemand s = true → t.g F.fltSafestatDiscrepancy = s.g F.fltSafestatDiscrepancy % 2)

/-- The fan: a regulator step from STOPPED begins a start when the demand reaches MINSPD, and in RUN moves the duty by at most 16 within 0 to 1023; the zone evaluation takes the highest demand of the enabled zones; the start goes DETECT, ALIGN, RAMP, DETECT, RUN, fails to BACKOFF and after the sixth attempt to STALLED with a fault; lost signals, bridge faults and the motor supply act as R464 and R465 say. -/
def FanRule : Prop :=
  ∀ s : State, awake s = true → s.sound = true →
    let st := fanState s
    let raw := fanRaw s
    (∀ (fx fg : Nat) (ilim xc : Bool), s.g F.fanCtlMode = s.fan.mode → st = 0 → s.g F.fanSpdMinspd ≤ raw →
      fanBarred s = false →
      ∃ t, exec (.fanRegulatorStep fx fg ilim xc) s = .next t ∧ (xc = true → t.g F.fanStatBemfLost = 0 ∧ t.g F.fanStatSrc = 0) ∧ t.g F.fanStatState = 3 ∧ t.g F.fanStatTry = 1 ∧
        t.g F.fanSpeedDemand = min raw (s.g F.fanSpdMaxspd) % 2 ^ 16 ∧ t.g F.fanStatIlimact = bit ilim ∧ t.mem = s.mem) ∧
    (∀ (fx fg : Nat) (ilim xc : Bool), s.g F.fanCtlMode = s.fan.mode → st = 0 → raw < s.g F.fanSpdMinspd →
      ∃ t, exec (.fanRegulatorStep fx fg ilim xc) s = .next t ∧ (xc = true → t.g F.fanStatBemfLost = 0 ∧ t.g F.fanStatSrc = 0) ∧ t.g F.fanSpeedDemand = 0 ∧
        t.g F.fanStatState = s.g F.fanStatState ∧ OnlyRegs s t) ∧
    (∀ (fx fg : Nat) (ilim xc : Bool), s.g F.fanCtlMode = s.fan.mode → st = 4 → s.g F.fanSpdMinspd ≤ raw →
      s.g F.fanDutyDuty ≤ 1023 →
      ∃ t, exec (.fanRegulatorStep fx fg ilim xc) s = .next t ∧ (xc = true → t.g F.fanStatBemfLost = 0 ∧ t.g F.fanStatSrc = 0) ∧ t.g F.fanDutyDuty ≤ 1023 ∧
        t.g F.fanDutyDuty ≤ s.g F.fanDutyDuty + 16 ∧ s.g F.fanDutyDuty ≤ t.g F.fanDutyDuty + 16 ∧
        t.g F.fanStatState = s.g F.fanStatState ∧ OnlyRegs s t) ∧
    (∃ d, exec .zoneEvaluation s = .next { s with fan := { s.fan with zraw := d } } ∧
      (∀ k < 8, s.b1 F.fanZSrcEn k = true → zoneDemand k s ≤ d) ∧
      (d = 0 ∨ ∃ k < 8, s.b1 F.fanZSrcEn k = true ∧ d = zoneDemand k s)) ∧
    (∀ k : Fin 8, (s.b1 F.fanZSrcEn k = true → exec (.zoneStale k) s =
        .next { s.p F.fanStatZstale 1 with fan := { s.fan with stale := NSet.add s.fan.stale k } }) ∧
      (s.b1 F.fanZSrcEn k = false → exec (.zoneStale k) s = .next s)) ∧
    (s.fan.mode = 2 → exec .loopTimeout s = .next { s.p F.fanStatLoopLost 1 with fan := { s.fan with lost := true } }) ∧
    (s.fan.mode ≠ 2 → exec .loopTimeout s = .next s) ∧
    (st = 3 → s.fan.step3 = false → exec (.startStepEnd true) s = .next ((s.p F.fanStatState 4).p F.fanDutyDuty 0) ∧
      exec (.startStepEnd false) s = .next (s.p F.fanStatState 1)) ∧
    (∀ good, st = 1 → exec (.startStepEnd good) s = .next (s.p F.fanStatState 2)) ∧
    (∀ good, st = 2 → exec (.startStepEnd good) s =
      .next { s.p F.fanStatState 3 with fan := { s.fan with step3 := true } }) ∧
    (st = 3 → s.fan.step3 = true → ∃ d, exec (.startStepEnd true) s =
      .next ((({ s with free := s.free + 1 } : State).p F.fanStatState 4).p F.fanDutyDuty d)) ∧
    (st = 3 → s.fan.step3 = true → s.g F.fanStatTry < 6 → exec (.startStepEnd false) s =
      .next ((s.p F.fanStatState 5).p F.fanStatTry (s.g F.fanStatTry))) ∧
    (st = 3 → s.fan.step3 = true → 6 ≤ s.g F.fanStatTry → ∃ t, exec (.startStepEnd false) s = .next t ∧
      t.g F.fanStatFanStall = 1 ∧ (t.g F.fanStatState = 6 ∨ t.g F.fanCtlLock = 1 ∧ t.g F.fanStatState = 0) ∧
      (fifoOf 22 t).length = min ((fifoOf 22 s).length + 1) 8) ∧
    (st = 5 → exec .backoffExpiry s = .next
      { (s.p F.fanStatState 3).p F.fanStatTry (s.g F.fanStatTry + 1) with fan := { s.fan with step3 := false } }) ∧
    (st ≠ 5 → exec .backoffExpiry s = .next s) ∧
    (st = 4 → s.b F.fanCfgFgen = true → exec .bemfLost s = .next ((s.p F.fanStatBemfLost 1).p F.fanStatSrc 1) ∧
      ∃ t, exec .tachLost s = .next t ∧ t.g F.fanStatTachLost = 1 ∧ t.g F.fanStatSrc = 0 ∧
        (fifoOf 22 t).length = min ((fifoOf 22 s).length + 1) 8) ∧
    (st = 4 → exec .signalStall s = .next ((s.p F.fanStatState 5).p F.fanStatTry 1)) ∧
    (st ≠ 4 → exec .bemfLost s = .next s ∧ exec .tachLost s = .next s ∧ exec .signalStall s = .next s) ∧
    (∀ r ∈ [(F.fanStatOc, Instr.bridgeOvercurrent), (F.fanStatOt, .bridgeOvertemp)], domUp 14 s = true →
      ∃ t, exec r.2 s = .next t ∧ t.g r.1 = 1 ∧ (s.fan.vm = true → t.g F.fanStatState = 0) ∧
        (fifoOf 22 t).length = min ((fifoOf 22 s).length + 1) 8 ∧ t.mem = s.mem) ∧
    (s.fan.vm = true → ∃ t, exec .fanVmUndervoltage s = .next t ∧ t.fan.vm = false ∧ fanState t = 7 ∧
      t.g F.fanStatVmuv = 1 ∧ t.mem = s.mem) ∧
    (s.fan.vm = false → ∃ t, exec .fanVmReturn s = .next t ∧ t.fan.vm = true ∧ t.g F.fanStatState = 0 ∧
      t.g F.fanStatTry = 1 ∧ t.mem = s.mem) ∧
    (s.fan.vm = false → exec .fanVmUndervoltage s = .next s) ∧ (s.fan.vm = true → exec .fanVmReturn s = .next s)


/-! ### Fuses, life cycle, the mailbox, the TAP and CRY -/

/-- A program command of word `w` is under way. -/
def ProgramStarted (w req : Nat) (rb : Option Nat) (s : State) : State :=
  ((s.p F.otpStatBusy 1).modSec fun x => { x with cmd := some (.program w req false rb) }).answer .ok

/-- No OTP, LCS or mailbox command runs and the supply does not warn. -/
def SecFree (s : State) : Prop := s.sec.cmd = none ∧ s.b F.sysSupstatWarn = false

/-- Programs of the OTP: the key, the address and the data are judged first, then the key rows, the life-cycle state, the lock and the busy rule, each with its code; a program that passes starts. The end of its burn adds the requested bits, reports OK or INTEGRITY and raises CRY_DONE. An anti-rollback advance burns its one bit under its own limits. -/
def FuseRule : Prop :=
  (∀ (id : Id) (key : Half) (s : State), Reaches id F.otpPcmdKey.reg .write s →
    let w := s.g F.otpPaddrOfs / 4
    let req := s.g F.otpPdataData
    let st := s.g F.lcsStateState
    let lk := s.g F.otpLockLocks
    (key ≠ 0x0B17#16 → exec (.otpProgram id false key) s = .next (s.answer .invalid)) ∧
    (key = 0x0B17#16 → s.g F.otpPaddrOfs % 4 ≠ 0 ∨ (0x209 ≤ w ∧ w < 0x400) ∨ 0x600 ≤ w ∨ req = 0 →
      exec (.otpProgram id false key) s = .next (s.answer .invalid)) ∧
    (key = 0x0B17#16 → s.g F.otpPaddrOfs % 4 = 0 → req ≠ 0 → 0x200 ≤ w → w < 0x204 →
      exec (.otpProgram id false key) s = .next (s.answer .invalid)) ∧
    (key = 0x0B17#16 → s.g F.otpPaddrOfs % 4 = 0 → req ≠ 0 → w < 0x200 →
      (st ≠ 0 → exec (.otpProgram id false key) s = .next (s.answer .lifecycle)) ∧
      (st = 0 → lk.testBit 0 = true → exec (.otpProgram id false key) s = .next (s.answer .denied)) ∧
      (st = 0 → lk.testBit 0 = false → ¬ SecFree s → exec (.otpProgram id false key) s = .next (s.answer .busy)) ∧
      (st = 0 → lk.testBit 0 = false → SecFree s → exec (.otpProgram id false key) s = .next (ProgramStarted w req none s))) ∧
    (key = 0x0B17#16 → s.g F.otpPaddrOfs % 4 = 0 → req ≠ 0 → 0x204 ≤ w → w < 0x208 → keyField 1 s = false →
      (st ≠ 1 → exec (.otpProgram id false key) s = .next (s.answer .lifecycle)) ∧
      (st = 1 → lk.testBit 1 = true → exec (.otpProgram id false key) s = .next (s.answer .denied)) ∧
      (st = 1 → lk.testBit 1 = false → ¬ SecFree s → exec (.otpProgram id false key) s = .next (s.answer .busy)) ∧
      (st = 1 → lk.testBit 1 = false → SecFree s → exec (.otpProgram id false key) s = .next (ProgramStarted w req none s))) ∧
    (key = 0x0B17#16 → s.g F.otpPaddrOfs % 4 = 0 → req ≠ 0 → 0x204 ≤ w → w < 0x208 → keyField 1 s = true →
      exec (.otpProgram id false key) s = .next (s.answer .invalid)) ∧
    (key = 0x0B17#16 → s.g F.otpPaddrOfs % 4 = 0 → req ≠ 0 → w = 0x208 →
      (2 ^ 16 ≤ req → exec (.otpProgram id false key) s = .next (s.answer .invalid)) ∧
      (∀ r ∈ [((0 : Nat), (0 : Nat), req < 256), (1, 1, req % 256 = 0)], req < 2 ^ 16 → r.2.2 →
        (st ≠ r.1 → exec (.otpProgram id false key) s = .next (s.answer .lifecycle)) ∧
        (st = r.1 → lk.testBit r.2.1 = true → exec (.otpProgram id false key) s = .next (s.answer .denied)) ∧
        (st = r.1 → lk.testBit r.2.1 = false → SecFree s →
          exec (.otpProgram id false key) s = .next (ProgramStarted w req none s)))) ∧
    (key = 0x0B17#16 → s.g F.otpPaddrOfs % 4 = 0 → req ≠ 0 → 0x410 ≤ w → w < 0x418 →
      let may := st = 1 ∨ st = 2 ∧ reqRbTop w req ≤ s.g F.lcsRbrunRbver
      (¬ may → exec (.otpProgram id false key) s = .next (s.answer .lifecycle)) ∧
      (may → lk.testBit 3 = true → exec (.otpProgram id false key) s = .next (s.answer .denied)) ∧
      (may → lk.testBit 3 = false → ¬ SecFree s → exec (.otpProgram id false key) s = .next (s.answer .busy)) ∧
      (may → lk.testBit 3 = false → SecFree s → exec (.otpProgram id false key) s = .next (ProgramStarted w req none s))) ∧
    (key = 0x0B17#16 → s.g F.otpPaddrOfs % 4 = 0 → req ≠ 0 → w = 0x400 ∨ (0x418 ≤ w ∧ w < 0x600) ∨ (0x408 ≤ w ∧ w < 0x410) →
      (st ≠ 1 → exec (.otpProgram id false key) s = .next (s.answer .lifecycle)) ∧
      (st = 1 → lk.testBit 2 = true → exec (.otpProgram id false key) s = .next (s.answer .denied)) ∧
      (st = 1 → lk.testBit 2 = false → ¬ SecFree s → exec (.otpProgram id false key) s = .next (s.answer .busy)) ∧
      (st = 1 → lk.testBit 2 = false → SecFree s → exec (.otpProgram id false key) s = .next (ProgramStarted w req none s)))) ∧
  (∀ (id : Id) (s : State), Reaches id F.otpPcmdKey.reg .write s → s.g F.otpPaddrOfs % 4 = 0 →
    let w := s.g F.otpPaddrOfs / 4
    0x200 ≤ w → w < 0x204 → s.g F.lcsStateState = 0 → keyField 0 s = false → (s.g F.otpLockLocks).testBit 0 = false →
    let drawn : State := { s with free := s.free + 1 }
    let r := (Config.rngWord s.free).toNat
    (s.sec.rngOut = true → exec (.otpProgram id true 0x0B17) s = .next (s.answer .busy)) ∧
    (s.sec.rngOut = false → r = 0 → exec (.otpProgram id true 0x0B17) s = .next (drawn.answer .invalid)) ∧
    (s.sec.rngOut = false → r ≠ 0 → SecFree s →
      exec (.otpProgram id true 0x0B17) s = .next (ProgramStarted w r none drawn))) ∧
  (∀ (failLo failHi : Word) (s : State) (w req : Nat), Runs 12 s → s.sec.cmd = some (.program w req false none) → req < 2 ^ 32 →
    let lo := req &&& (2 ^ 32 - 1 - failLo.toNat)
    let u := otpBurn w lo (lo &&& (2 ^ 32 - 1 - failHi.toNat)) s
    let v := (u.p F.otpStatBusy 0).modSec fun x => { x with cmd := none }
    (otpHi w u &&& req = req → exec (.otpBurnDone failLo failHi) s = .next (raiseLine 45 (v.p F.otpStatCode 0))) ∧
    (otpHi w u &&& req ≠ req → s.sound = true → ∃ t, exec (.otpBurnDone failLo failHi) s = .next t ∧ t.g F.otpStatCode = Code.num .integrity ∧
      t.b F.otpStatMfail = true ∧ t.g F.otpMfaddrOfs = 4 * w % 2 ^ F.otpMfaddrOfs.w ∧ t.sec.cmd = none ∧ t.mem = s.mem)) ∧
  (∀ (s : State) (failLo failHi : Word), s.sec.cmd = none → exec (.otpBurnDone failLo failHi) s = .next s) ∧
  ∀ (id : Id) (n : BitVec 9) (s : State), Reaches id F.otpRbadvN.reg .write s →
    let k := n.toNat
    let st := s.g F.lcsStateState
    (k = 0 ∨ 256 < k → exec (.otpRbadvWrite id n) s = .next (s.answer .invalid)) ∧
    (k ≠ 0 → k ≤ 256 → k ≤ s.g F.lcsRbcntCount → exec (.otpRbadvWrite id n) s = .next (s.answer .ok)) ∧
    (s.g F.lcsRbcntCount < k → k ≤ 256 → st = 2 → s.g F.lcsRbrunRbver < k →
      exec (.otpRbadvWrite id n) s = .next (s.answer .denied)) ∧
    (s.g F.lcsRbcntCount < k → k ≤ 256 → st ≠ 1 → st ≠ 2 → exec (.otpRbadvWrite id n) s = .next (s.answer .lifecycle)) ∧
    (s.g F.lcsRbcntCount < k → k ≤ 256 → st = 1 ∨ (st = 2 ∧ k ≤ s.g F.lcsRbrunRbver) →
      ((s.g F.otpLockLocks).testBit 3 = true → exec (.otpRbadvWrite id n) s = .next (s.answer .denied)) ∧
      ((s.g F.otpLockLocks).testBit 3 = false → ¬ SecFree s → exec (.otpRbadvWrite id n) s = .next (s.answer .busy)) ∧
      ((s.g F.otpLockLocks).testBit 3 = false → SecFree s → exec (.otpRbadvWrite id n) s =
        .next (ProgramStarted (0x410 + (k - 1) / 32) (2 ^ ((k - 1) % 32)) (some k) s)))

/-- A program of the OTP is judged by its key, address and data, the key rows, the life-cycle state, the lock and the busy rule, each with its code, and otherwise starts; the end of its burn adds the requested bits, reports OK or INTEGRITY and raises CRY_DONE; an anti-rollback advance burns its one bit under its own limits. A transition request needs its key, the lock clear, a later state that the present one admits, the target's precondition and an idle block. A transition that ends well burns its LC word and takes a life-cycle reset, and on the way to RETURNED or SCRAPPED every key is dropped and burned whole first; one whose burn fails ends INTEGRITY and takes none. A command whose conditions do not hold leaves the state as it is: the model's choice, log 5. -/
def Obligations.FusesAndLifeCycle : Prop :=
  FuseRule ∧
  (∀ (id : Id) (t : BitVec 3) (key : Half) (s : State), Reaches id F.lcsCmdKey.reg .write s →
    let st := s.g F.lcsStateState
    let n := t.toNat
    let lc := (s.g F.otpLockLocks).testBit 4
    (key ≠ 0x1CE5#16 → exec (.lcsTransitionRequest id t key) s = .next (s.answer .invalid)) ∧
    (key = 0x1CE5#16 → lc = true → exec (.lcsTransitionRequest id t key) s = .next (s.answer .denied)) ∧
    (key = 0x1CE5#16 → lc = false → n ≤ st ∨ 4 < n → exec (.lcsTransitionRequest id t key) s = .next (s.answer .invalid)) ∧
    (key = 0x1CE5#16 → lc = false → st < n → n ≤ 4 → 2 ≤ st →
      exec (.lcsTransitionRequest id t key) s = .next (s.answer .denied)) ∧
    (key = 0x1CE5#16 → lc = false → st = 0 → n = 1 ∨ n = 4 → id ≠ 3 →
      exec (.lcsTransitionRequest id t key) s = .next (s.answer .denied)) ∧
    (key = 0x1CE5#16 → lc = false → (st = 0 ∧ (n = 2 ∨ n = 3)) ∨
        (st = 0 ∧ n = 1 ∧ id = 3 ∧ (s.sec.root = none ∨ otpLo 0 s % 2 ^ 32 = 0 ∧ otpLo 1 s % 2 ^ 32 = 0)) ∨
        (st = 1 ∧ n = 2 ∧ (s.sec.dev = none ∨ hashBurned s = false)) →
      exec (.lcsTransitionRequest id t key) s = .next (s.answer .invalid)) ∧
    (key = 0x1CE5#16 → lc = false →
      (st = 0 ∧ id = 3 ∧ (n = 4 ∨ (n = 1 ∧ s.sec.root.isSome = true ∧ (otpLo 0 s % 2 ^ 32 ≠ 0 ∨ otpLo 1 s % 2 ^ 32 ≠ 0)))) ∨
        (st = 1 ∧ (n = 3 ∨ n = 4 ∨ (n = 2 ∧ s.sec.dev.isSome = true ∧ hashBurned s = true))) →
      (¬ SecFree s → exec (.lcsTransitionRequest id t key) s = .next (s.answer .busy)) ∧
      (SecFree s → exec (.lcsTransitionRequest id t key) s =
        .next (((s.p F.lcsStateBusy 1).modSec fun x => { x with cmd := some (.transition n false) }).answer .ok)))) ∧
  (∀ (s : State) (n : Nat), Runs 12 s → s.sound = true → s.sec.cmd = some (.transition n false) → 1 ≤ n → n ≤ 4 →
    (∀ w < 2048, otpLo w s = otpHi w s) →
    (∃ t, exec (.transitionDone none) s = .next t ∧ t.pow.lcr = true ∧ t.g F.lcsStateState = s.g F.lcsStateState ∧
      t.b F.lcsStateBusy = false ∧ t.g F.lcsStateCode = 0 ∧ t.sec.cmd = none ∧ t.mem = s.mem ∧
      otpHi (0x600 + n - 1) t = otpHi (0x600 + n - 1) s ||| 0xFFFFFFFF ∧
      (3 ≤ n → t.sec.dev = none ∧ t.sec.root = none ∧ t.sec.keys = [] ∧ t.sec.linkKeys = [] ∧ t.g F.crySlotstatLoaded = 0 ∧
        t.b F.nvsStatKeybad = true ∧ ∀ k < 8, otpHi (0x200 + k) t = otpHi (0x200 + k) s ||| 0xFFFFFFFF)) ∧
    (n < 3 → ∃ t, exec (.transitionDone (some ⟨(0x600 + n - 1) % 2048, Nat.mod_lt _ (by decide)⟩)) s = .next t ∧ t.pow.lcr = s.pow.lcr ∧
      t.g F.lcsStateCode = Code.num .integrity ∧ t.b F.otpStatMfail = true ∧ t.sec.cmd = none)) ∧
  ∀ (s : State) (fail : Option (Fin 2048)), s.sec.cmd = none → exec (.transitionDone fail) s = .next s

/-- A mailbox command's row of the opcode table, with its LCS_ACMD.OP. -/
def MailRow (i : Id → Instr) (op : Nat) : Prop :=
  (∀ (id : Id) (s : State), s.g F.lcsAcmdOp ≠ op → exec (i id) s = .next s) ∧
  ∀ (id : Id) (s : State), Reaches id F.lcsAgoGo.reg .write s → s.g F.lcsAcmdOp = op →
    let auth := (s.g F.otpLockLocks).testBit 6
    let idle := s.sec.rngOut = false ∧ s.b F.lcsAstatBusy = false
    let known := (∃ k < 8, otpLo (refHash op s + k) s ≠ 0) ∧ ∀ k < 8, otpLo (refHash op s + k) s = otpHi (refHash op s + k) s
    (auth = true → exec (i id) s = .next (s.answer .denied)) ∧
    (auth = false → opAdmitted op (s.g F.lcsAcmdArg) s = false → exec (i id) s = .next (s.answer .lifecycle)) ∧
    (auth = false → opAdmitted op (s.g F.lcsAcmdArg) s = true → ¬ known →
      exec (i id) s = .next (s.answer .integrity)) ∧
    (auth = false → opAdmitted op (s.g F.lcsAcmdArg) s = true → known → ¬ idle → exec (i id) s = .next (s.answer .busy)) ∧
    (auth = false → idle → opAdmitted op (s.g F.lcsAcmdArg) s = true → known → mailVerifies op s = false → s.sound = true →
      ∃ t, exec (i id) s = .next t ∧ t.resp.code = .ok ∧ t.b F.lcsAstatAfail = true ∧
        t.g F.lcsAstatCode = Code.num .denied ∧ t.free = s.free + 4 ∧ t.sec = s.sec ∧ t.mem = s.mem) ∧
    (auth = false → idle → opAdmitted op (s.g F.lcsAcmdArg) s = true → known → mailVerifies op s = true → ¬ SecFree s →
      ∃ t, exec (i id) s = .next t ∧ t.resp.code = .ok ∧ t.g F.lcsAstatCode = Code.num .busy ∧ t.sec = s.sec ∧ t.mem = s.mem)

/-- A mailbox command that passed every check. -/
def MailPassed (op : Nat) (id : Id) (s : State) : Prop :=
  Reaches id F.lcsAgoGo.reg .write s ∧ s.g F.lcsAcmdOp = op ∧ (s.g F.otpLockLocks).testBit 6 = false ∧
    s.sec.rngOut = false ∧ s.b F.lcsAstatBusy = false ∧ opAdmitted op (s.g F.lcsAcmdArg) s = true ∧
    (∃ k < 8, otpLo (refHash op s + k) s ≠ 0) ∧ (∀ k < 8, otpLo (refHash op s + k) s = otpHi (refHash op s + k) s) ∧
    mailVerifies op s = true ∧ SecFree s

/-- The mailbox: the lock, the state, the reference hash, the withheld TRNG or a running mailbox command, the signature and the busy rule are judged in turn, each with its code; a verified command starts its program or its transition, or opens the analysis instruction. -/
def MailRule : Prop :=
  MailRow .mailboxProgram 1 ∧ MailRow .mailboxTransition 2 ∧ MailRow .mailboxAnalysis 3 ∧
  (∀ (id : Id) (s : State), MailPassed 1 id s →
    let w := s.g F.lcsAaddrAddr / 4
    s.g F.lcsAaddrAddr % 4 = 0 → (0x408 ≤ w ∧ w < 0x600) ∨ w = 0x400 → s.g F.lcsAdataData ≠ 0 →
    exec (.mailboxProgram id) s = .next ((((s.p F.lcsAstatBusy 1).p F.otpStatBusy 1).modSec fun x =>
      { x with cmd := some (.program w (s.g F.lcsAdataData) true none) }).answer .ok)) ∧
  (∀ (id : Id) (s : State), MailPassed 2 id s →
    exec (.mailboxTransition id) s = .next ((((s.p F.lcsAstatBusy 1).p F.lcsStateBusy 1).modSec fun x =>
      { x with cmd := some (.transition (s.g F.lcsAcmdArg) true) }).answer .ok)) ∧
  ∀ (id : Id) (s : State), MailPassed 3 id s → s.sound = true →
    ∃ t, exec (.mailboxAnalysis id) s = .next t ∧ t.sec.analysis = true ∧ t.resp.code = .ok ∧
      t.g F.lcsAstatCode = 0 ∧ t.b F.lcsAstatBusy = false ∧ t.free = s.free + 4 ∧ t.mem = s.mem

/-- The TAP: each instruction selects its register while D1 has power, a gated one the bypass register; IDCODE answers with the identification word; EXTEST first takes every input to OFF and drives BYP high. DEBUG is open in TEST after a passed step and in OPEN unless it is closed; VTEST opens in RETURNED after ANALYSIS only. With TRST_N low the TAP stands in its reset, with IDCODE in force (the model's choice, log 105). -/
def TapRule : Prop :=
  (∀ s : State, d1Powered s = true →
    exec (.tapIdcode true) s = .next ((s.modSec fun x => { x with trst := true, tap := .idcode }).answer .ok 0x208165CB) ∧
    exec (.tapBypass true) s = .next (s.modSec fun x => { x with trst := true, tap := .bypass }) ∧
    exec (.tapDebug true) s = .next (s.modSec fun x => { x with trst := true, tap :=
      if (s.g F.lcsStateState = 0 ∧ s.b F.sysBootstatStep = true) ∨ (s.g F.lcsStateState = 1 ∧
        (s.g F.otpLockLocks).testBit 5 = false ∧ (otpConfig s).testBit 8 = false) then .debug else .bypass }) ∧
    exec (.tapVtest true) s = .next (s.modSec fun x => { x with trst := true, tap :=
      if (s.g F.lcsStateState = 0 ∧ s.b F.sysBootstatStep = true) ∨ (s.g F.lcsStateState = 3 ∧ s.sec.analysis = true)
        then .vtest else .bypass }) ∧
    (∀ v, exec (.tapSamplePreload (some v) true) s = .next (s.modSec fun x => { x with trst := true, tap := .sample, bsr := v })) ∧
    (∃ t, exec (.tapSamplePreload none true) s = .next t ∧ t.sec.tap = .sample ∧ t.regs = s.regs ∧ t.mem = s.mem) ∧
    ((∀ x < 8, pstMode x s = 0) → exec (.tapExtest true) s = .next (s.modSec fun x => { x with trst := true, tap := .extest })) ∧
    (s.sound = true → (∃ x < 8, pstMode x s ≠ 0) → ∃ t, exec (.tapExtest true) s = .next t ∧ t.sec.tap = .extest ∧
      t.b F.pstBypByp = true ∧ (∀ x < 8, pstMode x t = 0) ∧ t.mem = s.mem) ∧
    ∀ i ∈ [Instr.tapIdcode false, .tapBypass false, .tapDebug false, .tapVtest false, .tapExtest false,
      .tapSamplePreload none false], exec i s = .next (s.modSec fun x => { x with trst := false, tap := .idcode })) ∧
  ∀ (s : State) (trst : Bool), d1Powered s = false →
    ∀ i ∈ [Instr.tapIdcode trst, .tapBypass trst, .tapDebug trst, .tapVtest trst, .tapExtest trst], exec i s = .next s ∧
      ∀ v, exec (.tapSamplePreload v trst) s = .next s

/-- A CRY command accepted with the operands in force. -/
def CryRuns (op : Nat) (id : Id) (k : Fin 4) (s : State) : State :=
  ((((s.p F.cryCmdOp op).p F.cryCmdKsel k).p F.cryStatBusy 1).modSec fun x => { x with cry := some {
    op := op, ksel := k, id := id, src := s.g F.crySrcAddr, dst := s.g F.cryDstAddr, len := s.g F.cryLenLen } }).answer .ok

/-- A row of CRY: BUSY while a command runs, else refused as `judge` says, else it runs. -/
def CryRow (i : Id → Fin 4 → Instr) (op : Nat) (judge : Id → Fin 4 → State → Option Code) : Prop :=
  ∀ (id : Id) (k : Fin 4) (s : State), Reaches id F.cryCmdOp.reg .write s →
    (s.b F.cryStatBusy = true → exec (i id k) s = .next (s.answer .busy)) ∧
    (s.b F.cryStatBusy = false → ∀ c, judge id k s = some c → exec (i id k) s = .next (s.answer c)) ∧
    (s.b F.cryStatBusy = false → judge id k s = none → exec (i id k) s = .next (CryRuns op id k s))

/-- A slot loaded by another initiator, then a slot that is not loaded. -/
def SlotJudge (id : Id) (k : Fin 4) (s : State) : Option Code :=
  if getBit F.crySlotstatLoaded k s = true ∧ s.g (F.crySlotstatOwner k) ≠ id then some .denied
  else if getBit F.crySlotstatLoaded k s = false then some .invalid else none

/-- The end of a CRY command with its code. -/
def CryEnded (c : Code) (s : State) : State :=
  raiseLine 45 ((((s.p F.cryStatBusy 0).p F.cryStatCode c.num).modSec fun x => { x with cry := none }).answer c)

/-- CRY: each operation is judged by its slot, length, device key and TRNG, and runs with the operands in force; its end writes the digest, the tag or the key, reports its code and raises CRY_DONE. User key slots belong to the initiator that loaded them; loading zeroes the key registers. A failed health test withholds the TRNG until the flag is cleared and the start-up test passes. -/
def CryRule : Prop :=
  CryRow .sha256 1 (fun _ _ _ => none) ∧
  CryRow .aesEncrypt 2 (fun id k s => if s.g F.cryLenLen % 16 ≠ 0 then some .invalid else SlotJudge id k s) ∧
  CryRow .aesCmac 3 SlotJudge ∧
  CryRow .ecdsaVerify 4 (fun _ _ _ => none) ∧
  CryRow .derive 5 (fun id k s =>
    if getBit F.crySlotstatLoaded k s = true ∧ s.g (F.crySlotstatOwner k) ≠ id then some .denied
    else if s.sec.dev = none then some .integrity else none) ∧
  CryRow .random 6 (fun _ _ s => if s.sec.rngOut = true then some .busy else none) ∧
  (∀ s : State, s.sec.cry = none → exec .cryCommandDone s = .next s) ∧
  (∀ (s : State) (c : CryCmd), Runs 12 s → s.sec.cry = some c →
    (c.op = 1 → ∀ m u v, crySource c c.len s = (.ok, m, u) → cryOut c (sha256 m) u = (.ok, v) →
      exec .cryCommandDone s = .next (CryEnded .ok v)) ∧
    (c.op = 1 → ∀ e m u, crySource c c.len s = (e, m, u) → e ≠ .ok → exec .cryCommandDone s = .next (CryEnded e u)) ∧
    (c.op = 2 → c.len = 16 → ∀ key m u v, Tab.get s.sec.keys c.ksel = some key → crySource c 16 s = (.ok, m, u) →
      cryOut c (aes (bytes16 key) m) u = (.ok, v) → exec .cryCommandDone s = .next (CryEnded .ok v)) ∧
    (c.op = 3 → ∀ key m u v, Tab.get s.sec.keys c.ksel = some key → crySource c c.len s = (.ok, m, u) →
      cryOut c (cmac key m) u = (.ok, v) → exec .cryCommandDone s = .next (CryEnded .ok v)) ∧
    (c.op = 4 → ∀ m u, crySource c 160 s = (.ok, m, u) →
      let part := fun (i : Nat) => ofBe ((m.drop (32 * i)).take 32)
      exec .cryCommandDone s = .next (if ecdsaValid (part 1) (part 2) (part 3) (part 4)
        then CryEnded .ok ((u.p F.cryStatValid 0).p F.cryStatValid
          (bit (ecdsaVerify (part 0) (part 1) (part 2) (part 3) (part 4))))
        else CryEnded .invalid (u.p F.cryStatValid 0))) ∧
    (c.op = 6 → s.sec.rngOut = false → ∀ v, cryOut c ((rngBytes ((c.len + 3) / 4) s).1.take c.len)
      (rngBytes ((c.len + 3) / 4) s).2 = (.ok, v) → exec .cryCommandDone s = .next (CryEnded .ok v)) ∧
    (c.op = 5 → ∀ d m u, s.sec.dev = some d → crySource c 16 s = (.ok, m, u) → u.sec = s.sec → ∀ b ∈ m.head?,
      (b.toNat < 0x80 → exec .cryCommandDone s = .next (CryEnded .invalid u)) ∧
      (0x80 ≤ b.toNat → exec .cryCommandDone s =
        .next (CryEnded .ok (slotLoad c.ksel c.id (beNum (aes (bytes16 d) m)) u))))) ∧
  (∀ (id : Id) (k : Fin 4) (s : State), Reaches id F.cryKeyldLoad.reg .write s →
    let mine := getBit F.crySlotstatLoaded k s = true → s.g (F.crySlotstatOwner k) = id
    (¬ mine → exec (.keyLoad id k) s = .next (s.answer .denied) ∧ exec (.keyClear id k) s = .next (s.answer .denied)) ∧
    (mine → s.sound = true → ∃ t, exec (.keyLoad id k) s = .next t ∧ t.resp.code = .ok ∧
      getBit F.crySlotstatLoaded k t = true ∧ t.g (F.crySlotstatOwner k) = id ∧
      Tab.get t.sec.keys k = some (beNum ((List.range 4).flatMap fun n => leBytes 4 (s.g1 F.cryKeyWord n))) ∧
      (∀ n < 4, t.g1 F.cryKeyWord n = 0) ∧ t.mem = s.mem) ∧
    (mine → s.sound = true → Tab.rising s.sec.keys = true → ∃ t, exec (.keyClear id k) s = .next t ∧ t.resp.code = .ok ∧
      getBit F.crySlotstatLoaded k t = false ∧ Tab.get t.sec.keys k = none ∧
      (∀ n < 4, n ≠ k → Tab.get t.sec.keys n = Tab.get s.sec.keys n) ∧ t.mem = s.mem)) ∧
  (∀ s : State, Runs 12 s → s.sound = true → ∃ t, exec .trngHealthFail s = .next t ∧ t.b F.cryStatRngfail = true ∧ t.sec.rngOut = true ∧
    (fifoOf 21 t).length = min ((fifoOf 21 s).length + 1) 8 ∧ t.mem = s.mem) ∧
  ∀ s : State, Runs 12 s →
    (s.b F.cryStatRngfail = true → exec .trngStartupPass s = .next s) ∧
    (s.b F.cryStatRngfail = false → exec .trngStartupPass s = .next (s.modSec fun x => { x with rngOut := false }))

/-- The mailbox judges the lock, the state, the reference hash, the withheld TRNG or a mailbox command that still runs (log 60), the signature and the busy rule in turn, each with its code; a verified command starts its program or its transition, or opens the analysis instruction. The TAP's instructions select their registers while D1 has power, a gated one the bypass register; IDCODE answers the identification word; EXTEST with an input that is not OFF first takes every input to OFF and drives BYP high; with TRST_N low the TAP stands in its reset with IDCODE in force (the model's choice, log 105). CRY judges a START by its slot, length, device key and TRNG, runs it with the operands in force, and at its end writes the digest, the ciphertext, the tag or the key, with its code and CRY_DONE. A user key slot belongs to the initiator that loaded it. A failed health test withholds the TRNG until the flag is cleared and the start-up test passes. A command whose conditions do not hold leaves the state as it is: the model's choice, log 5. -/
def Obligations.MailboxTapAndCry : Prop := MailRule ∧ TapRule ∧ CryRule

/-! ### Statements of two rules -/

/-- Taking the stage: a write of an RWS register changes no committed field; the writer becomes the stage's owner and the stage holds the written fields; while another initiator owns the stage the write changes nothing and completes with BUSY. A stage left open for 65 536 SCLK is discarded: it has no owner and no values, the committed fields stay, and its former owner's COMMIT then answers TIMEOUT. -/
def Obligations.StagedWrites : Prop := StagedWritesRule ∧ StageDiscardedRule

/-- SRAM is little-endian at every width: a write of 2^size bytes to a verified word stores the value's bytes in rising addresses and nothing else; a read returns them, lowest address first. A poisoned SRAM word: a read, and a write of less than the whole word, complete with INTEGRITY and are reported; a 64-bit write makes the word verify again. -/
def Obligations.SramAccess : Prop := SramAccessRule ∧ SramPoisonRule

/-- The COMMIT rows with a proof or another target behind them, each for the owner of the stage. A power stage commits what passes R262, and where an enabled program triggers on it and the period or the window would change, only with a proof that passes. The control engine's commit runs the proof and records its outcome whatever follows; a sound set that it admits is applied, any other gives STAGE_REJECT. A line commit that passes R358 is queued with the line's staged bytes, to be answered when its write has ended. RTC_COMMIT is never rejected outside the lockout: the committed time waits for the first crystal edge. Applying a stage gives every field that stands in it its staged value, cut to the field's width. -/
def Obligations.ProvenCommits : Prop := ProvenCommitsRule ∧ StagedValuesAppliedRule

/-- PIN, WDR and SWR, each as the only cause of its cycle: contexts halt, stages go, the cause bit is set, string time and SRAM and every other byte of memory stay, fields that the kind restores return to reset values and the others keep theirs, but for what the supplies show (VHV_OK, WARN). No burn or line write is under way. During another reset nRST only adds its cause, and in sleep it resets too. POR, BOR and LCR return string time to zero and halt every context; POR and BOR also poison every SRAM word. A BOR is held until its supplies return, which ends the RTC's lockout unless the supply warning stands. Of several causes in one SCLK cycle the one that reaches furthest is taken and every one is recorded. -/
def Obligations.Resets : Prop := WarmResetsRule ∧ DeepResetsRule

/-- String time's registers: STM_INC takes a value in FREE only; STM_SETC waits for a boundary unless a beacon rules the count; a read of STM_NOWC answers the presented cycle and leaves the reader a snapshot of the stamp. The crystal: a qualified crystal sets XTOK and is the reference where SRC selects it; its loss clears XTOK, and while it is the reference also sets XT_LOST and is a fault event of source STM. -/
def Obligations.StringTime : Prop := StmRegistersRule ∧ CrystalEventsRule

/-- Reference events. A crossing is used only when ripple is the source, outside FREE, with an amplitude of at least MINAMP and results that arrive. The first one in ACQUIRE starts the four; in LOCKED one that lies within UNLOCK_PH clears the counts of missing and outlying events and its error is corrected by the loop, and one whose interval lies outside ±4 % sets REF_RANGE and counts as missing. An expected event that is late clears REFOK, and the last of MISS_N in LOCKED ends in HOLDOVER. A HOLDOVER longer than its limit ends in FREE with HOLD_EXP and a fault event. Where no event falls due on the way, a cycle boundary comes after the least number of edges whose increments carry the phase past the end of the cycle, and its edge's own effects happen: the cycle number moves on by one and STM_CYCLE is raised. With an increment of 0 no boundary comes. The next scheduled event comes on the edge its stamp names, and only before the next boundary; one already reached fires at once. A command whose conditions do not hold leaves the state as it is: the model's choice, log 5. -/
def Obligations.ReferenceAndJumps : Prop := ReferenceEventsRule ∧ TimeJumpsRule

/-- The owner registers of the trace buffers, the second two-wire port and the timers. R480 for the timers, the trace buffers and the second two-wire port, and R74 for a free GP pin: of two claims on one edge the function of the higher class wins, and within a class the lower initiator ID. -/
def Obligations.OwnerRegisters : Prop := OwnerRegistersRule ∧ RivalClaimsRule

/-- The faults of R148 that an issue can take: an encoding that breaks R156 or R157 is ILLEGAL; a ninth call and a return with an empty stack are STACK_OVER and STACK_UNDER; TRAP with a code other than 0 faults with it, and TRAP 0 halts the context at the next instruction. The rows of R167 that read string time and the context itself, and SIGNAL: TIME answers cycle, phase and fraction in a register pair; SELF answers number, domain and priorities; SIGNAL raises its line after it retires, and a line below 64 is ILLEGAL. -/
def Obligations.LelasTrapsAndReads : Prop := LelasTrapsRule ∧ LelasTimeSelfSignalRule

/-- Waits: a LATCH wait takes a pending latch at once and clears it; a timeout of 0 tests only; any other wait puts the context in WAIT, with a timeout of 192 SCLK a step from its issue. WAITT on a stamp that is due answers the lateness, and otherwise waits for it. The edge on which the timeout of a WAIT, SEMA or JTAKE elapses, if nothing of that edge ends the wait, answers TIMEOUT and moves the context on; JTAKE answers entry 0. Ranked semaphores: SEMA takes a free semaphore whose rank is above every rank held, and answers OK; a held one is waited for, and with a timeout of 0 answers TIMEOUT. SEMR frees a semaphore the context holds when nobody waits, and answers INVALID for any other. -/
def Obligations.LelasWaitsAndSemaphores : Prop := LelasWaitsRule ∧ LelasSemaphoresRule

/-- Switching domains: a write of HKR_DOMCTL while a transition is pending changes nothing and answers BUSY; one that asks only for what R77 permits takes effect: the domains it switches off leave power good at once, those it switches on are queued in order; one that asks for more sets REFUSED and answers BUSY. Domains finish switching off from the highest down and then come up one by one in the order of R78, and BUSY ends with the last. Sleep: an ENTER without a wake enable is INVALID, and one refused by running work is BUSY; otherwise every domain but D0 goes off, stages are discarded and bypass closes. An enabled wake source records its cause and wakes the node, with string time FREE; any other leaves it asleep. A command whose conditions do not hold leaves the state as it is: the model's choice, log 5. -/
def Obligations.PowerDomains : Prop := DomainSwitchingRule ∧ SleepAndWakeRule

/-- Calibration: a command starts on the converter its path names, with 2^4 to 2^12 conversions; ZERO holds the mean as the pending offset, FULL computes the gain from it, SET takes both from the registers; FULL and SET write the entry, and no other byte, to its line. A result at a limit or a gain outside its range ends the command with INVALID. A converter that has read its table holds the entries the lines spell. Self-checks: a pair within tolerance counts as good and ends a run of bad ones, the first after a planned change returning the converter; a bad pair counts as bad; N bad ones in a row take the converter out of service with FAIL, ADC_FAILOVER, a re-proof and a fault event; RESTORE returns it after N good pairs, and is BUSY otherwise. A command whose conditions do not hold leaves the state as it is: the model's choice, log 5. -/
def Obligations.CalibrationAndChecks : Prop := CalibrationRule ∧ SelfChecksRule

/-- R104: KEY 0xB007 written to SYS_RSTREQ completes with OK and an SWR follows; any other KEY changes nothing and completes with INVALID. The watchdog's service word restarts its count; any other value changes nothing and completes with INVALID. -/
def Obligations.SystemKeys : Prop := SoftwareResetKeyRule ∧ WatchdogServiceRule

/-- Sending: at a slot boundary a SEND frame that is the medium's next goes on the air inside the window; at the end of a transmission a SEND frame leaves the queue with its number and OK in the last-result registers and SLK_TXDONE raised; RX_POP releases the ring's head and is INVALID on an empty ring; an unaddressed node queues a JOIN once its backoff is over. Keep-alive and the media: K missed superframes force every running input to SAFE, set KALOSS, raise SLK_KALOSS and are a fault event; a medium whose driver fails, or that is silent while the other hears, fails with MEDFAIL and a fault event and moves its roles; after RET good superframes it works again and takes them back under AUTORET. A command whose conditions do not hold leaves the state as it is: the model's choice, log 5. -/
def Obligations.LinkSending : Prop := LinkSendingRule ∧ KeepAliveAndMediaRule

/-- The host's submission and query: only HOST may submit, one request at a time; the request the submission registers spell joins those waiting and PEND is set, and one of a LEVEL kind that passes checks 1 and 2 has its mailbox load put in line. A query of a SEQ that a live entry carries answers its state and result; one at or below the last accepted number answers ORDER_FAULT, any other INVALID. Acceptance: the next request in line that passes the checks of R182 (a known kind that admits its source and length, a SEQ above the sender's last accepted one, a known sender, room above the reserve, JNL not severe) leaves the line and its entry begins at NEXT; a new sender is first given a slot, the lowest free one in this model (log 97), and a slot that does not read back refuses with INTEGRITY. A repeat of a live entry's SEQ only sets DUP, any other stale SEQ is refused with ORDER_FAULT and sets STALE; a kind the table does not know is refused with INVALID. Nothing is accepted while an entry is being written or before recovery has ended. A command whose conditions do not hold leaves the state as it is: the model's choice, log 5. -/
def Obligations.HostJournalPort : Prop := HostJournalPortRule ∧ JournalAcceptanceRule

/-- The COMMAND is a journal request: its source by its family, its number, its kind and its payload. A verified REPLY or APP enters the receive ring with the stamp of its sync's end and raises SLK_RX; with the ring full it is dropped and RXOVF is set. A verified BEACON records its number, raises SLK_BEACON, stores the gateway's window, notes the JOIN schedule and counts for keep-alive unless SHUT; it corrects string time only on the beacon medium (no JOIN waits). A verified JOIN is dropped. A command whose conditions do not hold leaves the state as it is: the model's choice, log 5. -/
def Obligations.LinkFrames : Prop := CommandFramesRule ∧ ReceivedFramesRule

/-- The periodic steps: a slew step moves the commanded values of every running input toward their targets by the slew rates and leaves an input in OFF alone; every 100 µs the period in use moves toward its aim by at most 1/1 024 of itself, but is held after one or two missing reference edges. An external reference: an input that follows SYNCIN counts its edges by DIV; a reference within 20 % of the committed period is good and the fourth in a row sets the aim, which every later one moves; one further off is a missing edge, and the third missing in a row loses lock with SYNC_LOST and turns the aim back to the committed period. An input with the internal reference is left alone. A command whose conditions do not hold leaves the state as it is: the model's choice, log 5. -/
def Obligations.SlewPeriodAndSync : Prop := SlewAndPeriodStepsRule ∧ SyncReferenceRule

/-- The accumulator instructions: products are exact and shifted right rounding toward minus infinity; ADA and LDA shift left, ASR shifts the accumulator right. The register instructions: 32-bit sums and differences wrap, MIN and MAX compare as signed numbers, SEL looks at the accumulator's sign, LDI extends its immediate, RDP reads a port. -/
def Obligations.CeStateWrites : Prop := CeAccumulatorsRule ∧ CeRegistersRule

/-- The order of R122 for both access rows: an unmapped address, then the access table (with the report of R123), then the width, then a domain that is off; each refusal leaves the rest of the machine alone. A dead port's access does nothing. No other request waits at the target, which would be granted in its turn (R113). A read of a register with RC fields returns the register's word and clears those fields, and no other field of any register; what hardware adds or sets in them on the edge of the read is kept behind the clear. A write of 1 to a flag does not clear it on an edge on which hardware sets it, and a lock whose clear asks for clear fault flags stays while hardware sets one on the edge of the write: LOCKOUT of a power stage, WLOCK of the NVS controller. A command whose conditions do not hold leaves the state as it is: the model's choice, log 5. -/
def Obligations.InterconnectAndReads : Prop := BusRefusalOrderRule ∧ RcFieldsClearRule ∧ RacedWritesRule

/-- Protection: an overcurrent trip, in any mode, holds its phase low until its next period start and counts; overvoltage and a driver fault take the input to OFF; undervoltage takes a running input to OFF ready to restart, and is no fault event; a soft start that does not complete takes it to OFF. Each flag raises the input's line and, but for undervoltage, is a fault event of the input; a severe one takes it to OFF and locks it out. Presence: a panel that appears sets PRESENT and PRESCHG, and restarts an input that presence loss or undervoltage took to OFF when PRES.UVR allows it and nothing holds it; one that disappears takes a running input to OFF with REMOVED, ready to restart, and fails a soft start. A command whose conditions do not hold leaves the state as it is: the model's choice, log 5. -/
def Obligations.StageProtection : Prop := StageProtectionRule ∧ StagePresenceRule

/-- Host transactions: a write sets the pointer from its first four bytes and makes one access per further word, in order, the pointer moving on by 4; a read makes one access at the pointer and sends its bytes; a read of SYS_CHIPID answers the chip's identity. An access that fails sets ACCERR with its code, direction and address. With PEC a write is made once its PEC byte is right, else PECERR is set, and a read sends its PEC after the word. No other target's address and no reserved one is answered, nor any before the bus is seen free. What else the two-wire ports do: a STOP or a free bus puts the committed configuration in force; a stretched access completes but answers TIMEOUT; the low timeouts abandon the transaction with their flag; SW sets PEND with its enable, and a won response to the alert address clears it; an address match in sleep wakes the node. On the second port GO starts a transfer, needing its pins and free lines, and its end gives the code, the position of a NACK and the bytes received. A command whose conditions do not hold leaves the state as it is: the model's choice, log 5. -/
def Obligations.TwoWire : Prop := TwoWireTransactionsRule ∧ TwoWireEventsRule

/-- The front line operation writes its line whole, and no other byte, under the next count and a tag that holds, or that does not where the line came out bad, and answers OK; with the key unusable it writes nothing and answers INTEGRITY. DMA transfers: one access issues at a time, of a ready channel, CONTROL before BULK, starved before the others, then by priority; it completes once its target grants it; a source read keeps its element, a destination write moves both addresses on by the width where they step and counts, and the last ends the transfer in IDLE with code OK; a failed access is an ERROR with its code and address and a fault event; a ring whose descriptor is not valid is EMPTY, or is read again after a KICK. A command whose conditions do not hold leaves the state as it is: the model's choice, log 5. -/
def Obligations.LineOperations : Prop := LineOperationsRule ∧ DmaTransfersRule

/-- The lives of an entry in the array: a verified write of a host's entry makes it ACCEPTED, acknowledges it and stores only its two lines, and one that does not read back is refused with INTEGRITY; an entry that meets R196 retires from the head; the control block is written to its two lines when one of R196's cases holds; a mailbox load fills JNL_URGBOX and raises JNL_ACC3. No context waits in the frond engine, and no line write waits in the array. JTAKE gives the context the entry its class queue offers, once its lines read back, with OK and the entry's address in the pair, and leases it; with nothing to offer it waits, or with a timeout of 0 answers TIMEOUT; without R on the journal it answers DENIED; JMARK, JDONE and JFAIL on an entry the context holds wait for their writes, and answer INVALID for an entry it does not hold; a JMARK's verified write makes the entry STARTED, a JDONE's or JFAIL's finishes it with its result and ends the lease, and answers OK; a first write that does not read back answers INTEGRITY and leaves the entry as it was. A command whose conditions do not hold leaves the state as it is: the model's choice, log 5. -/
def Obligations.JournalEntries : Prop := JournalEntriesRule ∧ LelasJournalRule

/-- R163, R164: a load or store sends its access to g[a] plus the signed IMM, reading every source at issue, and holds the context in RUN; no register, no byte and no other context changes until the access completes. The retirement of an access to verified SRAM: a load's register takes the bytes at the address, lowest first and extended as the instruction says, and LDD's pair the two words; a store's bytes, and no others, take the value. LDWC and STWC also answer the completion code OK. -/
def Obligations.LelasAccesses : Prop := LelasAccessIssueRule ∧ LelasAccessRetiresRule

/-- The real-time clock: a read of RTC_SEC answers the seconds and keeps both parts for the reader; START waits for a cycle boundary, needs K of 4 to 16 and string time in LOCKED; a window that closes gives the error and, with AUTO, the trim that undoes it; ABORT and the stop of the oscillator end a measurement with reason 5; an alarm whose target is reached sets its flag, raises the line once, and is disabled or moves on by its repeat. The fan: a regulator step from STOPPED begins a start when the demand reaches MINSPD, and in RUN moves the duty by at most 16 within 0 to 1023; the zone evaluation takes the highest demand of the enabled zones; the start goes DETECT, ALIGN, RAMP, DETECT, RUN, fails to BACKOFF and after the sixth attempt to STALLED with a fault; lost signals, bridge faults and the motor supply act as R464 and R465 say. A command whose conditions do not hold leaves the state as it is: the model's choice, log 5. -/
def Obligations.RealTimeClockAndFan : Prop := RealTimeClockRule ∧ FanRule
end

