-- ==== Sys2Proof/Laws/Bus.lean ====
section
/-! SUPPORT. What an access that reaches its register does: the checks of R122 pass, and the register's own rule decides. -/

namespace Sys2Proof.Machine

/-- Checks 1 to 4 pass and leave the state alone. -/
theorem busCheck_reaches {id : Id} {reg : Nat} {k : AccKind} {s : State} (h : Reaches id reg k s) :
    busCheck id reg 4 k s = (none, s) := by
  obtain ⟨_, h2, h3, h4, h5, _⟩ := h
  simp [busCheck, h2, h3, h4, h5]

/-- Where no request waits, a port's access meets none. -/
theorem portTurn_reaches {id : Id} {reg : Nat} {k : AccKind} {s : State} (h : Reaches id reg k s) :
    portTurn id reg s = s := by simp [portTurn, h.2.2.2.2.2]

/-- A register write that reaches its register answers with the register's code. -/
theorem cmdWrite_reaches {id : Id} {reg v : Nat} {s : State} (h : Reaches id reg .write s) (hp : 0x40000000 ≤ reg) :
    cmdWrite id reg v s = (regWrite id reg v s).2.answer (regWrite id reg v s).1 := by
  have h1 := h.1
  simp only [cmdWrite, portStore, portStoreAt, portTurn_reaches h, h1, if_true, busWrite, busCheck_reaches h, serveWrite]
  grind

/-- A register read that reaches its register answers with the register's code and data. -/
theorem cmdRead_reaches {id : Id} {reg : Nat} {s : State} (h : Reaches id reg .read s) (hp : 0x40000000 ≤ reg) :
    cmdRead id reg s = (regRead id reg s).2.2.answer (regRead id reg s).1 (regRead id reg s).2.1 := by
  have h1 := h.1
  simp only [cmdRead, portLoad, portLoadAt, portTurn_reaches h, h1, if_true, busRead, busCheck_reaches h, serveRead]
  grind

/-- An event of a block acts while its domain runs. -/
theorem onDomain_runs {n : Nat} {f : State → State} {s : State} (h : Runs n s) : onDomain n f s = f s := by
  simp [onDomain, h.1, h.2]

/-- An event acts while SCLK runs. -/
theorem whenAwake_runs {f : State → State} {s : State} (h : awake s = true) : whenAwake f s = f s := by
  simp [whenAwake, h]

end Sys2Proof.Machine
end

