-- ==== Sys2Proof/Laws/Crypto.lean ====
section
/-! SUPPORT. The S-box table of AES is the inverse in GF(2^8) under the affine map. -/

namespace Sys2Proof.Machine

/-- The affine map of the S-box over the inverse. -/
def sboxSpec (b : BitVec 8) : BitVec 8 :=
  let x := ginv b
  x ^^^ x.rotateLeft 1 ^^^ x.rotateLeft 2 ^^^ x.rotateLeft 3 ^^^ x.rotateLeft 4 ^^^ 0x63#8

/-- The table is the affine map of the inverse. -/
theorem sbox_eq_spec : ∀ b : BitVec 8, sbox b = sboxSpec b := by
  intro b
  have h : ∀ n : Fin 256, sbox (BitVec.ofNat 8 n) = sboxSpec (BitVec.ofNat 8 n) := by decide +kernel
  simpa using h b.toFin

end Sys2Proof.Machine
end

