-- ==== Sys2Proof/Laws/Tab.lean ====
section
/-! SUPPORT. Laws of sparse tables: reading what was put, and that every operation keeps the keys rising and the canonical form. -/

namespace Sys2Proof.Machine

/-- Setting a key keeps the keys rising. -/
theorem Tab.risingFrom_set {α} (t : Tab α) (b : Option Nat) (k : Nat) (v : α) (h : Tab.risingFrom b t = true)
   (hb : ∀ x, b = some x → x < k) : Tab.risingFrom b (Tab.set t k v) = true := by
  induction t generalizing b with
  | nil => cases b <;> simp_all [Tab.set, Tab.risingFrom]
  | cons e t ih =>
    obtain ⟨k', v'⟩ := e
    simp only [Tab.set]
    split
    · cases b <;> simp_all [Tab.risingFrom]
    · split
      · subst_vars; cases b <;> simp_all [Tab.risingFrom]
      · cases b with
        | none => simp only [Tab.risingFrom] at h ⊢; exact ih _ h (by intro x hx; cases hx; omega)
        | some b =>
          simp only [Tab.risingFrom, Bool.and_eq_true, decide_eq_true_eq] at h ⊢
          exact ⟨h.1, ih _ h.2 (by intro x hx; cases hx; omega)⟩

/-- A lower bound may be lowered. -/
theorem Tab.risingFrom_mono {α} (t : Tab α) (b c : Option Nat) (h : Tab.risingFrom b t = true)
   (hb : ∀ x, c = some x → ∃ y, b = some y ∧ x ≤ y) : Tab.risingFrom c t = true := by
  cases t with
  | nil => cases c <;> rfl
  | cons e t =>
    obtain ⟨k', v'⟩ := e
    cases c with
    | none => cases b <;> simp_all [Tab.risingFrom]
    | some c =>
      obtain ⟨y, rfl, hy⟩ := hb c rfl
      simp only [Tab.risingFrom, Bool.and_eq_true, decide_eq_true_eq] at h ⊢
      exact ⟨by omega, h.2⟩

/-- Erasing a key keeps the keys rising. -/
theorem Tab.risingFrom_erase {α} (t : Tab α) (b : Option Nat) (k : Nat) (h : Tab.risingFrom b t = true) :
   Tab.risingFrom b (Tab.erase t k) = true := by
  induction t generalizing b with
  | nil => exact h
  | cons e t ih =>
    obtain ⟨k', v'⟩ := e
    simp only [Tab.erase]
    split
    · exact h
    · split
      · subst_vars
        cases b with
        | none => exact Tab.risingFrom_mono _ _ _ h (by simp)
        | some b =>
          simp only [Tab.risingFrom, Bool.and_eq_true, decide_eq_true_eq] at h
          exact Tab.risingFrom_mono _ _ _ h.2 (by simp; omega)
      · cases b with
        | none => simp only [Tab.risingFrom] at h ⊢; exact ih _ h
        | some b =>
          simp only [Tab.risingFrom, Bool.and_eq_true, decide_eq_true_eq] at h ⊢
          exact ⟨h.1, ih _ h.2⟩

/-- Filtering keeps the keys rising. -/
theorem Tab.risingFrom_filter {α} (t : Tab α) (b : Option Nat) (p : Nat × α → Bool) (h : Tab.risingFrom b t = true) :
   Tab.risingFrom b (t.filter p) = true := by
  induction t generalizing b with
  | nil => exact h
  | cons e t ih =>
    have ht : Tab.risingFrom (some e.1) t = true := by
      cases b <;> simp_all [Tab.risingFrom]
    simp only [List.filter_cons]
    split
    · cases b with
      | none => exact ih _ ht
      | some b =>
        simp only [Tab.risingFrom, Bool.and_eq_true, decide_eq_true_eq] at h ⊢
        exact ⟨h.1, ih _ ht⟩
    · refine ih _ (Tab.risingFrom_mono _ _ _ ht ?_)
      intro x hx; subst hx
      simp only [Tab.risingFrom, Bool.and_eq_true, decide_eq_true_eq] at h
      exact ⟨_, rfl, by omega⟩

/-- A property of every entry survives setting a key to a value that has it. -/
theorem Tab.all_set {α} (t : Tab α) (p : Nat × α → Bool) (k : Nat) (v : α) (h : t.all p = true) (hv : p (k, v) = true) :
   (Tab.set t k v).all p = true := by
  induction t with
  | nil => simp [Tab.set, hv]
  | cons e t ih =>
    obtain ⟨k', v'⟩ := e
    simp only [Tab.set]
    split
    · simp_all
    · split <;> simp_all

/-- A property of every entry survives erasing a key. -/
theorem Tab.all_erase {α} (t : Tab α) (p : Nat × α → Bool) (k : Nat) (h : t.all p = true) : (Tab.erase t k).all p = true := by
  induction t with
  | nil => exact h
  | cons e t ih =>
    obtain ⟨k', v'⟩ := e
    simp only [Tab.erase]
    split
    · simp_all
    · split <;> simp_all

/-- Putting a value keeps the keys rising. -/
theorem Tab.rising_put {α} [DecidableEq α] (d : α) (t : Tab α) (k : Nat) (v : α) (h : Tab.rising t = true) : Tab.rising (Tab.put d t k v) = true := by
  unfold Tab.put; split
  · exact Tab.risingFrom_erase _ _ _ h
  · exact Tab.risingFrom_set _ _ _ _ h (by simp)

/-- Putting a value keeps the canonical form. -/
theorem Tab.canon_put {α} [DecidableEq α] (d : α) (t : Tab α) (k : Nat) (v : α) (h : Tab.canon d t = true) : Tab.canon d (Tab.put d t k v) = true := by
  simp only [Tab.canon, Bool.and_eq_true] at h ⊢
  refine ⟨Tab.rising_put _ _ _ _ h.1, ?_⟩
  unfold Tab.put; split
  · exact Tab.all_erase _ _ _ h.2
  · exact Tab.all_set _ _ _ _ h.2 (by simpa)

/-- Filtering keeps the canonical form. -/
theorem Tab.canon_filter {α} [DecidableEq α] (d : α) (t : Tab α) (p : Nat × α → Bool) (h : Tab.canon d t = true) : Tab.canon d (t.filter p) = true := by
  simp only [Tab.canon, Bool.and_eq_true] at h ⊢
  refine ⟨Tab.risingFrom_filter _ _ _ h.1, ?_⟩
  have := h.2
  simp only [List.all_eq_true, List.mem_filter] at this ⊢
  exact fun x hx => this x hx.1

/-- A key just set reads as its value. -/
@[simp] theorem Tab.get_set_self {α : Type} (t : Tab α) (k : Nat) (v : α) : Tab.get (Tab.set t k v) k = some v := by
  induction t with
  | nil => simp [Tab.set, Tab.get]
  | cons e t ih =>
    obtain ⟨k', v'⟩ := e
    simp only [Tab.set]
    split
    · simp [Tab.get]
    · split
      · simp [Tab.get]
      · simp only [Tab.get, ih]; grind

/-- Setting a key leaves every other key as it reads. -/
theorem Tab.get_set_other {α : Type} (t : Tab α) (k q : Nat) (v : α) (h : q ≠ k) :
    Tab.get (Tab.set t k v) q = Tab.get t q := by
  induction t with
  | nil => simp [Tab.set, Tab.get]; omega
  | cons e t ih =>
    obtain ⟨k', v'⟩ := e
    simp only [Tab.set]
    split
    · simp only [Tab.get]; grind
    · split
      · simp only [Tab.get]; grind
      · simp only [Tab.get, ih]

/-- Below the bound of a rising table nothing is listed. -/
theorem Tab.get_below {α : Type} (t : Tab α) (b q : Nat) (h : Tab.risingFrom (some b) t = true) (hq : q ≤ b) :
    Tab.get t q = none := by
  cases t with
  | nil => rfl
  | cons e t =>
    obtain ⟨k', v'⟩ := e
    simp only [Tab.risingFrom, Bool.and_eq_true, decide_eq_true_eq] at h
    simp only [Tab.get]
    grind

/-- In a rising table an erased key is not listed. -/
theorem Tab.get_erase_self {α : Type} (t : Tab α) (b : Option Nat) (k : Nat) (h : Tab.risingFrom b t = true) :
    Tab.get (Tab.erase t k) k = none := by
  induction t generalizing b with
  | nil => rfl
  | cons e t ih =>
    obtain ⟨k', v'⟩ := e
    have ht : Tab.risingFrom (some k') t = true := by cases b <;> simp_all [Tab.risingFrom]
    simp only [Tab.erase]
    split
    · simp only [Tab.get]; grind
    · split
      · exact Tab.get_below _ _ _ ht (by omega)
      · simp only [Tab.get, ih _ ht]; grind

/-- In a rising table erasing a key leaves every other key as it reads. -/
theorem Tab.get_erase_other {α : Type} (t : Tab α) (b : Option Nat) (k q : Nat) (h : Tab.risingFrom b t = true) (hq : q ≠ k) :
    Tab.get (Tab.erase t k) q = Tab.get t q := by
  induction t generalizing b with
  | nil => rfl
  | cons e t ih =>
    obtain ⟨k', v'⟩ := e
    have ht : Tab.risingFrom (some k') t = true := by cases b <;> simp_all [Tab.risingFrom]
    simp only [Tab.erase]
    split
    · rfl
    · split
      · subst_vars
        simp only [Tab.get]
        rw [if_neg (by omega)]
        split
        · exact Tab.get_below _ _ _ ht (by omega)
        · rfl
      · simp only [Tab.get, ih _ ht]

/-- A put value reads back. -/
theorem Tab.val_put_self {α : Type} [DecidableEq α] (d : α) (t : Tab α) (k : Nat) (v : α) (h : Tab.rising t = true) :
    Tab.val d (Tab.put d t k v) k = v := by
  unfold Tab.put Tab.val
  split
  · rw [Tab.get_erase_self t none k h]; simp_all
  · simp

/-- A put leaves every other key as it reads. -/
theorem Tab.val_put_other {α : Type} [DecidableEq α] (d d' : α) (t : Tab α) (k q : Nat) (v : α) (h : Tab.rising t = true)
    (hq : q ≠ k) : Tab.val d' (Tab.put d t k v) q = Tab.val d' t q := by
  unfold Tab.put Tab.val
  split
  · rw [Tab.get_erase_other t none k q h hq]
  · rw [Tab.get_set_other _ _ _ _ hq]

end Sys2Proof.Machine
end

