-- ==== Sys2Proof/Laws/State.lean ====
section
/-! SUPPORT. One lemma per field of State and per update of State: what the update makes of the field. With them no proof unfolds a record update. After them the reading laws of fields, bytes, stages, contexts, general registers and inputs. -/

namespace Sys2Proof.Machine

/-! ### `State.p2` -/

@[simp] theorem State.p2_pending (s : State) (x : Fam) (i j v : Nat) : (s.p2 x i j v).pending = s.pending := rfl
@[simp] theorem State.p2_resp (s : State) (x : Fam) (i j v : Nat) : (s.p2 x i j v).resp = s.resp := rfl
@[simp] theorem State.p2_regs (s : State) (x : Fam) (i j v : Nat) : (s.p2 x i j v).regs = Tab.put (x.rstAt i j) s.regs (x.key i j) (v % 2 ^ x.w) := rfl
@[simp] theorem State.p2_mem (s : State) (x : Fam) (i j v : Nat) : (s.p2 x i j v).mem = s.mem := rfl
@[simp] theorem State.p2_sramGood (s : State) (x : Fam) (i j v : Nat) : (s.p2 x i j v).sramGood = s.sramGood := rfl
@[simp] theorem State.p2_sramOne (s : State) (x : Fam) (i j v : Nat) : (s.p2 x i j v).sramOne = s.sramOne := rfl
@[simp] theorem State.p2_nvsBad (s : State) (x : Fam) (i j v : Nat) : (s.p2 x i j v).nvsBad = s.nvsBad := rfl
@[simp] theorem State.p2_stages (s : State) (x : Fam) (i j v : Nat) : (s.p2 x i j v).stages = s.stages := rfl
@[simp] theorem State.p2_free (s : State) (x : Fam) (i j v : Nat) : (s.p2 x i j v).free = s.free := rfl
@[simp] theorem State.p2_pow (s : State) (x : Fam) (i j v : Nat) : (s.p2 x i j v).pow = s.pow := rfl
@[simp] theorem State.p2_stm (s : State) (x : Fam) (i j v : Nat) : (s.p2 x i j v).stm = s.stm := rfl
@[simp] theorem State.p2_seq (s : State) (x : Fam) (i j v : Nat) : (s.p2 x i j v).seq = s.seq := rfl
@[simp] theorem State.p2_jnl (s : State) (x : Fam) (i j v : Nat) : (s.p2 x i j v).jnl = s.jnl := rfl
@[simp] theorem State.p2_link (s : State) (x : Fam) (i j v : Nat) : (s.p2 x i j v).link = s.link := rfl
@[simp] theorem State.p2_flt (s : State) (x : Fam) (i j v : Nat) : (s.p2 x i j v).flt = s.flt := rfl
@[simp] theorem State.p2_nvs (s : State) (x : Fam) (i j v : Nat) : (s.p2 x i j v).nvs = s.nvs := rfl
@[simp] theorem State.p2_pst (s : State) (x : Fam) (i j v : Nat) : (s.p2 x i j v).pst = s.pst := rfl
@[simp] theorem State.p2_ce (s : State) (x : Fam) (i j v : Nat) : (s.p2 x i j v).ce = s.ce := rfl
@[simp] theorem State.p2_adc (s : State) (x : Fam) (i j v : Nat) : (s.p2 x i j v).adc = s.adc := rfl
@[simp] theorem State.p2_fan (s : State) (x : Fam) (i j v : Nat) : (s.p2 x i j v).fan = s.fan := rfl
@[simp] theorem State.p2_hkr (s : State) (x : Fam) (i j v : Nat) : (s.p2 x i j v).hkr = s.hkr := rfl
@[simp] theorem State.p2_chg (s : State) (x : Fam) (i j v : Nat) : (s.p2 x i j v).chg = s.chg := rfl
@[simp] theorem State.p2_rtc (s : State) (x : Fam) (i j v : Nat) : (s.p2 x i j v).rtc = s.rtc := rfl
@[simp] theorem State.p2_dma (s : State) (x : Fam) (i j v : Nat) : (s.p2 x i j v).dma = s.dma := rfl
@[simp] theorem State.p2_twb (s : State) (x : Fam) (i j v : Nat) : (s.p2 x i j v).twb = s.twb := rfl
@[simp] theorem State.p2_sec (s : State) (x : Fam) (i j v : Nat) : (s.p2 x i j v).sec = s.sec := rfl
@[simp] theorem State.p2_byte (s : State) (x : Fam) (i j v : Nat) (q : Nat) : (s.p2 x i j v).byte q = s.byte q := rfl
@[simp] theorem State.p2_stage (s : State) (x : Fam) (i j v : Nat) (q : Nat) : (s.p2 x i j v).stage q = s.stage q := rfl
@[simp] theorem State.p2_ctx (s : State) (x : Fam) (i j v : Nat) (q : Nat) : (s.p2 x i j v).ctx q = s.ctx q := rfl
@[simp] theorem State.p2_gr (s : State) (x : Fam) (i j v : Nat) (q t : Nat) : (s.p2 x i j v).gr q t = s.gr q t := rfl
@[simp] theorem State.p2_pin (s : State) (x : Fam) (i j v : Nat) (q : Nat) : (s.p2 x i j v).pin q = s.pin q := rfl

/-! ### `State.p1` -/

@[simp] theorem State.p1_pending (s : State) (x : Fam) (i v : Nat) : (s.p1 x i v).pending = s.pending := rfl
@[simp] theorem State.p1_resp (s : State) (x : Fam) (i v : Nat) : (s.p1 x i v).resp = s.resp := rfl
@[simp] theorem State.p1_regs (s : State) (x : Fam) (i v : Nat) : (s.p1 x i v).regs = Tab.put (x.rstAt i 0) s.regs (x.key i 0) (v % 2 ^ x.w) := rfl
@[simp] theorem State.p1_mem (s : State) (x : Fam) (i v : Nat) : (s.p1 x i v).mem = s.mem := rfl
@[simp] theorem State.p1_sramGood (s : State) (x : Fam) (i v : Nat) : (s.p1 x i v).sramGood = s.sramGood := rfl
@[simp] theorem State.p1_sramOne (s : State) (x : Fam) (i v : Nat) : (s.p1 x i v).sramOne = s.sramOne := rfl
@[simp] theorem State.p1_nvsBad (s : State) (x : Fam) (i v : Nat) : (s.p1 x i v).nvsBad = s.nvsBad := rfl
@[simp] theorem State.p1_stages (s : State) (x : Fam) (i v : Nat) : (s.p1 x i v).stages = s.stages := rfl
@[simp] theorem State.p1_free (s : State) (x : Fam) (i v : Nat) : (s.p1 x i v).free = s.free := rfl
@[simp] theorem State.p1_pow (s : State) (x : Fam) (i v : Nat) : (s.p1 x i v).pow = s.pow := rfl
@[simp] theorem State.p1_stm (s : State) (x : Fam) (i v : Nat) : (s.p1 x i v).stm = s.stm := rfl
@[simp] theorem State.p1_seq (s : State) (x : Fam) (i v : Nat) : (s.p1 x i v).seq = s.seq := rfl
@[simp] theorem State.p1_jnl (s : State) (x : Fam) (i v : Nat) : (s.p1 x i v).jnl = s.jnl := rfl
@[simp] theorem State.p1_link (s : State) (x : Fam) (i v : Nat) : (s.p1 x i v).link = s.link := rfl
@[simp] theorem State.p1_flt (s : State) (x : Fam) (i v : Nat) : (s.p1 x i v).flt = s.flt := rfl
@[simp] theorem State.p1_nvs (s : State) (x : Fam) (i v : Nat) : (s.p1 x i v).nvs = s.nvs := rfl
@[simp] theorem State.p1_pst (s : State) (x : Fam) (i v : Nat) : (s.p1 x i v).pst = s.pst := rfl
@[simp] theorem State.p1_ce (s : State) (x : Fam) (i v : Nat) : (s.p1 x i v).ce = s.ce := rfl
@[simp] theorem State.p1_adc (s : State) (x : Fam) (i v : Nat) : (s.p1 x i v).adc = s.adc := rfl
@[simp] theorem State.p1_fan (s : State) (x : Fam) (i v : Nat) : (s.p1 x i v).fan = s.fan := rfl
@[simp] theorem State.p1_hkr (s : State) (x : Fam) (i v : Nat) : (s.p1 x i v).hkr = s.hkr := rfl
@[simp] theorem State.p1_chg (s : State) (x : Fam) (i v : Nat) : (s.p1 x i v).chg = s.chg := rfl
@[simp] theorem State.p1_rtc (s : State) (x : Fam) (i v : Nat) : (s.p1 x i v).rtc = s.rtc := rfl
@[simp] theorem State.p1_dma (s : State) (x : Fam) (i v : Nat) : (s.p1 x i v).dma = s.dma := rfl
@[simp] theorem State.p1_twb (s : State) (x : Fam) (i v : Nat) : (s.p1 x i v).twb = s.twb := rfl
@[simp] theorem State.p1_sec (s : State) (x : Fam) (i v : Nat) : (s.p1 x i v).sec = s.sec := rfl
@[simp] theorem State.p1_byte (s : State) (x : Fam) (i v : Nat) (q : Nat) : (s.p1 x i v).byte q = s.byte q := rfl
@[simp] theorem State.p1_stage (s : State) (x : Fam) (i v : Nat) (q : Nat) : (s.p1 x i v).stage q = s.stage q := rfl
@[simp] theorem State.p1_ctx (s : State) (x : Fam) (i v : Nat) (q : Nat) : (s.p1 x i v).ctx q = s.ctx q := rfl
@[simp] theorem State.p1_gr (s : State) (x : Fam) (i v : Nat) (q t : Nat) : (s.p1 x i v).gr q t = s.gr q t := rfl
@[simp] theorem State.p1_pin (s : State) (x : Fam) (i v : Nat) (q : Nat) : (s.p1 x i v).pin q = s.pin q := rfl

/-! ### `State.p` -/

@[simp] theorem State.p_pending (s : State) (x : Fam) (v : Nat) : (s.p x v).pending = s.pending := rfl
@[simp] theorem State.p_resp (s : State) (x : Fam) (v : Nat) : (s.p x v).resp = s.resp := rfl
@[simp] theorem State.p_regs (s : State) (x : Fam) (v : Nat) : (s.p x v).regs = Tab.put (x.rstAt 0 0) s.regs (x.key 0 0) (v % 2 ^ x.w) := rfl
@[simp] theorem State.p_mem (s : State) (x : Fam) (v : Nat) : (s.p x v).mem = s.mem := rfl
@[simp] theorem State.p_sramGood (s : State) (x : Fam) (v : Nat) : (s.p x v).sramGood = s.sramGood := rfl
@[simp] theorem State.p_sramOne (s : State) (x : Fam) (v : Nat) : (s.p x v).sramOne = s.sramOne := rfl
@[simp] theorem State.p_nvsBad (s : State) (x : Fam) (v : Nat) : (s.p x v).nvsBad = s.nvsBad := rfl
@[simp] theorem State.p_stages (s : State) (x : Fam) (v : Nat) : (s.p x v).stages = s.stages := rfl
@[simp] theorem State.p_free (s : State) (x : Fam) (v : Nat) : (s.p x v).free = s.free := rfl
@[simp] theorem State.p_pow (s : State) (x : Fam) (v : Nat) : (s.p x v).pow = s.pow := rfl
@[simp] theorem State.p_stm (s : State) (x : Fam) (v : Nat) : (s.p x v).stm = s.stm := rfl
@[simp] theorem State.p_seq (s : State) (x : Fam) (v : Nat) : (s.p x v).seq = s.seq := rfl
@[simp] theorem State.p_jnl (s : State) (x : Fam) (v : Nat) : (s.p x v).jnl = s.jnl := rfl
@[simp] theorem State.p_link (s : State) (x : Fam) (v : Nat) : (s.p x v).link = s.link := rfl
@[simp] theorem State.p_flt (s : State) (x : Fam) (v : Nat) : (s.p x v).flt = s.flt := rfl
@[simp] theorem State.p_nvs (s : State) (x : Fam) (v : Nat) : (s.p x v).nvs = s.nvs := rfl
@[simp] theorem State.p_pst (s : State) (x : Fam) (v : Nat) : (s.p x v).pst = s.pst := rfl
@[simp] theorem State.p_ce (s : State) (x : Fam) (v : Nat) : (s.p x v).ce = s.ce := rfl
@[simp] theorem State.p_adc (s : State) (x : Fam) (v : Nat) : (s.p x v).adc = s.adc := rfl
@[simp] theorem State.p_fan (s : State) (x : Fam) (v : Nat) : (s.p x v).fan = s.fan := rfl
@[simp] theorem State.p_hkr (s : State) (x : Fam) (v : Nat) : (s.p x v).hkr = s.hkr := rfl
@[simp] theorem State.p_chg (s : State) (x : Fam) (v : Nat) : (s.p x v).chg = s.chg := rfl
@[simp] theorem State.p_rtc (s : State) (x : Fam) (v : Nat) : (s.p x v).rtc = s.rtc := rfl
@[simp] theorem State.p_dma (s : State) (x : Fam) (v : Nat) : (s.p x v).dma = s.dma := rfl
@[simp] theorem State.p_twb (s : State) (x : Fam) (v : Nat) : (s.p x v).twb = s.twb := rfl
@[simp] theorem State.p_sec (s : State) (x : Fam) (v : Nat) : (s.p x v).sec = s.sec := rfl
@[simp] theorem State.p_byte (s : State) (x : Fam) (v : Nat) (q : Nat) : (s.p x v).byte q = s.byte q := rfl
@[simp] theorem State.p_stage (s : State) (x : Fam) (v : Nat) (q : Nat) : (s.p x v).stage q = s.stage q := rfl
@[simp] theorem State.p_ctx (s : State) (x : Fam) (v : Nat) (q : Nat) : (s.p x v).ctx q = s.ctx q := rfl
@[simp] theorem State.p_gr (s : State) (x : Fam) (v : Nat) (q t : Nat) : (s.p x v).gr q t = s.gr q t := rfl
@[simp] theorem State.p_pin (s : State) (x : Fam) (v : Nat) (q : Nat) : (s.p x v).pin q = s.pin q := rfl

/-! ### `State.pf` -/

@[simp] theorem State.pf_pending (s : State) (x : Fld) (v : Nat) : (s.pf x v).pending = s.pending := rfl
@[simp] theorem State.pf_resp (s : State) (x : Fld) (v : Nat) : (s.pf x v).resp = s.resp := rfl
@[simp] theorem State.pf_regs (s : State) (x : Fld) (v : Nat) : (s.pf x v).regs = Tab.put (x.fam.rstAt x.i x.j) s.regs (x.fam.key x.i x.j) (v % 2 ^ x.fam.w) := rfl
@[simp] theorem State.pf_mem (s : State) (x : Fld) (v : Nat) : (s.pf x v).mem = s.mem := rfl
@[simp] theorem State.pf_sramGood (s : State) (x : Fld) (v : Nat) : (s.pf x v).sramGood = s.sramGood := rfl
@[simp] theorem State.pf_sramOne (s : State) (x : Fld) (v : Nat) : (s.pf x v).sramOne = s.sramOne := rfl
@[simp] theorem State.pf_nvsBad (s : State) (x : Fld) (v : Nat) : (s.pf x v).nvsBad = s.nvsBad := rfl
@[simp] theorem State.pf_stages (s : State) (x : Fld) (v : Nat) : (s.pf x v).stages = s.stages := rfl
@[simp] theorem State.pf_free (s : State) (x : Fld) (v : Nat) : (s.pf x v).free = s.free := rfl
@[simp] theorem State.pf_pow (s : State) (x : Fld) (v : Nat) : (s.pf x v).pow = s.pow := rfl
@[simp] theorem State.pf_stm (s : State) (x : Fld) (v : Nat) : (s.pf x v).stm = s.stm := rfl
@[simp] theorem State.pf_seq (s : State) (x : Fld) (v : Nat) : (s.pf x v).seq = s.seq := rfl
@[simp] theorem State.pf_jnl (s : State) (x : Fld) (v : Nat) : (s.pf x v).jnl = s.jnl := rfl
@[simp] theorem State.pf_link (s : State) (x : Fld) (v : Nat) : (s.pf x v).link = s.link := rfl
@[simp] theorem State.pf_flt (s : State) (x : Fld) (v : Nat) : (s.pf x v).flt = s.flt := rfl
@[simp] theorem State.pf_nvs (s : State) (x : Fld) (v : Nat) : (s.pf x v).nvs = s.nvs := rfl
@[simp] theorem State.pf_pst (s : State) (x : Fld) (v : Nat) : (s.pf x v).pst = s.pst := rfl
@[simp] theorem State.pf_ce (s : State) (x : Fld) (v : Nat) : (s.pf x v).ce = s.ce := rfl
@[simp] theorem State.pf_adc (s : State) (x : Fld) (v : Nat) : (s.pf x v).adc = s.adc := rfl
@[simp] theorem State.pf_fan (s : State) (x : Fld) (v : Nat) : (s.pf x v).fan = s.fan := rfl
@[simp] theorem State.pf_hkr (s : State) (x : Fld) (v : Nat) : (s.pf x v).hkr = s.hkr := rfl
@[simp] theorem State.pf_chg (s : State) (x : Fld) (v : Nat) : (s.pf x v).chg = s.chg := rfl
@[simp] theorem State.pf_rtc (s : State) (x : Fld) (v : Nat) : (s.pf x v).rtc = s.rtc := rfl
@[simp] theorem State.pf_dma (s : State) (x : Fld) (v : Nat) : (s.pf x v).dma = s.dma := rfl
@[simp] theorem State.pf_twb (s : State) (x : Fld) (v : Nat) : (s.pf x v).twb = s.twb := rfl
@[simp] theorem State.pf_sec (s : State) (x : Fld) (v : Nat) : (s.pf x v).sec = s.sec := rfl
@[simp] theorem State.pf_byte (s : State) (x : Fld) (v : Nat) (q : Nat) : (s.pf x v).byte q = s.byte q := rfl
@[simp] theorem State.pf_stage (s : State) (x : Fld) (v : Nat) (q : Nat) : (s.pf x v).stage q = s.stage q := rfl
@[simp] theorem State.pf_ctx (s : State) (x : Fld) (v : Nat) (q : Nat) : (s.pf x v).ctx q = s.ctx q := rfl
@[simp] theorem State.pf_gr (s : State) (x : Fld) (v : Nat) (q t : Nat) : (s.pf x v).gr q t = s.gr q t := rfl
@[simp] theorem State.pf_pin (s : State) (x : Fld) (v : Nat) (q : Nat) : (s.pf x v).pin q = s.pin q := rfl

/-! ### `State.answer` -/

@[simp] theorem State.answer_pending (s : State) (c : Code) (d : Nat) : (s.answer c d).pending = s.pending := rfl
@[simp] theorem State.answer_resp (s : State) (c : Code) (d : Nat) : (s.answer c d).resp = ⟨c, d⟩ := rfl
@[simp] theorem State.answer_regs (s : State) (c : Code) (d : Nat) : (s.answer c d).regs = s.regs := rfl
@[simp] theorem State.answer_mem (s : State) (c : Code) (d : Nat) : (s.answer c d).mem = s.mem := rfl
@[simp] theorem State.answer_sramGood (s : State) (c : Code) (d : Nat) : (s.answer c d).sramGood = s.sramGood := rfl
@[simp] theorem State.answer_sramOne (s : State) (c : Code) (d : Nat) : (s.answer c d).sramOne = s.sramOne := rfl
@[simp] theorem State.answer_nvsBad (s : State) (c : Code) (d : Nat) : (s.answer c d).nvsBad = s.nvsBad := rfl
@[simp] theorem State.answer_stages (s : State) (c : Code) (d : Nat) : (s.answer c d).stages = s.stages := rfl
@[simp] theorem State.answer_free (s : State) (c : Code) (d : Nat) : (s.answer c d).free = s.free := rfl
@[simp] theorem State.answer_pow (s : State) (c : Code) (d : Nat) : (s.answer c d).pow = s.pow := rfl
@[simp] theorem State.answer_stm (s : State) (c : Code) (d : Nat) : (s.answer c d).stm = s.stm := rfl
@[simp] theorem State.answer_seq (s : State) (c : Code) (d : Nat) : (s.answer c d).seq = s.seq := rfl
@[simp] theorem State.answer_jnl (s : State) (c : Code) (d : Nat) : (s.answer c d).jnl = s.jnl := rfl
@[simp] theorem State.answer_link (s : State) (c : Code) (d : Nat) : (s.answer c d).link = s.link := rfl
@[simp] theorem State.answer_flt (s : State) (c : Code) (d : Nat) : (s.answer c d).flt = s.flt := rfl
@[simp] theorem State.answer_nvs (s : State) (c : Code) (d : Nat) : (s.answer c d).nvs = s.nvs := rfl
@[simp] theorem State.answer_pst (s : State) (c : Code) (d : Nat) : (s.answer c d).pst = s.pst := rfl
@[simp] theorem State.answer_ce (s : State) (c : Code) (d : Nat) : (s.answer c d).ce = s.ce := rfl
@[simp] theorem State.answer_adc (s : State) (c : Code) (d : Nat) : (s.answer c d).adc = s.adc := rfl
@[simp] theorem State.answer_fan (s : State) (c : Code) (d : Nat) : (s.answer c d).fan = s.fan := rfl
@[simp] theorem State.answer_hkr (s : State) (c : Code) (d : Nat) : (s.answer c d).hkr = s.hkr := rfl
@[simp] theorem State.answer_chg (s : State) (c : Code) (d : Nat) : (s.answer c d).chg = s.chg := rfl
@[simp] theorem State.answer_rtc (s : State) (c : Code) (d : Nat) : (s.answer c d).rtc = s.rtc := rfl
@[simp] theorem State.answer_dma (s : State) (c : Code) (d : Nat) : (s.answer c d).dma = s.dma := rfl
@[simp] theorem State.answer_twb (s : State) (c : Code) (d : Nat) : (s.answer c d).twb = s.twb := rfl
@[simp] theorem State.answer_sec (s : State) (c : Code) (d : Nat) : (s.answer c d).sec = s.sec := rfl
@[simp] theorem State.answer_g2 (s : State) (c : Code) (d : Nat) (y : Fam) (q t : Nat) : (s.answer c d).g2 y q t = s.g2 y q t := rfl
@[simp] theorem State.answer_g1 (s : State) (c : Code) (d : Nat) (y : Fam) (q : Nat) : (s.answer c d).g1 y q = s.g1 y q := rfl
@[simp] theorem State.answer_g (s : State) (c : Code) (d : Nat) (y : Fam) : (s.answer c d).g y = s.g y := rfl
@[simp] theorem State.answer_b (s : State) (c : Code) (d : Nat) (y : Fam) : (s.answer c d).b y = s.b y := rfl
@[simp] theorem State.answer_b1 (s : State) (c : Code) (d : Nat) (y : Fam) (q : Nat) : (s.answer c d).b1 y q = s.b1 y q := rfl
@[simp] theorem State.answer_gf (s : State) (c : Code) (d : Nat) (y : Fld) : (s.answer c d).gf y = s.gf y := rfl
@[simp] theorem State.answer_byte (s : State) (c : Code) (d : Nat) (q : Nat) : (s.answer c d).byte q = s.byte q := rfl
@[simp] theorem State.answer_stage (s : State) (c : Code) (d : Nat) (q : Nat) : (s.answer c d).stage q = s.stage q := rfl
@[simp] theorem State.answer_ctx (s : State) (c : Code) (d : Nat) (q : Nat) : (s.answer c d).ctx q = s.ctx q := rfl
@[simp] theorem State.answer_gr (s : State) (c : Code) (d : Nat) (q t : Nat) : (s.answer c d).gr q t = s.gr q t := rfl
@[simp] theorem State.answer_pin (s : State) (c : Code) (d : Nat) (q : Nat) : (s.answer c d).pin q = s.pin q := rfl

/-! ### `State.draw` -/

@[simp] theorem State.draw_pending (s : State) : (s.draw.2).pending = s.pending := rfl
@[simp] theorem State.draw_resp (s : State) : (s.draw.2).resp = s.resp := rfl
@[simp] theorem State.draw_regs (s : State) : (s.draw.2).regs = s.regs := rfl
@[simp] theorem State.draw_mem (s : State) : (s.draw.2).mem = s.mem := rfl
@[simp] theorem State.draw_sramGood (s : State) : (s.draw.2).sramGood = s.sramGood := rfl
@[simp] theorem State.draw_sramOne (s : State) : (s.draw.2).sramOne = s.sramOne := rfl
@[simp] theorem State.draw_nvsBad (s : State) : (s.draw.2).nvsBad = s.nvsBad := rfl
@[simp] theorem State.draw_stages (s : State) : (s.draw.2).stages = s.stages := rfl
@[simp] theorem State.draw_free (s : State) : (s.draw.2).free = s.free + 1 := rfl
@[simp] theorem State.draw_pow (s : State) : (s.draw.2).pow = s.pow := rfl
@[simp] theorem State.draw_stm (s : State) : (s.draw.2).stm = s.stm := rfl
@[simp] theorem State.draw_seq (s : State) : (s.draw.2).seq = s.seq := rfl
@[simp] theorem State.draw_jnl (s : State) : (s.draw.2).jnl = s.jnl := rfl
@[simp] theorem State.draw_link (s : State) : (s.draw.2).link = s.link := rfl
@[simp] theorem State.draw_flt (s : State) : (s.draw.2).flt = s.flt := rfl
@[simp] theorem State.draw_nvs (s : State) : (s.draw.2).nvs = s.nvs := rfl
@[simp] theorem State.draw_pst (s : State) : (s.draw.2).pst = s.pst := rfl
@[simp] theorem State.draw_ce (s : State) : (s.draw.2).ce = s.ce := rfl
@[simp] theorem State.draw_adc (s : State) : (s.draw.2).adc = s.adc := rfl
@[simp] theorem State.draw_fan (s : State) : (s.draw.2).fan = s.fan := rfl
@[simp] theorem State.draw_hkr (s : State) : (s.draw.2).hkr = s.hkr := rfl
@[simp] theorem State.draw_chg (s : State) : (s.draw.2).chg = s.chg := rfl
@[simp] theorem State.draw_rtc (s : State) : (s.draw.2).rtc = s.rtc := rfl
@[simp] theorem State.draw_dma (s : State) : (s.draw.2).dma = s.dma := rfl
@[simp] theorem State.draw_twb (s : State) : (s.draw.2).twb = s.twb := rfl
@[simp] theorem State.draw_sec (s : State) : (s.draw.2).sec = s.sec := rfl
@[simp] theorem State.draw_g2 (s : State) (y : Fam) (q t : Nat) : (s.draw.2).g2 y q t = s.g2 y q t := rfl
@[simp] theorem State.draw_g1 (s : State) (y : Fam) (q : Nat) : (s.draw.2).g1 y q = s.g1 y q := rfl
@[simp] theorem State.draw_g (s : State) (y : Fam) : (s.draw.2).g y = s.g y := rfl
@[simp] theorem State.draw_b (s : State) (y : Fam) : (s.draw.2).b y = s.b y := rfl
@[simp] theorem State.draw_b1 (s : State) (y : Fam) (q : Nat) : (s.draw.2).b1 y q = s.b1 y q := rfl
@[simp] theorem State.draw_gf (s : State) (y : Fld) : (s.draw.2).gf y = s.gf y := rfl
@[simp] theorem State.draw_byte (s : State) (q : Nat) : (s.draw.2).byte q = s.byte q := rfl
@[simp] theorem State.draw_stage (s : State) (q : Nat) : (s.draw.2).stage q = s.stage q := rfl
@[simp] theorem State.draw_ctx (s : State) (q : Nat) : (s.draw.2).ctx q = s.ctx q := rfl
@[simp] theorem State.draw_gr (s : State) (q t : Nat) : (s.draw.2).gr q t = s.gr q t := rfl
@[simp] theorem State.draw_pin (s : State) (q : Nat) : (s.draw.2).pin q = s.pin q := rfl
@[simp] theorem State.draw_fst (s : State) : s.draw.1 = s.free := rfl

/-! ### `State.setStage` -/

@[simp] theorem State.setStage_pending (s : State) (k : Nat) (x : Stage) : (s.setStage k x).pending = s.pending := rfl
@[simp] theorem State.setStage_resp (s : State) (k : Nat) (x : Stage) : (s.setStage k x).resp = s.resp := rfl
@[simp] theorem State.setStage_regs (s : State) (k : Nat) (x : Stage) : (s.setStage k x).regs = s.regs := rfl
@[simp] theorem State.setStage_mem (s : State) (k : Nat) (x : Stage) : (s.setStage k x).mem = s.mem := rfl
@[simp] theorem State.setStage_sramGood (s : State) (k : Nat) (x : Stage) : (s.setStage k x).sramGood = s.sramGood := rfl
@[simp] theorem State.setStage_sramOne (s : State) (k : Nat) (x : Stage) : (s.setStage k x).sramOne = s.sramOne := rfl
@[simp] theorem State.setStage_nvsBad (s : State) (k : Nat) (x : Stage) : (s.setStage k x).nvsBad = s.nvsBad := rfl
@[simp] theorem State.setStage_stages (s : State) (k : Nat) (x : Stage) : (s.setStage k x).stages = Tab.put {} s.stages k x := rfl
@[simp] theorem State.setStage_free (s : State) (k : Nat) (x : Stage) : (s.setStage k x).free = s.free := rfl
@[simp] theorem State.setStage_pow (s : State) (k : Nat) (x : Stage) : (s.setStage k x).pow = s.pow := rfl
@[simp] theorem State.setStage_stm (s : State) (k : Nat) (x : Stage) : (s.setStage k x).stm = s.stm := rfl
@[simp] theorem State.setStage_seq (s : State) (k : Nat) (x : Stage) : (s.setStage k x).seq = s.seq := rfl
@[simp] theorem State.setStage_jnl (s : State) (k : Nat) (x : Stage) : (s.setStage k x).jnl = s.jnl := rfl
@[simp] theorem State.setStage_link (s : State) (k : Nat) (x : Stage) : (s.setStage k x).link = s.link := rfl
@[simp] theorem State.setStage_flt (s : State) (k : Nat) (x : Stage) : (s.setStage k x).flt = s.flt := rfl
@[simp] theorem State.setStage_nvs (s : State) (k : Nat) (x : Stage) : (s.setStage k x).nvs = s.nvs := rfl
@[simp] theorem State.setStage_pst (s : State) (k : Nat) (x : Stage) : (s.setStage k x).pst = s.pst := rfl
@[simp] theorem State.setStage_ce (s : State) (k : Nat) (x : Stage) : (s.setStage k x).ce = s.ce := rfl
@[simp] theorem State.setStage_adc (s : State) (k : Nat) (x : Stage) : (s.setStage k x).adc = s.adc := rfl
@[simp] theorem State.setStage_fan (s : State) (k : Nat) (x : Stage) : (s.setStage k x).fan = s.fan := rfl
@[simp] theorem State.setStage_hkr (s : State) (k : Nat) (x : Stage) : (s.setStage k x).hkr = s.hkr := rfl
@[simp] theorem State.setStage_chg (s : State) (k : Nat) (x : Stage) : (s.setStage k x).chg = s.chg := rfl
@[simp] theorem State.setStage_rtc (s : State) (k : Nat) (x : Stage) : (s.setStage k x).rtc = s.rtc := rfl
@[simp] theorem State.setStage_dma (s : State) (k : Nat) (x : Stage) : (s.setStage k x).dma = s.dma := rfl
@[simp] theorem State.setStage_twb (s : State) (k : Nat) (x : Stage) : (s.setStage k x).twb = s.twb := rfl
@[simp] theorem State.setStage_sec (s : State) (k : Nat) (x : Stage) : (s.setStage k x).sec = s.sec := rfl
@[simp] theorem State.setStage_g2 (s : State) (k : Nat) (x : Stage) (y : Fam) (q t : Nat) : (s.setStage k x).g2 y q t = s.g2 y q t := rfl
@[simp] theorem State.setStage_g1 (s : State) (k : Nat) (x : Stage) (y : Fam) (q : Nat) : (s.setStage k x).g1 y q = s.g1 y q := rfl
@[simp] theorem State.setStage_g (s : State) (k : Nat) (x : Stage) (y : Fam) : (s.setStage k x).g y = s.g y := rfl
@[simp] theorem State.setStage_b (s : State) (k : Nat) (x : Stage) (y : Fam) : (s.setStage k x).b y = s.b y := rfl
@[simp] theorem State.setStage_b1 (s : State) (k : Nat) (x : Stage) (y : Fam) (q : Nat) : (s.setStage k x).b1 y q = s.b1 y q := rfl
@[simp] theorem State.setStage_gf (s : State) (k : Nat) (x : Stage) (y : Fld) : (s.setStage k x).gf y = s.gf y := rfl
@[simp] theorem State.setStage_byte (s : State) (k : Nat) (x : Stage) (q : Nat) : (s.setStage k x).byte q = s.byte q := rfl
@[simp] theorem State.setStage_ctx (s : State) (k : Nat) (x : Stage) (q : Nat) : (s.setStage k x).ctx q = s.ctx q := rfl
@[simp] theorem State.setStage_gr (s : State) (k : Nat) (x : Stage) (q t : Nat) : (s.setStage k x).gr q t = s.gr q t := rfl
@[simp] theorem State.setStage_pin (s : State) (k : Nat) (x : Stage) (q : Nat) : (s.setStage k x).pin q = s.pin q := rfl

/-! ### `State.setByte` -/

@[simp] theorem State.setByte_pending (s : State) (a : Nat) (x : BitVec 8) : (s.setByte a x).pending = s.pending := rfl
@[simp] theorem State.setByte_resp (s : State) (a : Nat) (x : BitVec 8) : (s.setByte a x).resp = s.resp := rfl
@[simp] theorem State.setByte_regs (s : State) (a : Nat) (x : BitVec 8) : (s.setByte a x).regs = s.regs := rfl
@[simp] theorem State.setByte_mem (s : State) (a : Nat) (x : BitVec 8) : (s.setByte a x).mem = Tab.put 0 s.mem a x := rfl
@[simp] theorem State.setByte_sramGood (s : State) (a : Nat) (x : BitVec 8) : (s.setByte a x).sramGood = s.sramGood := rfl
@[simp] theorem State.setByte_sramOne (s : State) (a : Nat) (x : BitVec 8) : (s.setByte a x).sramOne = s.sramOne := rfl
@[simp] theorem State.setByte_nvsBad (s : State) (a : Nat) (x : BitVec 8) : (s.setByte a x).nvsBad = s.nvsBad := rfl
@[simp] theorem State.setByte_stages (s : State) (a : Nat) (x : BitVec 8) : (s.setByte a x).stages = s.stages := rfl
@[simp] theorem State.setByte_free (s : State) (a : Nat) (x : BitVec 8) : (s.setByte a x).free = s.free := rfl
@[simp] theorem State.setByte_pow (s : State) (a : Nat) (x : BitVec 8) : (s.setByte a x).pow = s.pow := rfl
@[simp] theorem State.setByte_stm (s : State) (a : Nat) (x : BitVec 8) : (s.setByte a x).stm = s.stm := rfl
@[simp] theorem State.setByte_seq (s : State) (a : Nat) (x : BitVec 8) : (s.setByte a x).seq = s.seq := rfl
@[simp] theorem State.setByte_jnl (s : State) (a : Nat) (x : BitVec 8) : (s.setByte a x).jnl = s.jnl := rfl
@[simp] theorem State.setByte_link (s : State) (a : Nat) (x : BitVec 8) : (s.setByte a x).link = s.link := rfl
@[simp] theorem State.setByte_flt (s : State) (a : Nat) (x : BitVec 8) : (s.setByte a x).flt = s.flt := rfl
@[simp] theorem State.setByte_nvs (s : State) (a : Nat) (x : BitVec 8) : (s.setByte a x).nvs = s.nvs := rfl
@[simp] theorem State.setByte_pst (s : State) (a : Nat) (x : BitVec 8) : (s.setByte a x).pst = s.pst := rfl
@[simp] theorem State.setByte_ce (s : State) (a : Nat) (x : BitVec 8) : (s.setByte a x).ce = s.ce := rfl
@[simp] theorem State.setByte_adc (s : State) (a : Nat) (x : BitVec 8) : (s.setByte a x).adc = s.adc := rfl
@[simp] theorem State.setByte_fan (s : State) (a : Nat) (x : BitVec 8) : (s.setByte a x).fan = s.fan := rfl
@[simp] theorem State.setByte_hkr (s : State) (a : Nat) (x : BitVec 8) : (s.setByte a x).hkr = s.hkr := rfl
@[simp] theorem State.setByte_chg (s : State) (a : Nat) (x : BitVec 8) : (s.setByte a x).chg = s.chg := rfl
@[simp] theorem State.setByte_rtc (s : State) (a : Nat) (x : BitVec 8) : (s.setByte a x).rtc = s.rtc := rfl
@[simp] theorem State.setByte_dma (s : State) (a : Nat) (x : BitVec 8) : (s.setByte a x).dma = s.dma := rfl
@[simp] theorem State.setByte_twb (s : State) (a : Nat) (x : BitVec 8) : (s.setByte a x).twb = s.twb := rfl
@[simp] theorem State.setByte_sec (s : State) (a : Nat) (x : BitVec 8) : (s.setByte a x).sec = s.sec := rfl
@[simp] theorem State.setByte_g2 (s : State) (a : Nat) (x : BitVec 8) (y : Fam) (q t : Nat) : (s.setByte a x).g2 y q t = s.g2 y q t := rfl
@[simp] theorem State.setByte_g1 (s : State) (a : Nat) (x : BitVec 8) (y : Fam) (q : Nat) : (s.setByte a x).g1 y q = s.g1 y q := rfl
@[simp] theorem State.setByte_g (s : State) (a : Nat) (x : BitVec 8) (y : Fam) : (s.setByte a x).g y = s.g y := rfl
@[simp] theorem State.setByte_b (s : State) (a : Nat) (x : BitVec 8) (y : Fam) : (s.setByte a x).b y = s.b y := rfl
@[simp] theorem State.setByte_b1 (s : State) (a : Nat) (x : BitVec 8) (y : Fam) (q : Nat) : (s.setByte a x).b1 y q = s.b1 y q := rfl
@[simp] theorem State.setByte_gf (s : State) (a : Nat) (x : BitVec 8) (y : Fld) : (s.setByte a x).gf y = s.gf y := rfl
@[simp] theorem State.setByte_stage (s : State) (a : Nat) (x : BitVec 8) (q : Nat) : (s.setByte a x).stage q = s.stage q := rfl
@[simp] theorem State.setByte_ctx (s : State) (a : Nat) (x : BitVec 8) (q : Nat) : (s.setByte a x).ctx q = s.ctx q := rfl
@[simp] theorem State.setByte_gr (s : State) (a : Nat) (x : BitVec 8) (q t : Nat) : (s.setByte a x).gr q t = s.gr q t := rfl
@[simp] theorem State.setByte_pin (s : State) (a : Nat) (x : BitVec 8) (q : Nat) : (s.setByte a x).pin q = s.pin q := rfl

/-! ### `State.setCtx` -/

@[simp] theorem State.setCtx_pending (s : State) (c : Nat) (x : Ctx) : (s.setCtx c x).pending = s.pending := rfl
@[simp] theorem State.setCtx_resp (s : State) (c : Nat) (x : Ctx) : (s.setCtx c x).resp = s.resp := rfl
@[simp] theorem State.setCtx_regs (s : State) (c : Nat) (x : Ctx) : (s.setCtx c x).regs = s.regs := rfl
@[simp] theorem State.setCtx_mem (s : State) (c : Nat) (x : Ctx) : (s.setCtx c x).mem = s.mem := rfl
@[simp] theorem State.setCtx_sramGood (s : State) (c : Nat) (x : Ctx) : (s.setCtx c x).sramGood = s.sramGood := rfl
@[simp] theorem State.setCtx_sramOne (s : State) (c : Nat) (x : Ctx) : (s.setCtx c x).sramOne = s.sramOne := rfl
@[simp] theorem State.setCtx_nvsBad (s : State) (c : Nat) (x : Ctx) : (s.setCtx c x).nvsBad = s.nvsBad := rfl
@[simp] theorem State.setCtx_stages (s : State) (c : Nat) (x : Ctx) : (s.setCtx c x).stages = s.stages := rfl
@[simp] theorem State.setCtx_free (s : State) (c : Nat) (x : Ctx) : (s.setCtx c x).free = s.free := rfl
@[simp] theorem State.setCtx_pow (s : State) (c : Nat) (x : Ctx) : (s.setCtx c x).pow = s.pow := rfl
@[simp] theorem State.setCtx_stm (s : State) (c : Nat) (x : Ctx) : (s.setCtx c x).stm = s.stm := rfl
@[simp] theorem State.setCtx_seq (s : State) (c : Nat) (x : Ctx) : (s.setCtx c x).seq = { s.seq with ctxs := Tab.put {} s.seq.ctxs c x } := rfl
@[simp] theorem State.setCtx_jnl (s : State) (c : Nat) (x : Ctx) : (s.setCtx c x).jnl = s.jnl := rfl
@[simp] theorem State.setCtx_link (s : State) (c : Nat) (x : Ctx) : (s.setCtx c x).link = s.link := rfl
@[simp] theorem State.setCtx_flt (s : State) (c : Nat) (x : Ctx) : (s.setCtx c x).flt = s.flt := rfl
@[simp] theorem State.setCtx_nvs (s : State) (c : Nat) (x : Ctx) : (s.setCtx c x).nvs = s.nvs := rfl
@[simp] theorem State.setCtx_pst (s : State) (c : Nat) (x : Ctx) : (s.setCtx c x).pst = s.pst := rfl
@[simp] theorem State.setCtx_ce (s : State) (c : Nat) (x : Ctx) : (s.setCtx c x).ce = s.ce := rfl
@[simp] theorem State.setCtx_adc (s : State) (c : Nat) (x : Ctx) : (s.setCtx c x).adc = s.adc := rfl
@[simp] theorem State.setCtx_fan (s : State) (c : Nat) (x : Ctx) : (s.setCtx c x).fan = s.fan := rfl
@[simp] theorem State.setCtx_hkr (s : State) (c : Nat) (x : Ctx) : (s.setCtx c x).hkr = s.hkr := rfl
@[simp] theorem State.setCtx_chg (s : State) (c : Nat) (x : Ctx) : (s.setCtx c x).chg = s.chg := rfl
@[simp] theorem State.setCtx_rtc (s : State) (c : Nat) (x : Ctx) : (s.setCtx c x).rtc = s.rtc := rfl
@[simp] theorem State.setCtx_dma (s : State) (c : Nat) (x : Ctx) : (s.setCtx c x).dma = s.dma := rfl
@[simp] theorem State.setCtx_twb (s : State) (c : Nat) (x : Ctx) : (s.setCtx c x).twb = s.twb := rfl
@[simp] theorem State.setCtx_sec (s : State) (c : Nat) (x : Ctx) : (s.setCtx c x).sec = s.sec := rfl
@[simp] theorem State.setCtx_g2 (s : State) (c : Nat) (x : Ctx) (y : Fam) (q t : Nat) : (s.setCtx c x).g2 y q t = s.g2 y q t := rfl
@[simp] theorem State.setCtx_g1 (s : State) (c : Nat) (x : Ctx) (y : Fam) (q : Nat) : (s.setCtx c x).g1 y q = s.g1 y q := rfl
@[simp] theorem State.setCtx_g (s : State) (c : Nat) (x : Ctx) (y : Fam) : (s.setCtx c x).g y = s.g y := rfl
@[simp] theorem State.setCtx_b (s : State) (c : Nat) (x : Ctx) (y : Fam) : (s.setCtx c x).b y = s.b y := rfl
@[simp] theorem State.setCtx_b1 (s : State) (c : Nat) (x : Ctx) (y : Fam) (q : Nat) : (s.setCtx c x).b1 y q = s.b1 y q := rfl
@[simp] theorem State.setCtx_gf (s : State) (c : Nat) (x : Ctx) (y : Fld) : (s.setCtx c x).gf y = s.gf y := rfl
@[simp] theorem State.setCtx_byte (s : State) (c : Nat) (x : Ctx) (q : Nat) : (s.setCtx c x).byte q = s.byte q := rfl
@[simp] theorem State.setCtx_stage (s : State) (c : Nat) (x : Ctx) (q : Nat) : (s.setCtx c x).stage q = s.stage q := rfl
@[simp] theorem State.setCtx_pin (s : State) (c : Nat) (x : Ctx) (q : Nat) : (s.setCtx c x).pin q = s.pin q := rfl
@[simp] theorem State.setCtx_gr (s : State) (c : Nat) (x : Ctx) (q r : Nat) : (s.setCtx c x).gr q r = s.gr q r := rfl

/-! ### `State.setGr` -/

@[simp] theorem State.setGr_pending (s : State) (c r : Nat) (v : Word) : (s.setGr c r v).pending = s.pending := rfl
@[simp] theorem State.setGr_resp (s : State) (c r : Nat) (v : Word) : (s.setGr c r v).resp = s.resp := rfl
@[simp] theorem State.setGr_regs (s : State) (c r : Nat) (v : Word) : (s.setGr c r v).regs = s.regs := rfl
@[simp] theorem State.setGr_mem (s : State) (c r : Nat) (v : Word) : (s.setGr c r v).mem = s.mem := rfl
@[simp] theorem State.setGr_sramGood (s : State) (c r : Nat) (v : Word) : (s.setGr c r v).sramGood = s.sramGood := rfl
@[simp] theorem State.setGr_sramOne (s : State) (c r : Nat) (v : Word) : (s.setGr c r v).sramOne = s.sramOne := rfl
@[simp] theorem State.setGr_nvsBad (s : State) (c r : Nat) (v : Word) : (s.setGr c r v).nvsBad = s.nvsBad := rfl
@[simp] theorem State.setGr_stages (s : State) (c r : Nat) (v : Word) : (s.setGr c r v).stages = s.stages := rfl
@[simp] theorem State.setGr_free (s : State) (c r : Nat) (v : Word) : (s.setGr c r v).free = s.free := rfl
@[simp] theorem State.setGr_pow (s : State) (c r : Nat) (v : Word) : (s.setGr c r v).pow = s.pow := rfl
@[simp] theorem State.setGr_stm (s : State) (c r : Nat) (v : Word) : (s.setGr c r v).stm = s.stm := rfl
@[simp] theorem State.setGr_seq (s : State) (c r : Nat) (v : Word) : (s.setGr c r v).seq = { s.seq with gregs := Tab.put 0 s.seq.gregs (16 * c + r) v, badPar := NSet.del s.seq.badPar (16 * c + r) } := rfl
@[simp] theorem State.setGr_jnl (s : State) (c r : Nat) (v : Word) : (s.setGr c r v).jnl = s.jnl := rfl
@[simp] theorem State.setGr_link (s : State) (c r : Nat) (v : Word) : (s.setGr c r v).link = s.link := rfl
@[simp] theorem State.setGr_flt (s : State) (c r : Nat) (v : Word) : (s.setGr c r v).flt = s.flt := rfl
@[simp] theorem State.setGr_nvs (s : State) (c r : Nat) (v : Word) : (s.setGr c r v).nvs = s.nvs := rfl
@[simp] theorem State.setGr_pst (s : State) (c r : Nat) (v : Word) : (s.setGr c r v).pst = s.pst := rfl
@[simp] theorem State.setGr_ce (s : State) (c r : Nat) (v : Word) : (s.setGr c r v).ce = s.ce := rfl
@[simp] theorem State.setGr_adc (s : State) (c r : Nat) (v : Word) : (s.setGr c r v).adc = s.adc := rfl
@[simp] theorem State.setGr_fan (s : State) (c r : Nat) (v : Word) : (s.setGr c r v).fan = s.fan := rfl
@[simp] theorem State.setGr_hkr (s : State) (c r : Nat) (v : Word) : (s.setGr c r v).hkr = s.hkr := rfl
@[simp] theorem State.setGr_chg (s : State) (c r : Nat) (v : Word) : (s.setGr c r v).chg = s.chg := rfl
@[simp] theorem State.setGr_rtc (s : State) (c r : Nat) (v : Word) : (s.setGr c r v).rtc = s.rtc := rfl
@[simp] theorem State.setGr_dma (s : State) (c r : Nat) (v : Word) : (s.setGr c r v).dma = s.dma := rfl
@[simp] theorem State.setGr_twb (s : State) (c r : Nat) (v : Word) : (s.setGr c r v).twb = s.twb := rfl
@[simp] theorem State.setGr_sec (s : State) (c r : Nat) (v : Word) : (s.setGr c r v).sec = s.sec := rfl
@[simp] theorem State.setGr_g2 (s : State) (c r : Nat) (v : Word) (y : Fam) (q t : Nat) : (s.setGr c r v).g2 y q t = s.g2 y q t := rfl
@[simp] theorem State.setGr_g1 (s : State) (c r : Nat) (v : Word) (y : Fam) (q : Nat) : (s.setGr c r v).g1 y q = s.g1 y q := rfl
@[simp] theorem State.setGr_g (s : State) (c r : Nat) (v : Word) (y : Fam) : (s.setGr c r v).g y = s.g y := rfl
@[simp] theorem State.setGr_b (s : State) (c r : Nat) (v : Word) (y : Fam) : (s.setGr c r v).b y = s.b y := rfl
@[simp] theorem State.setGr_b1 (s : State) (c r : Nat) (v : Word) (y : Fam) (q : Nat) : (s.setGr c r v).b1 y q = s.b1 y q := rfl
@[simp] theorem State.setGr_gf (s : State) (c r : Nat) (v : Word) (y : Fld) : (s.setGr c r v).gf y = s.gf y := rfl
@[simp] theorem State.setGr_byte (s : State) (c r : Nat) (v : Word) (q : Nat) : (s.setGr c r v).byte q = s.byte q := rfl
@[simp] theorem State.setGr_stage (s : State) (c r : Nat) (v : Word) (q : Nat) : (s.setGr c r v).stage q = s.stage q := rfl
@[simp] theorem State.setGr_pin (s : State) (c r : Nat) (v : Word) (q : Nat) : (s.setGr c r v).pin q = s.pin q := rfl
@[simp] theorem State.setGr_ctx (s : State) (c r : Nat) (v : Word) (q : Nat) : (s.setGr c r v).ctx q = s.ctx q := rfl

/-! ### `State.modPin` -/

@[simp] theorem State.modPin_pending (s : State) (n : Nat) (h : PstIn → PstIn) : (s.modPin n h).pending = s.pending := rfl
@[simp] theorem State.modPin_resp (s : State) (n : Nat) (h : PstIn → PstIn) : (s.modPin n h).resp = s.resp := rfl
@[simp] theorem State.modPin_regs (s : State) (n : Nat) (h : PstIn → PstIn) : (s.modPin n h).regs = s.regs := rfl
@[simp] theorem State.modPin_mem (s : State) (n : Nat) (h : PstIn → PstIn) : (s.modPin n h).mem = s.mem := rfl
@[simp] theorem State.modPin_sramGood (s : State) (n : Nat) (h : PstIn → PstIn) : (s.modPin n h).sramGood = s.sramGood := rfl
@[simp] theorem State.modPin_sramOne (s : State) (n : Nat) (h : PstIn → PstIn) : (s.modPin n h).sramOne = s.sramOne := rfl
@[simp] theorem State.modPin_nvsBad (s : State) (n : Nat) (h : PstIn → PstIn) : (s.modPin n h).nvsBad = s.nvsBad := rfl
@[simp] theorem State.modPin_stages (s : State) (n : Nat) (h : PstIn → PstIn) : (s.modPin n h).stages = s.stages := rfl
@[simp] theorem State.modPin_free (s : State) (n : Nat) (h : PstIn → PstIn) : (s.modPin n h).free = s.free := rfl
@[simp] theorem State.modPin_pow (s : State) (n : Nat) (h : PstIn → PstIn) : (s.modPin n h).pow = s.pow := rfl
@[simp] theorem State.modPin_stm (s : State) (n : Nat) (h : PstIn → PstIn) : (s.modPin n h).stm = s.stm := rfl
@[simp] theorem State.modPin_seq (s : State) (n : Nat) (h : PstIn → PstIn) : (s.modPin n h).seq = s.seq := rfl
@[simp] theorem State.modPin_jnl (s : State) (n : Nat) (h : PstIn → PstIn) : (s.modPin n h).jnl = s.jnl := rfl
@[simp] theorem State.modPin_link (s : State) (n : Nat) (h : PstIn → PstIn) : (s.modPin n h).link = s.link := rfl
@[simp] theorem State.modPin_flt (s : State) (n : Nat) (h : PstIn → PstIn) : (s.modPin n h).flt = s.flt := rfl
@[simp] theorem State.modPin_nvs (s : State) (n : Nat) (h : PstIn → PstIn) : (s.modPin n h).nvs = s.nvs := rfl
@[simp] theorem State.modPin_pst (s : State) (n : Nat) (h : PstIn → PstIn) : (s.modPin n h).pst = Tab.put {} s.pst n (h (s.pin n)) := rfl
@[simp] theorem State.modPin_ce (s : State) (n : Nat) (h : PstIn → PstIn) : (s.modPin n h).ce = s.ce := rfl
@[simp] theorem State.modPin_adc (s : State) (n : Nat) (h : PstIn → PstIn) : (s.modPin n h).adc = s.adc := rfl
@[simp] theorem State.modPin_fan (s : State) (n : Nat) (h : PstIn → PstIn) : (s.modPin n h).fan = s.fan := rfl
@[simp] theorem State.modPin_hkr (s : State) (n : Nat) (h : PstIn → PstIn) : (s.modPin n h).hkr = s.hkr := rfl
@[simp] theorem State.modPin_chg (s : State) (n : Nat) (h : PstIn → PstIn) : (s.modPin n h).chg = s.chg := rfl
@[simp] theorem State.modPin_rtc (s : State) (n : Nat) (h : PstIn → PstIn) : (s.modPin n h).rtc = s.rtc := rfl
@[simp] theorem State.modPin_dma (s : State) (n : Nat) (h : PstIn → PstIn) : (s.modPin n h).dma = s.dma := rfl
@[simp] theorem State.modPin_twb (s : State) (n : Nat) (h : PstIn → PstIn) : (s.modPin n h).twb = s.twb := rfl
@[simp] theorem State.modPin_sec (s : State) (n : Nat) (h : PstIn → PstIn) : (s.modPin n h).sec = s.sec := rfl
@[simp] theorem State.modPin_g2 (s : State) (n : Nat) (h : PstIn → PstIn) (y : Fam) (q t : Nat) : (s.modPin n h).g2 y q t = s.g2 y q t := rfl
@[simp] theorem State.modPin_g1 (s : State) (n : Nat) (h : PstIn → PstIn) (y : Fam) (q : Nat) : (s.modPin n h).g1 y q = s.g1 y q := rfl
@[simp] theorem State.modPin_g (s : State) (n : Nat) (h : PstIn → PstIn) (y : Fam) : (s.modPin n h).g y = s.g y := rfl
@[simp] theorem State.modPin_b (s : State) (n : Nat) (h : PstIn → PstIn) (y : Fam) : (s.modPin n h).b y = s.b y := rfl
@[simp] theorem State.modPin_b1 (s : State) (n : Nat) (h : PstIn → PstIn) (y : Fam) (q : Nat) : (s.modPin n h).b1 y q = s.b1 y q := rfl
@[simp] theorem State.modPin_gf (s : State) (n : Nat) (h : PstIn → PstIn) (y : Fld) : (s.modPin n h).gf y = s.gf y := rfl
@[simp] theorem State.modPin_byte (s : State) (n : Nat) (h : PstIn → PstIn) (q : Nat) : (s.modPin n h).byte q = s.byte q := rfl
@[simp] theorem State.modPin_stage (s : State) (n : Nat) (h : PstIn → PstIn) (q : Nat) : (s.modPin n h).stage q = s.stage q := rfl
@[simp] theorem State.modPin_ctx (s : State) (n : Nat) (h : PstIn → PstIn) (q : Nat) : (s.modPin n h).ctx q = s.ctx q := rfl
@[simp] theorem State.modPin_gr (s : State) (n : Nat) (h : PstIn → PstIn) (q t : Nat) : (s.modPin n h).gr q t = s.gr q t := rfl

/-! ### `State.modChan` -/

@[simp] theorem State.modChan_pending (s : State) (n : Nat) (h : DmaChan → DmaChan) : (s.modChan n h).pending = s.pending := rfl
@[simp] theorem State.modChan_resp (s : State) (n : Nat) (h : DmaChan → DmaChan) : (s.modChan n h).resp = s.resp := rfl
@[simp] theorem State.modChan_regs (s : State) (n : Nat) (h : DmaChan → DmaChan) : (s.modChan n h).regs = s.regs := rfl
@[simp] theorem State.modChan_mem (s : State) (n : Nat) (h : DmaChan → DmaChan) : (s.modChan n h).mem = s.mem := rfl
@[simp] theorem State.modChan_sramGood (s : State) (n : Nat) (h : DmaChan → DmaChan) : (s.modChan n h).sramGood = s.sramGood := rfl
@[simp] theorem State.modChan_sramOne (s : State) (n : Nat) (h : DmaChan → DmaChan) : (s.modChan n h).sramOne = s.sramOne := rfl
@[simp] theorem State.modChan_nvsBad (s : State) (n : Nat) (h : DmaChan → DmaChan) : (s.modChan n h).nvsBad = s.nvsBad := rfl
@[simp] theorem State.modChan_stages (s : State) (n : Nat) (h : DmaChan → DmaChan) : (s.modChan n h).stages = s.stages := rfl
@[simp] theorem State.modChan_free (s : State) (n : Nat) (h : DmaChan → DmaChan) : (s.modChan n h).free = s.free := rfl
@[simp] theorem State.modChan_pow (s : State) (n : Nat) (h : DmaChan → DmaChan) : (s.modChan n h).pow = s.pow := rfl
@[simp] theorem State.modChan_stm (s : State) (n : Nat) (h : DmaChan → DmaChan) : (s.modChan n h).stm = s.stm := rfl
@[simp] theorem State.modChan_seq (s : State) (n : Nat) (h : DmaChan → DmaChan) : (s.modChan n h).seq = s.seq := rfl
@[simp] theorem State.modChan_jnl (s : State) (n : Nat) (h : DmaChan → DmaChan) : (s.modChan n h).jnl = s.jnl := rfl
@[simp] theorem State.modChan_link (s : State) (n : Nat) (h : DmaChan → DmaChan) : (s.modChan n h).link = s.link := rfl
@[simp] theorem State.modChan_flt (s : State) (n : Nat) (h : DmaChan → DmaChan) : (s.modChan n h).flt = s.flt := rfl
@[simp] theorem State.modChan_nvs (s : State) (n : Nat) (h : DmaChan → DmaChan) : (s.modChan n h).nvs = s.nvs := rfl
@[simp] theorem State.modChan_pst (s : State) (n : Nat) (h : DmaChan → DmaChan) : (s.modChan n h).pst = s.pst := rfl
@[simp] theorem State.modChan_ce (s : State) (n : Nat) (h : DmaChan → DmaChan) : (s.modChan n h).ce = s.ce := rfl
@[simp] theorem State.modChan_adc (s : State) (n : Nat) (h : DmaChan → DmaChan) : (s.modChan n h).adc = s.adc := rfl
@[simp] theorem State.modChan_fan (s : State) (n : Nat) (h : DmaChan → DmaChan) : (s.modChan n h).fan = s.fan := rfl
@[simp] theorem State.modChan_hkr (s : State) (n : Nat) (h : DmaChan → DmaChan) : (s.modChan n h).hkr = s.hkr := rfl
@[simp] theorem State.modChan_chg (s : State) (n : Nat) (h : DmaChan → DmaChan) : (s.modChan n h).chg = s.chg := rfl
@[simp] theorem State.modChan_rtc (s : State) (n : Nat) (h : DmaChan → DmaChan) : (s.modChan n h).rtc = s.rtc := rfl
@[simp] theorem State.modChan_dma (s : State) (n : Nat) (h : DmaChan → DmaChan) : (s.modChan n h).dma = { s.dma with chans := Tab.put {} s.dma.chans n (h (s.chan n)) } := rfl
@[simp] theorem State.modChan_twb (s : State) (n : Nat) (h : DmaChan → DmaChan) : (s.modChan n h).twb = s.twb := rfl
@[simp] theorem State.modChan_sec (s : State) (n : Nat) (h : DmaChan → DmaChan) : (s.modChan n h).sec = s.sec := rfl
@[simp] theorem State.modChan_g2 (s : State) (n : Nat) (h : DmaChan → DmaChan) (y : Fam) (q t : Nat) : (s.modChan n h).g2 y q t = s.g2 y q t := rfl
@[simp] theorem State.modChan_g1 (s : State) (n : Nat) (h : DmaChan → DmaChan) (y : Fam) (q : Nat) : (s.modChan n h).g1 y q = s.g1 y q := rfl
@[simp] theorem State.modChan_g (s : State) (n : Nat) (h : DmaChan → DmaChan) (y : Fam) : (s.modChan n h).g y = s.g y := rfl
@[simp] theorem State.modChan_b (s : State) (n : Nat) (h : DmaChan → DmaChan) (y : Fam) : (s.modChan n h).b y = s.b y := rfl
@[simp] theorem State.modChan_b1 (s : State) (n : Nat) (h : DmaChan → DmaChan) (y : Fam) (q : Nat) : (s.modChan n h).b1 y q = s.b1 y q := rfl
@[simp] theorem State.modChan_gf (s : State) (n : Nat) (h : DmaChan → DmaChan) (y : Fld) : (s.modChan n h).gf y = s.gf y := rfl
@[simp] theorem State.modChan_byte (s : State) (n : Nat) (h : DmaChan → DmaChan) (q : Nat) : (s.modChan n h).byte q = s.byte q := rfl
@[simp] theorem State.modChan_stage (s : State) (n : Nat) (h : DmaChan → DmaChan) (q : Nat) : (s.modChan n h).stage q = s.stage q := rfl
@[simp] theorem State.modChan_ctx (s : State) (n : Nat) (h : DmaChan → DmaChan) (q : Nat) : (s.modChan n h).ctx q = s.ctx q := rfl
@[simp] theorem State.modChan_gr (s : State) (n : Nat) (h : DmaChan → DmaChan) (q t : Nat) : (s.modChan n h).gr q t = s.gr q t := rfl
@[simp] theorem State.modChan_pin (s : State) (n : Nat) (h : DmaChan → DmaChan) (q : Nat) : (s.modChan n h).pin q = s.pin q := rfl

/-! ### `State.modRail` -/

@[simp] theorem State.modRail_pending (s : State) (n : Nat) (h : Rail → Rail) : (s.modRail n h).pending = s.pending := rfl
@[simp] theorem State.modRail_resp (s : State) (n : Nat) (h : Rail → Rail) : (s.modRail n h).resp = s.resp := rfl
@[simp] theorem State.modRail_regs (s : State) (n : Nat) (h : Rail → Rail) : (s.modRail n h).regs = s.regs := rfl
@[simp] theorem State.modRail_mem (s : State) (n : Nat) (h : Rail → Rail) : (s.modRail n h).mem = s.mem := rfl
@[simp] theorem State.modRail_sramGood (s : State) (n : Nat) (h : Rail → Rail) : (s.modRail n h).sramGood = s.sramGood := rfl
@[simp] theorem State.modRail_sramOne (s : State) (n : Nat) (h : Rail → Rail) : (s.modRail n h).sramOne = s.sramOne := rfl
@[simp] theorem State.modRail_nvsBad (s : State) (n : Nat) (h : Rail → Rail) : (s.modRail n h).nvsBad = s.nvsBad := rfl
@[simp] theorem State.modRail_stages (s : State) (n : Nat) (h : Rail → Rail) : (s.modRail n h).stages = s.stages := rfl
@[simp] theorem State.modRail_free (s : State) (n : Nat) (h : Rail → Rail) : (s.modRail n h).free = s.free := rfl
@[simp] theorem State.modRail_pow (s : State) (n : Nat) (h : Rail → Rail) : (s.modRail n h).pow = s.pow := rfl
@[simp] theorem State.modRail_stm (s : State) (n : Nat) (h : Rail → Rail) : (s.modRail n h).stm = s.stm := rfl
@[simp] theorem State.modRail_seq (s : State) (n : Nat) (h : Rail → Rail) : (s.modRail n h).seq = s.seq := rfl
@[simp] theorem State.modRail_jnl (s : State) (n : Nat) (h : Rail → Rail) : (s.modRail n h).jnl = s.jnl := rfl
@[simp] theorem State.modRail_link (s : State) (n : Nat) (h : Rail → Rail) : (s.modRail n h).link = s.link := rfl
@[simp] theorem State.modRail_flt (s : State) (n : Nat) (h : Rail → Rail) : (s.modRail n h).flt = s.flt := rfl
@[simp] theorem State.modRail_nvs (s : State) (n : Nat) (h : Rail → Rail) : (s.modRail n h).nvs = s.nvs := rfl
@[simp] theorem State.modRail_pst (s : State) (n : Nat) (h : Rail → Rail) : (s.modRail n h).pst = s.pst := rfl
@[simp] theorem State.modRail_ce (s : State) (n : Nat) (h : Rail → Rail) : (s.modRail n h).ce = s.ce := rfl
@[simp] theorem State.modRail_adc (s : State) (n : Nat) (h : Rail → Rail) : (s.modRail n h).adc = s.adc := rfl
@[simp] theorem State.modRail_fan (s : State) (n : Nat) (h : Rail → Rail) : (s.modRail n h).fan = s.fan := rfl
@[simp] theorem State.modRail_hkr (s : State) (n : Nat) (h : Rail → Rail) : (s.modRail n h).hkr = { s.hkr with rails := Tab.put {} s.hkr.rails n (h (s.rail n)) } := rfl
@[simp] theorem State.modRail_chg (s : State) (n : Nat) (h : Rail → Rail) : (s.modRail n h).chg = s.chg := rfl
@[simp] theorem State.modRail_rtc (s : State) (n : Nat) (h : Rail → Rail) : (s.modRail n h).rtc = s.rtc := rfl
@[simp] theorem State.modRail_dma (s : State) (n : Nat) (h : Rail → Rail) : (s.modRail n h).dma = s.dma := rfl
@[simp] theorem State.modRail_twb (s : State) (n : Nat) (h : Rail → Rail) : (s.modRail n h).twb = s.twb := rfl
@[simp] theorem State.modRail_sec (s : State) (n : Nat) (h : Rail → Rail) : (s.modRail n h).sec = s.sec := rfl
@[simp] theorem State.modRail_g2 (s : State) (n : Nat) (h : Rail → Rail) (y : Fam) (q t : Nat) : (s.modRail n h).g2 y q t = s.g2 y q t := rfl
@[simp] theorem State.modRail_g1 (s : State) (n : Nat) (h : Rail → Rail) (y : Fam) (q : Nat) : (s.modRail n h).g1 y q = s.g1 y q := rfl
@[simp] theorem State.modRail_g (s : State) (n : Nat) (h : Rail → Rail) (y : Fam) : (s.modRail n h).g y = s.g y := rfl
@[simp] theorem State.modRail_b (s : State) (n : Nat) (h : Rail → Rail) (y : Fam) : (s.modRail n h).b y = s.b y := rfl
@[simp] theorem State.modRail_b1 (s : State) (n : Nat) (h : Rail → Rail) (y : Fam) (q : Nat) : (s.modRail n h).b1 y q = s.b1 y q := rfl
@[simp] theorem State.modRail_gf (s : State) (n : Nat) (h : Rail → Rail) (y : Fld) : (s.modRail n h).gf y = s.gf y := rfl
@[simp] theorem State.modRail_byte (s : State) (n : Nat) (h : Rail → Rail) (q : Nat) : (s.modRail n h).byte q = s.byte q := rfl
@[simp] theorem State.modRail_stage (s : State) (n : Nat) (h : Rail → Rail) (q : Nat) : (s.modRail n h).stage q = s.stage q := rfl
@[simp] theorem State.modRail_ctx (s : State) (n : Nat) (h : Rail → Rail) (q : Nat) : (s.modRail n h).ctx q = s.ctx q := rfl
@[simp] theorem State.modRail_gr (s : State) (n : Nat) (h : Rail → Rail) (q t : Nat) : (s.modRail n h).gr q t = s.gr q t := rfl
@[simp] theorem State.modRail_pin (s : State) (n : Nat) (h : Rail → Rail) (q : Nat) : (s.modRail n h).pin q = s.pin q := rfl

/-! ### `State.modTrc` -/

@[simp] theorem State.modTrc_pending (s : State) (n : Nat) (h : TrcBuf → TrcBuf) : (s.modTrc n h).pending = s.pending := rfl
@[simp] theorem State.modTrc_resp (s : State) (n : Nat) (h : TrcBuf → TrcBuf) : (s.modTrc n h).resp = s.resp := rfl
@[simp] theorem State.modTrc_regs (s : State) (n : Nat) (h : TrcBuf → TrcBuf) : (s.modTrc n h).regs = s.regs := rfl
@[simp] theorem State.modTrc_mem (s : State) (n : Nat) (h : TrcBuf → TrcBuf) : (s.modTrc n h).mem = s.mem := rfl
@[simp] theorem State.modTrc_sramGood (s : State) (n : Nat) (h : TrcBuf → TrcBuf) : (s.modTrc n h).sramGood = s.sramGood := rfl
@[simp] theorem State.modTrc_sramOne (s : State) (n : Nat) (h : TrcBuf → TrcBuf) : (s.modTrc n h).sramOne = s.sramOne := rfl
@[simp] theorem State.modTrc_nvsBad (s : State) (n : Nat) (h : TrcBuf → TrcBuf) : (s.modTrc n h).nvsBad = s.nvsBad := rfl
@[simp] theorem State.modTrc_stages (s : State) (n : Nat) (h : TrcBuf → TrcBuf) : (s.modTrc n h).stages = s.stages := rfl
@[simp] theorem State.modTrc_free (s : State) (n : Nat) (h : TrcBuf → TrcBuf) : (s.modTrc n h).free = s.free := rfl
@[simp] theorem State.modTrc_pow (s : State) (n : Nat) (h : TrcBuf → TrcBuf) : (s.modTrc n h).pow = s.pow := rfl
@[simp] theorem State.modTrc_stm (s : State) (n : Nat) (h : TrcBuf → TrcBuf) : (s.modTrc n h).stm = s.stm := rfl
@[simp] theorem State.modTrc_seq (s : State) (n : Nat) (h : TrcBuf → TrcBuf) : (s.modTrc n h).seq = s.seq := rfl
@[simp] theorem State.modTrc_jnl (s : State) (n : Nat) (h : TrcBuf → TrcBuf) : (s.modTrc n h).jnl = s.jnl := rfl
@[simp] theorem State.modTrc_link (s : State) (n : Nat) (h : TrcBuf → TrcBuf) : (s.modTrc n h).link = s.link := rfl
@[simp] theorem State.modTrc_flt (s : State) (n : Nat) (h : TrcBuf → TrcBuf) : (s.modTrc n h).flt = s.flt := rfl
@[simp] theorem State.modTrc_nvs (s : State) (n : Nat) (h : TrcBuf → TrcBuf) : (s.modTrc n h).nvs = s.nvs := rfl
@[simp] theorem State.modTrc_pst (s : State) (n : Nat) (h : TrcBuf → TrcBuf) : (s.modTrc n h).pst = s.pst := rfl
@[simp] theorem State.modTrc_ce (s : State) (n : Nat) (h : TrcBuf → TrcBuf) : (s.modTrc n h).ce = { s.ce with trc := Tab.put {} s.ce.trc n (h (Tab.val {} s.ce.trc n)) } := rfl
@[simp] theorem State.modTrc_adc (s : State) (n : Nat) (h : TrcBuf → TrcBuf) : (s.modTrc n h).adc = s.adc := rfl
@[simp] theorem State.modTrc_fan (s : State) (n : Nat) (h : TrcBuf → TrcBuf) : (s.modTrc n h).fan = s.fan := rfl
@[simp] theorem State.modTrc_hkr (s : State) (n : Nat) (h : TrcBuf → TrcBuf) : (s.modTrc n h).hkr = s.hkr := rfl
@[simp] theorem State.modTrc_chg (s : State) (n : Nat) (h : TrcBuf → TrcBuf) : (s.modTrc n h).chg = s.chg := rfl
@[simp] theorem State.modTrc_rtc (s : State) (n : Nat) (h : TrcBuf → TrcBuf) : (s.modTrc n h).rtc = s.rtc := rfl
@[simp] theorem State.modTrc_dma (s : State) (n : Nat) (h : TrcBuf → TrcBuf) : (s.modTrc n h).dma = s.dma := rfl
@[simp] theorem State.modTrc_twb (s : State) (n : Nat) (h : TrcBuf → TrcBuf) : (s.modTrc n h).twb = s.twb := rfl
@[simp] theorem State.modTrc_sec (s : State) (n : Nat) (h : TrcBuf → TrcBuf) : (s.modTrc n h).sec = s.sec := rfl
@[simp] theorem State.modTrc_g2 (s : State) (n : Nat) (h : TrcBuf → TrcBuf) (y : Fam) (q t : Nat) : (s.modTrc n h).g2 y q t = s.g2 y q t := rfl
@[simp] theorem State.modTrc_g1 (s : State) (n : Nat) (h : TrcBuf → TrcBuf) (y : Fam) (q : Nat) : (s.modTrc n h).g1 y q = s.g1 y q := rfl
@[simp] theorem State.modTrc_g (s : State) (n : Nat) (h : TrcBuf → TrcBuf) (y : Fam) : (s.modTrc n h).g y = s.g y := rfl
@[simp] theorem State.modTrc_b (s : State) (n : Nat) (h : TrcBuf → TrcBuf) (y : Fam) : (s.modTrc n h).b y = s.b y := rfl
@[simp] theorem State.modTrc_b1 (s : State) (n : Nat) (h : TrcBuf → TrcBuf) (y : Fam) (q : Nat) : (s.modTrc n h).b1 y q = s.b1 y q := rfl
@[simp] theorem State.modTrc_gf (s : State) (n : Nat) (h : TrcBuf → TrcBuf) (y : Fld) : (s.modTrc n h).gf y = s.gf y := rfl
@[simp] theorem State.modTrc_byte (s : State) (n : Nat) (h : TrcBuf → TrcBuf) (q : Nat) : (s.modTrc n h).byte q = s.byte q := rfl
@[simp] theorem State.modTrc_stage (s : State) (n : Nat) (h : TrcBuf → TrcBuf) (q : Nat) : (s.modTrc n h).stage q = s.stage q := rfl
@[simp] theorem State.modTrc_ctx (s : State) (n : Nat) (h : TrcBuf → TrcBuf) (q : Nat) : (s.modTrc n h).ctx q = s.ctx q := rfl
@[simp] theorem State.modTrc_gr (s : State) (n : Nat) (h : TrcBuf → TrcBuf) (q t : Nat) : (s.modTrc n h).gr q t = s.gr q t := rfl
@[simp] theorem State.modTrc_pin (s : State) (n : Nat) (h : TrcBuf → TrcBuf) (q : Nat) : (s.modTrc n h).pin q = s.pin q := rfl

/-! ### `State.modAdc` -/

@[simp] theorem State.modAdc_pending (s : State) (h : Adc → Adc) : (s.modAdc h).pending = s.pending := rfl
@[simp] theorem State.modAdc_resp (s : State) (h : Adc → Adc) : (s.modAdc h).resp = s.resp := rfl
@[simp] theorem State.modAdc_regs (s : State) (h : Adc → Adc) : (s.modAdc h).regs = s.regs := rfl
@[simp] theorem State.modAdc_mem (s : State) (h : Adc → Adc) : (s.modAdc h).mem = s.mem := rfl
@[simp] theorem State.modAdc_sramGood (s : State) (h : Adc → Adc) : (s.modAdc h).sramGood = s.sramGood := rfl
@[simp] theorem State.modAdc_sramOne (s : State) (h : Adc → Adc) : (s.modAdc h).sramOne = s.sramOne := rfl
@[simp] theorem State.modAdc_nvsBad (s : State) (h : Adc → Adc) : (s.modAdc h).nvsBad = s.nvsBad := rfl
@[simp] theorem State.modAdc_stages (s : State) (h : Adc → Adc) : (s.modAdc h).stages = s.stages := rfl
@[simp] theorem State.modAdc_free (s : State) (h : Adc → Adc) : (s.modAdc h).free = s.free := rfl
@[simp] theorem State.modAdc_pow (s : State) (h : Adc → Adc) : (s.modAdc h).pow = s.pow := rfl
@[simp] theorem State.modAdc_stm (s : State) (h : Adc → Adc) : (s.modAdc h).stm = s.stm := rfl
@[simp] theorem State.modAdc_seq (s : State) (h : Adc → Adc) : (s.modAdc h).seq = s.seq := rfl
@[simp] theorem State.modAdc_jnl (s : State) (h : Adc → Adc) : (s.modAdc h).jnl = s.jnl := rfl
@[simp] theorem State.modAdc_link (s : State) (h : Adc → Adc) : (s.modAdc h).link = s.link := rfl
@[simp] theorem State.modAdc_flt (s : State) (h : Adc → Adc) : (s.modAdc h).flt = s.flt := rfl
@[simp] theorem State.modAdc_nvs (s : State) (h : Adc → Adc) : (s.modAdc h).nvs = s.nvs := rfl
@[simp] theorem State.modAdc_pst (s : State) (h : Adc → Adc) : (s.modAdc h).pst = s.pst := rfl
@[simp] theorem State.modAdc_ce (s : State) (h : Adc → Adc) : (s.modAdc h).ce = s.ce := rfl
@[simp] theorem State.modAdc_adc (s : State) (h : Adc → Adc) : (s.modAdc h).adc = h s.adc := rfl
@[simp] theorem State.modAdc_fan (s : State) (h : Adc → Adc) : (s.modAdc h).fan = s.fan := rfl
@[simp] theorem State.modAdc_hkr (s : State) (h : Adc → Adc) : (s.modAdc h).hkr = s.hkr := rfl
@[simp] theorem State.modAdc_chg (s : State) (h : Adc → Adc) : (s.modAdc h).chg = s.chg := rfl
@[simp] theorem State.modAdc_rtc (s : State) (h : Adc → Adc) : (s.modAdc h).rtc = s.rtc := rfl
@[simp] theorem State.modAdc_dma (s : State) (h : Adc → Adc) : (s.modAdc h).dma = s.dma := rfl
@[simp] theorem State.modAdc_twb (s : State) (h : Adc → Adc) : (s.modAdc h).twb = s.twb := rfl
@[simp] theorem State.modAdc_sec (s : State) (h : Adc → Adc) : (s.modAdc h).sec = s.sec := rfl
@[simp] theorem State.modAdc_g2 (s : State) (h : Adc → Adc) (y : Fam) (q t : Nat) : (s.modAdc h).g2 y q t = s.g2 y q t := rfl
@[simp] theorem State.modAdc_g1 (s : State) (h : Adc → Adc) (y : Fam) (q : Nat) : (s.modAdc h).g1 y q = s.g1 y q := rfl
@[simp] theorem State.modAdc_g (s : State) (h : Adc → Adc) (y : Fam) : (s.modAdc h).g y = s.g y := rfl
@[simp] theorem State.modAdc_b (s : State) (h : Adc → Adc) (y : Fam) : (s.modAdc h).b y = s.b y := rfl
@[simp] theorem State.modAdc_b1 (s : State) (h : Adc → Adc) (y : Fam) (q : Nat) : (s.modAdc h).b1 y q = s.b1 y q := rfl
@[simp] theorem State.modAdc_gf (s : State) (h : Adc → Adc) (y : Fld) : (s.modAdc h).gf y = s.gf y := rfl
@[simp] theorem State.modAdc_byte (s : State) (h : Adc → Adc) (q : Nat) : (s.modAdc h).byte q = s.byte q := rfl
@[simp] theorem State.modAdc_stage (s : State) (h : Adc → Adc) (q : Nat) : (s.modAdc h).stage q = s.stage q := rfl
@[simp] theorem State.modAdc_ctx (s : State) (h : Adc → Adc) (q : Nat) : (s.modAdc h).ctx q = s.ctx q := rfl
@[simp] theorem State.modAdc_gr (s : State) (h : Adc → Adc) (q t : Nat) : (s.modAdc h).gr q t = s.gr q t := rfl
@[simp] theorem State.modAdc_pin (s : State) (h : Adc → Adc) (q : Nat) : (s.modAdc h).pin q = s.pin q := rfl

/-! ### `State.modCe` -/

@[simp] theorem State.modCe_pending (s : State) (h : Ce → Ce) : (s.modCe h).pending = s.pending := rfl
@[simp] theorem State.modCe_resp (s : State) (h : Ce → Ce) : (s.modCe h).resp = s.resp := rfl
@[simp] theorem State.modCe_regs (s : State) (h : Ce → Ce) : (s.modCe h).regs = s.regs := rfl
@[simp] theorem State.modCe_mem (s : State) (h : Ce → Ce) : (s.modCe h).mem = s.mem := rfl
@[simp] theorem State.modCe_sramGood (s : State) (h : Ce → Ce) : (s.modCe h).sramGood = s.sramGood := rfl
@[simp] theorem State.modCe_sramOne (s : State) (h : Ce → Ce) : (s.modCe h).sramOne = s.sramOne := rfl
@[simp] theorem State.modCe_nvsBad (s : State) (h : Ce → Ce) : (s.modCe h).nvsBad = s.nvsBad := rfl
@[simp] theorem State.modCe_stages (s : State) (h : Ce → Ce) : (s.modCe h).stages = s.stages := rfl
@[simp] theorem State.modCe_free (s : State) (h : Ce → Ce) : (s.modCe h).free = s.free := rfl
@[simp] theorem State.modCe_pow (s : State) (h : Ce → Ce) : (s.modCe h).pow = s.pow := rfl
@[simp] theorem State.modCe_stm (s : State) (h : Ce → Ce) : (s.modCe h).stm = s.stm := rfl
@[simp] theorem State.modCe_seq (s : State) (h : Ce → Ce) : (s.modCe h).seq = s.seq := rfl
@[simp] theorem State.modCe_jnl (s : State) (h : Ce → Ce) : (s.modCe h).jnl = s.jnl := rfl
@[simp] theorem State.modCe_link (s : State) (h : Ce → Ce) : (s.modCe h).link = s.link := rfl
@[simp] theorem State.modCe_flt (s : State) (h : Ce → Ce) : (s.modCe h).flt = s.flt := rfl
@[simp] theorem State.modCe_nvs (s : State) (h : Ce → Ce) : (s.modCe h).nvs = s.nvs := rfl
@[simp] theorem State.modCe_pst (s : State) (h : Ce → Ce) : (s.modCe h).pst = s.pst := rfl
@[simp] theorem State.modCe_ce (s : State) (h : Ce → Ce) : (s.modCe h).ce = h s.ce := rfl
@[simp] theorem State.modCe_adc (s : State) (h : Ce → Ce) : (s.modCe h).adc = s.adc := rfl
@[simp] theorem State.modCe_fan (s : State) (h : Ce → Ce) : (s.modCe h).fan = s.fan := rfl
@[simp] theorem State.modCe_hkr (s : State) (h : Ce → Ce) : (s.modCe h).hkr = s.hkr := rfl
@[simp] theorem State.modCe_chg (s : State) (h : Ce → Ce) : (s.modCe h).chg = s.chg := rfl
@[simp] theorem State.modCe_rtc (s : State) (h : Ce → Ce) : (s.modCe h).rtc = s.rtc := rfl
@[simp] theorem State.modCe_dma (s : State) (h : Ce → Ce) : (s.modCe h).dma = s.dma := rfl
@[simp] theorem State.modCe_twb (s : State) (h : Ce → Ce) : (s.modCe h).twb = s.twb := rfl
@[simp] theorem State.modCe_sec (s : State) (h : Ce → Ce) : (s.modCe h).sec = s.sec := rfl
@[simp] theorem State.modCe_g2 (s : State) (h : Ce → Ce) (y : Fam) (q t : Nat) : (s.modCe h).g2 y q t = s.g2 y q t := rfl
@[simp] theorem State.modCe_g1 (s : State) (h : Ce → Ce) (y : Fam) (q : Nat) : (s.modCe h).g1 y q = s.g1 y q := rfl
@[simp] theorem State.modCe_g (s : State) (h : Ce → Ce) (y : Fam) : (s.modCe h).g y = s.g y := rfl
@[simp] theorem State.modCe_b (s : State) (h : Ce → Ce) (y : Fam) : (s.modCe h).b y = s.b y := rfl
@[simp] theorem State.modCe_b1 (s : State) (h : Ce → Ce) (y : Fam) (q : Nat) : (s.modCe h).b1 y q = s.b1 y q := rfl
@[simp] theorem State.modCe_gf (s : State) (h : Ce → Ce) (y : Fld) : (s.modCe h).gf y = s.gf y := rfl
@[simp] theorem State.modCe_byte (s : State) (h : Ce → Ce) (q : Nat) : (s.modCe h).byte q = s.byte q := rfl
@[simp] theorem State.modCe_stage (s : State) (h : Ce → Ce) (q : Nat) : (s.modCe h).stage q = s.stage q := rfl
@[simp] theorem State.modCe_ctx (s : State) (h : Ce → Ce) (q : Nat) : (s.modCe h).ctx q = s.ctx q := rfl
@[simp] theorem State.modCe_gr (s : State) (h : Ce → Ce) (q t : Nat) : (s.modCe h).gr q t = s.gr q t := rfl
@[simp] theorem State.modCe_pin (s : State) (h : Ce → Ce) (q : Nat) : (s.modCe h).pin q = s.pin q := rfl

/-! ### `State.modChg` -/

@[simp] theorem State.modChg_pending (s : State) (h : Chg → Chg) : (s.modChg h).pending = s.pending := rfl
@[simp] theorem State.modChg_resp (s : State) (h : Chg → Chg) : (s.modChg h).resp = s.resp := rfl
@[simp] theorem State.modChg_regs (s : State) (h : Chg → Chg) : (s.modChg h).regs = s.regs := rfl
@[simp] theorem State.modChg_mem (s : State) (h : Chg → Chg) : (s.modChg h).mem = s.mem := rfl
@[simp] theorem State.modChg_sramGood (s : State) (h : Chg → Chg) : (s.modChg h).sramGood = s.sramGood := rfl
@[simp] theorem State.modChg_sramOne (s : State) (h : Chg → Chg) : (s.modChg h).sramOne = s.sramOne := rfl
@[simp] theorem State.modChg_nvsBad (s : State) (h : Chg → Chg) : (s.modChg h).nvsBad = s.nvsBad := rfl
@[simp] theorem State.modChg_stages (s : State) (h : Chg → Chg) : (s.modChg h).stages = s.stages := rfl
@[simp] theorem State.modChg_free (s : State) (h : Chg → Chg) : (s.modChg h).free = s.free := rfl
@[simp] theorem State.modChg_pow (s : State) (h : Chg → Chg) : (s.modChg h).pow = s.pow := rfl
@[simp] theorem State.modChg_stm (s : State) (h : Chg → Chg) : (s.modChg h).stm = s.stm := rfl
@[simp] theorem State.modChg_seq (s : State) (h : Chg → Chg) : (s.modChg h).seq = s.seq := rfl
@[simp] theorem State.modChg_jnl (s : State) (h : Chg → Chg) : (s.modChg h).jnl = s.jnl := rfl
@[simp] theorem State.modChg_link (s : State) (h : Chg → Chg) : (s.modChg h).link = s.link := rfl
@[simp] theorem State.modChg_flt (s : State) (h : Chg → Chg) : (s.modChg h).flt = s.flt := rfl
@[simp] theorem State.modChg_nvs (s : State) (h : Chg → Chg) : (s.modChg h).nvs = s.nvs := rfl
@[simp] theorem State.modChg_pst (s : State) (h : Chg → Chg) : (s.modChg h).pst = s.pst := rfl
@[simp] theorem State.modChg_ce (s : State) (h : Chg → Chg) : (s.modChg h).ce = s.ce := rfl
@[simp] theorem State.modChg_adc (s : State) (h : Chg → Chg) : (s.modChg h).adc = s.adc := rfl
@[simp] theorem State.modChg_fan (s : State) (h : Chg → Chg) : (s.modChg h).fan = s.fan := rfl
@[simp] theorem State.modChg_hkr (s : State) (h : Chg → Chg) : (s.modChg h).hkr = s.hkr := rfl
@[simp] theorem State.modChg_chg (s : State) (h : Chg → Chg) : (s.modChg h).chg = h s.chg := rfl
@[simp] theorem State.modChg_rtc (s : State) (h : Chg → Chg) : (s.modChg h).rtc = s.rtc := rfl
@[simp] theorem State.modChg_dma (s : State) (h : Chg → Chg) : (s.modChg h).dma = s.dma := rfl
@[simp] theorem State.modChg_twb (s : State) (h : Chg → Chg) : (s.modChg h).twb = s.twb := rfl
@[simp] theorem State.modChg_sec (s : State) (h : Chg → Chg) : (s.modChg h).sec = s.sec := rfl
@[simp] theorem State.modChg_g2 (s : State) (h : Chg → Chg) (y : Fam) (q t : Nat) : (s.modChg h).g2 y q t = s.g2 y q t := rfl
@[simp] theorem State.modChg_g1 (s : State) (h : Chg → Chg) (y : Fam) (q : Nat) : (s.modChg h).g1 y q = s.g1 y q := rfl
@[simp] theorem State.modChg_g (s : State) (h : Chg → Chg) (y : Fam) : (s.modChg h).g y = s.g y := rfl
@[simp] theorem State.modChg_b (s : State) (h : Chg → Chg) (y : Fam) : (s.modChg h).b y = s.b y := rfl
@[simp] theorem State.modChg_b1 (s : State) (h : Chg → Chg) (y : Fam) (q : Nat) : (s.modChg h).b1 y q = s.b1 y q := rfl
@[simp] theorem State.modChg_gf (s : State) (h : Chg → Chg) (y : Fld) : (s.modChg h).gf y = s.gf y := rfl
@[simp] theorem State.modChg_byte (s : State) (h : Chg → Chg) (q : Nat) : (s.modChg h).byte q = s.byte q := rfl
@[simp] theorem State.modChg_stage (s : State) (h : Chg → Chg) (q : Nat) : (s.modChg h).stage q = s.stage q := rfl
@[simp] theorem State.modChg_ctx (s : State) (h : Chg → Chg) (q : Nat) : (s.modChg h).ctx q = s.ctx q := rfl
@[simp] theorem State.modChg_gr (s : State) (h : Chg → Chg) (q t : Nat) : (s.modChg h).gr q t = s.gr q t := rfl
@[simp] theorem State.modChg_pin (s : State) (h : Chg → Chg) (q : Nat) : (s.modChg h).pin q = s.pin q := rfl

/-! ### `State.modFan` -/

@[simp] theorem State.modFan_pending (s : State) (h : Fan → Fan) : (s.modFan h).pending = s.pending := rfl
@[simp] theorem State.modFan_resp (s : State) (h : Fan → Fan) : (s.modFan h).resp = s.resp := rfl
@[simp] theorem State.modFan_regs (s : State) (h : Fan → Fan) : (s.modFan h).regs = s.regs := rfl
@[simp] theorem State.modFan_mem (s : State) (h : Fan → Fan) : (s.modFan h).mem = s.mem := rfl
@[simp] theorem State.modFan_sramGood (s : State) (h : Fan → Fan) : (s.modFan h).sramGood = s.sramGood := rfl
@[simp] theorem State.modFan_sramOne (s : State) (h : Fan → Fan) : (s.modFan h).sramOne = s.sramOne := rfl
@[simp] theorem State.modFan_nvsBad (s : State) (h : Fan → Fan) : (s.modFan h).nvsBad = s.nvsBad := rfl
@[simp] theorem State.modFan_stages (s : State) (h : Fan → Fan) : (s.modFan h).stages = s.stages := rfl
@[simp] theorem State.modFan_free (s : State) (h : Fan → Fan) : (s.modFan h).free = s.free := rfl
@[simp] theorem State.modFan_pow (s : State) (h : Fan → Fan) : (s.modFan h).pow = s.pow := rfl
@[simp] theorem State.modFan_stm (s : State) (h : Fan → Fan) : (s.modFan h).stm = s.stm := rfl
@[simp] theorem State.modFan_seq (s : State) (h : Fan → Fan) : (s.modFan h).seq = s.seq := rfl
@[simp] theorem State.modFan_jnl (s : State) (h : Fan → Fan) : (s.modFan h).jnl = s.jnl := rfl
@[simp] theorem State.modFan_link (s : State) (h : Fan → Fan) : (s.modFan h).link = s.link := rfl
@[simp] theorem State.modFan_flt (s : State) (h : Fan → Fan) : (s.modFan h).flt = s.flt := rfl
@[simp] theorem State.modFan_nvs (s : State) (h : Fan → Fan) : (s.modFan h).nvs = s.nvs := rfl
@[simp] theorem State.modFan_pst (s : State) (h : Fan → Fan) : (s.modFan h).pst = s.pst := rfl
@[simp] theorem State.modFan_ce (s : State) (h : Fan → Fan) : (s.modFan h).ce = s.ce := rfl
@[simp] theorem State.modFan_adc (s : State) (h : Fan → Fan) : (s.modFan h).adc = s.adc := rfl
@[simp] theorem State.modFan_fan (s : State) (h : Fan → Fan) : (s.modFan h).fan = h s.fan := rfl
@[simp] theorem State.modFan_hkr (s : State) (h : Fan → Fan) : (s.modFan h).hkr = s.hkr := rfl
@[simp] theorem State.modFan_chg (s : State) (h : Fan → Fan) : (s.modFan h).chg = s.chg := rfl
@[simp] theorem State.modFan_rtc (s : State) (h : Fan → Fan) : (s.modFan h).rtc = s.rtc := rfl
@[simp] theorem State.modFan_dma (s : State) (h : Fan → Fan) : (s.modFan h).dma = s.dma := rfl
@[simp] theorem State.modFan_twb (s : State) (h : Fan → Fan) : (s.modFan h).twb = s.twb := rfl
@[simp] theorem State.modFan_sec (s : State) (h : Fan → Fan) : (s.modFan h).sec = s.sec := rfl
@[simp] theorem State.modFan_g2 (s : State) (h : Fan → Fan) (y : Fam) (q t : Nat) : (s.modFan h).g2 y q t = s.g2 y q t := rfl
@[simp] theorem State.modFan_g1 (s : State) (h : Fan → Fan) (y : Fam) (q : Nat) : (s.modFan h).g1 y q = s.g1 y q := rfl
@[simp] theorem State.modFan_g (s : State) (h : Fan → Fan) (y : Fam) : (s.modFan h).g y = s.g y := rfl
@[simp] theorem State.modFan_b (s : State) (h : Fan → Fan) (y : Fam) : (s.modFan h).b y = s.b y := rfl
@[simp] theorem State.modFan_b1 (s : State) (h : Fan → Fan) (y : Fam) (q : Nat) : (s.modFan h).b1 y q = s.b1 y q := rfl
@[simp] theorem State.modFan_gf (s : State) (h : Fan → Fan) (y : Fld) : (s.modFan h).gf y = s.gf y := rfl
@[simp] theorem State.modFan_byte (s : State) (h : Fan → Fan) (q : Nat) : (s.modFan h).byte q = s.byte q := rfl
@[simp] theorem State.modFan_stage (s : State) (h : Fan → Fan) (q : Nat) : (s.modFan h).stage q = s.stage q := rfl
@[simp] theorem State.modFan_ctx (s : State) (h : Fan → Fan) (q : Nat) : (s.modFan h).ctx q = s.ctx q := rfl
@[simp] theorem State.modFan_gr (s : State) (h : Fan → Fan) (q t : Nat) : (s.modFan h).gr q t = s.gr q t := rfl
@[simp] theorem State.modFan_pin (s : State) (h : Fan → Fan) (q : Nat) : (s.modFan h).pin q = s.pin q := rfl

/-! ### `State.modHkr` -/

@[simp] theorem State.modHkr_pending (s : State) (h : Hkr → Hkr) : (s.modHkr h).pending = s.pending := rfl
@[simp] theorem State.modHkr_resp (s : State) (h : Hkr → Hkr) : (s.modHkr h).resp = s.resp := rfl
@[simp] theorem State.modHkr_regs (s : State) (h : Hkr → Hkr) : (s.modHkr h).regs = s.regs := rfl
@[simp] theorem State.modHkr_mem (s : State) (h : Hkr → Hkr) : (s.modHkr h).mem = s.mem := rfl
@[simp] theorem State.modHkr_sramGood (s : State) (h : Hkr → Hkr) : (s.modHkr h).sramGood = s.sramGood := rfl
@[simp] theorem State.modHkr_sramOne (s : State) (h : Hkr → Hkr) : (s.modHkr h).sramOne = s.sramOne := rfl
@[simp] theorem State.modHkr_nvsBad (s : State) (h : Hkr → Hkr) : (s.modHkr h).nvsBad = s.nvsBad := rfl
@[simp] theorem State.modHkr_stages (s : State) (h : Hkr → Hkr) : (s.modHkr h).stages = s.stages := rfl
@[simp] theorem State.modHkr_free (s : State) (h : Hkr → Hkr) : (s.modHkr h).free = s.free := rfl
@[simp] theorem State.modHkr_pow (s : State) (h : Hkr → Hkr) : (s.modHkr h).pow = s.pow := rfl
@[simp] theorem State.modHkr_stm (s : State) (h : Hkr → Hkr) : (s.modHkr h).stm = s.stm := rfl
@[simp] theorem State.modHkr_seq (s : State) (h : Hkr → Hkr) : (s.modHkr h).seq = s.seq := rfl
@[simp] theorem State.modHkr_jnl (s : State) (h : Hkr → Hkr) : (s.modHkr h).jnl = s.jnl := rfl
@[simp] theorem State.modHkr_link (s : State) (h : Hkr → Hkr) : (s.modHkr h).link = s.link := rfl
@[simp] theorem State.modHkr_flt (s : State) (h : Hkr → Hkr) : (s.modHkr h).flt = s.flt := rfl
@[simp] theorem State.modHkr_nvs (s : State) (h : Hkr → Hkr) : (s.modHkr h).nvs = s.nvs := rfl
@[simp] theorem State.modHkr_pst (s : State) (h : Hkr → Hkr) : (s.modHkr h).pst = s.pst := rfl
@[simp] theorem State.modHkr_ce (s : State) (h : Hkr → Hkr) : (s.modHkr h).ce = s.ce := rfl
@[simp] theorem State.modHkr_adc (s : State) (h : Hkr → Hkr) : (s.modHkr h).adc = s.adc := rfl
@[simp] theorem State.modHkr_fan (s : State) (h : Hkr → Hkr) : (s.modHkr h).fan = s.fan := rfl
@[simp] theorem State.modHkr_hkr (s : State) (h : Hkr → Hkr) : (s.modHkr h).hkr = h s.hkr := rfl
@[simp] theorem State.modHkr_chg (s : State) (h : Hkr → Hkr) : (s.modHkr h).chg = s.chg := rfl
@[simp] theorem State.modHkr_rtc (s : State) (h : Hkr → Hkr) : (s.modHkr h).rtc = s.rtc := rfl
@[simp] theorem State.modHkr_dma (s : State) (h : Hkr → Hkr) : (s.modHkr h).dma = s.dma := rfl
@[simp] theorem State.modHkr_twb (s : State) (h : Hkr → Hkr) : (s.modHkr h).twb = s.twb := rfl
@[simp] theorem State.modHkr_sec (s : State) (h : Hkr → Hkr) : (s.modHkr h).sec = s.sec := rfl
@[simp] theorem State.modHkr_g2 (s : State) (h : Hkr → Hkr) (y : Fam) (q t : Nat) : (s.modHkr h).g2 y q t = s.g2 y q t := rfl
@[simp] theorem State.modHkr_g1 (s : State) (h : Hkr → Hkr) (y : Fam) (q : Nat) : (s.modHkr h).g1 y q = s.g1 y q := rfl
@[simp] theorem State.modHkr_g (s : State) (h : Hkr → Hkr) (y : Fam) : (s.modHkr h).g y = s.g y := rfl
@[simp] theorem State.modHkr_b (s : State) (h : Hkr → Hkr) (y : Fam) : (s.modHkr h).b y = s.b y := rfl
@[simp] theorem State.modHkr_b1 (s : State) (h : Hkr → Hkr) (y : Fam) (q : Nat) : (s.modHkr h).b1 y q = s.b1 y q := rfl
@[simp] theorem State.modHkr_gf (s : State) (h : Hkr → Hkr) (y : Fld) : (s.modHkr h).gf y = s.gf y := rfl
@[simp] theorem State.modHkr_byte (s : State) (h : Hkr → Hkr) (q : Nat) : (s.modHkr h).byte q = s.byte q := rfl
@[simp] theorem State.modHkr_stage (s : State) (h : Hkr → Hkr) (q : Nat) : (s.modHkr h).stage q = s.stage q := rfl
@[simp] theorem State.modHkr_ctx (s : State) (h : Hkr → Hkr) (q : Nat) : (s.modHkr h).ctx q = s.ctx q := rfl
@[simp] theorem State.modHkr_gr (s : State) (h : Hkr → Hkr) (q t : Nat) : (s.modHkr h).gr q t = s.gr q t := rfl
@[simp] theorem State.modHkr_pin (s : State) (h : Hkr → Hkr) (q : Nat) : (s.modHkr h).pin q = s.pin q := rfl

/-! ### `State.modJnl` -/

@[simp] theorem State.modJnl_pending (s : State) (h : Jnl → Jnl) : (s.modJnl h).pending = s.pending := rfl
@[simp] theorem State.modJnl_resp (s : State) (h : Jnl → Jnl) : (s.modJnl h).resp = s.resp := rfl
@[simp] theorem State.modJnl_regs (s : State) (h : Jnl → Jnl) : (s.modJnl h).regs = s.regs := rfl
@[simp] theorem State.modJnl_mem (s : State) (h : Jnl → Jnl) : (s.modJnl h).mem = s.mem := rfl
@[simp] theorem State.modJnl_sramGood (s : State) (h : Jnl → Jnl) : (s.modJnl h).sramGood = s.sramGood := rfl
@[simp] theorem State.modJnl_sramOne (s : State) (h : Jnl → Jnl) : (s.modJnl h).sramOne = s.sramOne := rfl
@[simp] theorem State.modJnl_nvsBad (s : State) (h : Jnl → Jnl) : (s.modJnl h).nvsBad = s.nvsBad := rfl
@[simp] theorem State.modJnl_stages (s : State) (h : Jnl → Jnl) : (s.modJnl h).stages = s.stages := rfl
@[simp] theorem State.modJnl_free (s : State) (h : Jnl → Jnl) : (s.modJnl h).free = s.free := rfl
@[simp] theorem State.modJnl_pow (s : State) (h : Jnl → Jnl) : (s.modJnl h).pow = s.pow := rfl
@[simp] theorem State.modJnl_stm (s : State) (h : Jnl → Jnl) : (s.modJnl h).stm = s.stm := rfl
@[simp] theorem State.modJnl_seq (s : State) (h : Jnl → Jnl) : (s.modJnl h).seq = s.seq := rfl
@[simp] theorem State.modJnl_jnl (s : State) (h : Jnl → Jnl) : (s.modJnl h).jnl = h s.jnl := rfl
@[simp] theorem State.modJnl_link (s : State) (h : Jnl → Jnl) : (s.modJnl h).link = s.link := rfl
@[simp] theorem State.modJnl_flt (s : State) (h : Jnl → Jnl) : (s.modJnl h).flt = s.flt := rfl
@[simp] theorem State.modJnl_nvs (s : State) (h : Jnl → Jnl) : (s.modJnl h).nvs = s.nvs := rfl
@[simp] theorem State.modJnl_pst (s : State) (h : Jnl → Jnl) : (s.modJnl h).pst = s.pst := rfl
@[simp] theorem State.modJnl_ce (s : State) (h : Jnl → Jnl) : (s.modJnl h).ce = s.ce := rfl
@[simp] theorem State.modJnl_adc (s : State) (h : Jnl → Jnl) : (s.modJnl h).adc = s.adc := rfl
@[simp] theorem State.modJnl_fan (s : State) (h : Jnl → Jnl) : (s.modJnl h).fan = s.fan := rfl
@[simp] theorem State.modJnl_hkr (s : State) (h : Jnl → Jnl) : (s.modJnl h).hkr = s.hkr := rfl
@[simp] theorem State.modJnl_chg (s : State) (h : Jnl → Jnl) : (s.modJnl h).chg = s.chg := rfl
@[simp] theorem State.modJnl_rtc (s : State) (h : Jnl → Jnl) : (s.modJnl h).rtc = s.rtc := rfl
@[simp] theorem State.modJnl_dma (s : State) (h : Jnl → Jnl) : (s.modJnl h).dma = s.dma := rfl
@[simp] theorem State.modJnl_twb (s : State) (h : Jnl → Jnl) : (s.modJnl h).twb = s.twb := rfl
@[simp] theorem State.modJnl_sec (s : State) (h : Jnl → Jnl) : (s.modJnl h).sec = s.sec := rfl
@[simp] theorem State.modJnl_g2 (s : State) (h : Jnl → Jnl) (y : Fam) (q t : Nat) : (s.modJnl h).g2 y q t = s.g2 y q t := rfl
@[simp] theorem State.modJnl_g1 (s : State) (h : Jnl → Jnl) (y : Fam) (q : Nat) : (s.modJnl h).g1 y q = s.g1 y q := rfl
@[simp] theorem State.modJnl_g (s : State) (h : Jnl → Jnl) (y : Fam) : (s.modJnl h).g y = s.g y := rfl
@[simp] theorem State.modJnl_b (s : State) (h : Jnl → Jnl) (y : Fam) : (s.modJnl h).b y = s.b y := rfl
@[simp] theorem State.modJnl_b1 (s : State) (h : Jnl → Jnl) (y : Fam) (q : Nat) : (s.modJnl h).b1 y q = s.b1 y q := rfl
@[simp] theorem State.modJnl_gf (s : State) (h : Jnl → Jnl) (y : Fld) : (s.modJnl h).gf y = s.gf y := rfl
@[simp] theorem State.modJnl_byte (s : State) (h : Jnl → Jnl) (q : Nat) : (s.modJnl h).byte q = s.byte q := rfl
@[simp] theorem State.modJnl_stage (s : State) (h : Jnl → Jnl) (q : Nat) : (s.modJnl h).stage q = s.stage q := rfl
@[simp] theorem State.modJnl_ctx (s : State) (h : Jnl → Jnl) (q : Nat) : (s.modJnl h).ctx q = s.ctx q := rfl
@[simp] theorem State.modJnl_gr (s : State) (h : Jnl → Jnl) (q t : Nat) : (s.modJnl h).gr q t = s.gr q t := rfl
@[simp] theorem State.modJnl_pin (s : State) (h : Jnl → Jnl) (q : Nat) : (s.modJnl h).pin q = s.pin q := rfl

/-! ### `State.modPow` -/

@[simp] theorem State.modPow_pending (s : State) (h : Pow → Pow) : (s.modPow h).pending = s.pending := rfl
@[simp] theorem State.modPow_resp (s : State) (h : Pow → Pow) : (s.modPow h).resp = s.resp := rfl
@[simp] theorem State.modPow_regs (s : State) (h : Pow → Pow) : (s.modPow h).regs = s.regs := rfl
@[simp] theorem State.modPow_mem (s : State) (h : Pow → Pow) : (s.modPow h).mem = s.mem := rfl
@[simp] theorem State.modPow_sramGood (s : State) (h : Pow → Pow) : (s.modPow h).sramGood = s.sramGood := rfl
@[simp] theorem State.modPow_sramOne (s : State) (h : Pow → Pow) : (s.modPow h).sramOne = s.sramOne := rfl
@[simp] theorem State.modPow_nvsBad (s : State) (h : Pow → Pow) : (s.modPow h).nvsBad = s.nvsBad := rfl
@[simp] theorem State.modPow_stages (s : State) (h : Pow → Pow) : (s.modPow h).stages = s.stages := rfl
@[simp] theorem State.modPow_free (s : State) (h : Pow → Pow) : (s.modPow h).free = s.free := rfl
@[simp] theorem State.modPow_pow (s : State) (h : Pow → Pow) : (s.modPow h).pow = h s.pow := rfl
@[simp] theorem State.modPow_stm (s : State) (h : Pow → Pow) : (s.modPow h).stm = s.stm := rfl
@[simp] theorem State.modPow_seq (s : State) (h : Pow → Pow) : (s.modPow h).seq = s.seq := rfl
@[simp] theorem State.modPow_jnl (s : State) (h : Pow → Pow) : (s.modPow h).jnl = s.jnl := rfl
@[simp] theorem State.modPow_link (s : State) (h : Pow → Pow) : (s.modPow h).link = s.link := rfl
@[simp] theorem State.modPow_flt (s : State) (h : Pow → Pow) : (s.modPow h).flt = s.flt := rfl
@[simp] theorem State.modPow_nvs (s : State) (h : Pow → Pow) : (s.modPow h).nvs = s.nvs := rfl
@[simp] theorem State.modPow_pst (s : State) (h : Pow → Pow) : (s.modPow h).pst = s.pst := rfl
@[simp] theorem State.modPow_ce (s : State) (h : Pow → Pow) : (s.modPow h).ce = s.ce := rfl
@[simp] theorem State.modPow_adc (s : State) (h : Pow → Pow) : (s.modPow h).adc = s.adc := rfl
@[simp] theorem State.modPow_fan (s : State) (h : Pow → Pow) : (s.modPow h).fan = s.fan := rfl
@[simp] theorem State.modPow_hkr (s : State) (h : Pow → Pow) : (s.modPow h).hkr = s.hkr := rfl
@[simp] theorem State.modPow_chg (s : State) (h : Pow → Pow) : (s.modPow h).chg = s.chg := rfl
@[simp] theorem State.modPow_rtc (s : State) (h : Pow → Pow) : (s.modPow h).rtc = s.rtc := rfl
@[simp] theorem State.modPow_dma (s : State) (h : Pow → Pow) : (s.modPow h).dma = s.dma := rfl
@[simp] theorem State.modPow_twb (s : State) (h : Pow → Pow) : (s.modPow h).twb = s.twb := rfl
@[simp] theorem State.modPow_sec (s : State) (h : Pow → Pow) : (s.modPow h).sec = s.sec := rfl
@[simp] theorem State.modPow_g2 (s : State) (h : Pow → Pow) (y : Fam) (q t : Nat) : (s.modPow h).g2 y q t = s.g2 y q t := rfl
@[simp] theorem State.modPow_g1 (s : State) (h : Pow → Pow) (y : Fam) (q : Nat) : (s.modPow h).g1 y q = s.g1 y q := rfl
@[simp] theorem State.modPow_g (s : State) (h : Pow → Pow) (y : Fam) : (s.modPow h).g y = s.g y := rfl
@[simp] theorem State.modPow_b (s : State) (h : Pow → Pow) (y : Fam) : (s.modPow h).b y = s.b y := rfl
@[simp] theorem State.modPow_b1 (s : State) (h : Pow → Pow) (y : Fam) (q : Nat) : (s.modPow h).b1 y q = s.b1 y q := rfl
@[simp] theorem State.modPow_gf (s : State) (h : Pow → Pow) (y : Fld) : (s.modPow h).gf y = s.gf y := rfl
@[simp] theorem State.modPow_byte (s : State) (h : Pow → Pow) (q : Nat) : (s.modPow h).byte q = s.byte q := rfl
@[simp] theorem State.modPow_stage (s : State) (h : Pow → Pow) (q : Nat) : (s.modPow h).stage q = s.stage q := rfl
@[simp] theorem State.modPow_ctx (s : State) (h : Pow → Pow) (q : Nat) : (s.modPow h).ctx q = s.ctx q := rfl
@[simp] theorem State.modPow_gr (s : State) (h : Pow → Pow) (q t : Nat) : (s.modPow h).gr q t = s.gr q t := rfl
@[simp] theorem State.modPow_pin (s : State) (h : Pow → Pow) (q : Nat) : (s.modPow h).pin q = s.pin q := rfl

/-! ### `State.modRtc` -/

@[simp] theorem State.modRtc_pending (s : State) (h : Rtc → Rtc) : (s.modRtc h).pending = s.pending := rfl
@[simp] theorem State.modRtc_resp (s : State) (h : Rtc → Rtc) : (s.modRtc h).resp = s.resp := rfl
@[simp] theorem State.modRtc_regs (s : State) (h : Rtc → Rtc) : (s.modRtc h).regs = s.regs := rfl
@[simp] theorem State.modRtc_mem (s : State) (h : Rtc → Rtc) : (s.modRtc h).mem = s.mem := rfl
@[simp] theorem State.modRtc_sramGood (s : State) (h : Rtc → Rtc) : (s.modRtc h).sramGood = s.sramGood := rfl
@[simp] theorem State.modRtc_sramOne (s : State) (h : Rtc → Rtc) : (s.modRtc h).sramOne = s.sramOne := rfl
@[simp] theorem State.modRtc_nvsBad (s : State) (h : Rtc → Rtc) : (s.modRtc h).nvsBad = s.nvsBad := rfl
@[simp] theorem State.modRtc_stages (s : State) (h : Rtc → Rtc) : (s.modRtc h).stages = s.stages := rfl
@[simp] theorem State.modRtc_free (s : State) (h : Rtc → Rtc) : (s.modRtc h).free = s.free := rfl
@[simp] theorem State.modRtc_pow (s : State) (h : Rtc → Rtc) : (s.modRtc h).pow = s.pow := rfl
@[simp] theorem State.modRtc_stm (s : State) (h : Rtc → Rtc) : (s.modRtc h).stm = s.stm := rfl
@[simp] theorem State.modRtc_seq (s : State) (h : Rtc → Rtc) : (s.modRtc h).seq = s.seq := rfl
@[simp] theorem State.modRtc_jnl (s : State) (h : Rtc → Rtc) : (s.modRtc h).jnl = s.jnl := rfl
@[simp] theorem State.modRtc_link (s : State) (h : Rtc → Rtc) : (s.modRtc h).link = s.link := rfl
@[simp] theorem State.modRtc_flt (s : State) (h : Rtc → Rtc) : (s.modRtc h).flt = s.flt := rfl
@[simp] theorem State.modRtc_nvs (s : State) (h : Rtc → Rtc) : (s.modRtc h).nvs = s.nvs := rfl
@[simp] theorem State.modRtc_pst (s : State) (h : Rtc → Rtc) : (s.modRtc h).pst = s.pst := rfl
@[simp] theorem State.modRtc_ce (s : State) (h : Rtc → Rtc) : (s.modRtc h).ce = s.ce := rfl
@[simp] theorem State.modRtc_adc (s : State) (h : Rtc → Rtc) : (s.modRtc h).adc = s.adc := rfl
@[simp] theorem State.modRtc_fan (s : State) (h : Rtc → Rtc) : (s.modRtc h).fan = s.fan := rfl
@[simp] theorem State.modRtc_hkr (s : State) (h : Rtc → Rtc) : (s.modRtc h).hkr = s.hkr := rfl
@[simp] theorem State.modRtc_chg (s : State) (h : Rtc → Rtc) : (s.modRtc h).chg = s.chg := rfl
@[simp] theorem State.modRtc_rtc (s : State) (h : Rtc → Rtc) : (s.modRtc h).rtc = h s.rtc := rfl
@[simp] theorem State.modRtc_dma (s : State) (h : Rtc → Rtc) : (s.modRtc h).dma = s.dma := rfl
@[simp] theorem State.modRtc_twb (s : State) (h : Rtc → Rtc) : (s.modRtc h).twb = s.twb := rfl
@[simp] theorem State.modRtc_sec (s : State) (h : Rtc → Rtc) : (s.modRtc h).sec = s.sec := rfl
@[simp] theorem State.modRtc_g2 (s : State) (h : Rtc → Rtc) (y : Fam) (q t : Nat) : (s.modRtc h).g2 y q t = s.g2 y q t := rfl
@[simp] theorem State.modRtc_g1 (s : State) (h : Rtc → Rtc) (y : Fam) (q : Nat) : (s.modRtc h).g1 y q = s.g1 y q := rfl
@[simp] theorem State.modRtc_g (s : State) (h : Rtc → Rtc) (y : Fam) : (s.modRtc h).g y = s.g y := rfl
@[simp] theorem State.modRtc_b (s : State) (h : Rtc → Rtc) (y : Fam) : (s.modRtc h).b y = s.b y := rfl
@[simp] theorem State.modRtc_b1 (s : State) (h : Rtc → Rtc) (y : Fam) (q : Nat) : (s.modRtc h).b1 y q = s.b1 y q := rfl
@[simp] theorem State.modRtc_gf (s : State) (h : Rtc → Rtc) (y : Fld) : (s.modRtc h).gf y = s.gf y := rfl
@[simp] theorem State.modRtc_byte (s : State) (h : Rtc → Rtc) (q : Nat) : (s.modRtc h).byte q = s.byte q := rfl
@[simp] theorem State.modRtc_stage (s : State) (h : Rtc → Rtc) (q : Nat) : (s.modRtc h).stage q = s.stage q := rfl
@[simp] theorem State.modRtc_ctx (s : State) (h : Rtc → Rtc) (q : Nat) : (s.modRtc h).ctx q = s.ctx q := rfl
@[simp] theorem State.modRtc_gr (s : State) (h : Rtc → Rtc) (q t : Nat) : (s.modRtc h).gr q t = s.gr q t := rfl
@[simp] theorem State.modRtc_pin (s : State) (h : Rtc → Rtc) (q : Nat) : (s.modRtc h).pin q = s.pin q := rfl

/-! ### `State.modSec` -/

@[simp] theorem State.modSec_pending (s : State) (h : Sec → Sec) : (s.modSec h).pending = s.pending := rfl
@[simp] theorem State.modSec_resp (s : State) (h : Sec → Sec) : (s.modSec h).resp = s.resp := rfl
@[simp] theorem State.modSec_regs (s : State) (h : Sec → Sec) : (s.modSec h).regs = s.regs := rfl
@[simp] theorem State.modSec_mem (s : State) (h : Sec → Sec) : (s.modSec h).mem = s.mem := rfl
@[simp] theorem State.modSec_sramGood (s : State) (h : Sec → Sec) : (s.modSec h).sramGood = s.sramGood := rfl
@[simp] theorem State.modSec_sramOne (s : State) (h : Sec → Sec) : (s.modSec h).sramOne = s.sramOne := rfl
@[simp] theorem State.modSec_nvsBad (s : State) (h : Sec → Sec) : (s.modSec h).nvsBad = s.nvsBad := rfl
@[simp] theorem State.modSec_stages (s : State) (h : Sec → Sec) : (s.modSec h).stages = s.stages := rfl
@[simp] theorem State.modSec_free (s : State) (h : Sec → Sec) : (s.modSec h).free = s.free := rfl
@[simp] theorem State.modSec_pow (s : State) (h : Sec → Sec) : (s.modSec h).pow = s.pow := rfl
@[simp] theorem State.modSec_stm (s : State) (h : Sec → Sec) : (s.modSec h).stm = s.stm := rfl
@[simp] theorem State.modSec_seq (s : State) (h : Sec → Sec) : (s.modSec h).seq = s.seq := rfl
@[simp] theorem State.modSec_jnl (s : State) (h : Sec → Sec) : (s.modSec h).jnl = s.jnl := rfl
@[simp] theorem State.modSec_link (s : State) (h : Sec → Sec) : (s.modSec h).link = s.link := rfl
@[simp] theorem State.modSec_flt (s : State) (h : Sec → Sec) : (s.modSec h).flt = s.flt := rfl
@[simp] theorem State.modSec_nvs (s : State) (h : Sec → Sec) : (s.modSec h).nvs = s.nvs := rfl
@[simp] theorem State.modSec_pst (s : State) (h : Sec → Sec) : (s.modSec h).pst = s.pst := rfl
@[simp] theorem State.modSec_ce (s : State) (h : Sec → Sec) : (s.modSec h).ce = s.ce := rfl
@[simp] theorem State.modSec_adc (s : State) (h : Sec → Sec) : (s.modSec h).adc = s.adc := rfl
@[simp] theorem State.modSec_fan (s : State) (h : Sec → Sec) : (s.modSec h).fan = s.fan := rfl
@[simp] theorem State.modSec_hkr (s : State) (h : Sec → Sec) : (s.modSec h).hkr = s.hkr := rfl
@[simp] theorem State.modSec_chg (s : State) (h : Sec → Sec) : (s.modSec h).chg = s.chg := rfl
@[simp] theorem State.modSec_rtc (s : State) (h : Sec → Sec) : (s.modSec h).rtc = s.rtc := rfl
@[simp] theorem State.modSec_dma (s : State) (h : Sec → Sec) : (s.modSec h).dma = s.dma := rfl
@[simp] theorem State.modSec_twb (s : State) (h : Sec → Sec) : (s.modSec h).twb = s.twb := rfl
@[simp] theorem State.modSec_sec (s : State) (h : Sec → Sec) : (s.modSec h).sec = h s.sec := rfl
@[simp] theorem State.modSec_g2 (s : State) (h : Sec → Sec) (y : Fam) (q t : Nat) : (s.modSec h).g2 y q t = s.g2 y q t := rfl
@[simp] theorem State.modSec_g1 (s : State) (h : Sec → Sec) (y : Fam) (q : Nat) : (s.modSec h).g1 y q = s.g1 y q := rfl
@[simp] theorem State.modSec_g (s : State) (h : Sec → Sec) (y : Fam) : (s.modSec h).g y = s.g y := rfl
@[simp] theorem State.modSec_b (s : State) (h : Sec → Sec) (y : Fam) : (s.modSec h).b y = s.b y := rfl
@[simp] theorem State.modSec_b1 (s : State) (h : Sec → Sec) (y : Fam) (q : Nat) : (s.modSec h).b1 y q = s.b1 y q := rfl
@[simp] theorem State.modSec_gf (s : State) (h : Sec → Sec) (y : Fld) : (s.modSec h).gf y = s.gf y := rfl
@[simp] theorem State.modSec_byte (s : State) (h : Sec → Sec) (q : Nat) : (s.modSec h).byte q = s.byte q := rfl
@[simp] theorem State.modSec_stage (s : State) (h : Sec → Sec) (q : Nat) : (s.modSec h).stage q = s.stage q := rfl
@[simp] theorem State.modSec_ctx (s : State) (h : Sec → Sec) (q : Nat) : (s.modSec h).ctx q = s.ctx q := rfl
@[simp] theorem State.modSec_gr (s : State) (h : Sec → Sec) (q t : Nat) : (s.modSec h).gr q t = s.gr q t := rfl
@[simp] theorem State.modSec_pin (s : State) (h : Sec → Sec) (q : Nat) : (s.modSec h).pin q = s.pin q := rfl

/-! ### `State.modLink` -/

@[simp] theorem State.modLink_pending (s : State) (h : Link → Link) : (s.modLink h).pending = s.pending := rfl
@[simp] theorem State.modLink_resp (s : State) (h : Link → Link) : (s.modLink h).resp = s.resp := rfl
@[simp] theorem State.modLink_regs (s : State) (h : Link → Link) : (s.modLink h).regs = s.regs := rfl
@[simp] theorem State.modLink_mem (s : State) (h : Link → Link) : (s.modLink h).mem = s.mem := rfl
@[simp] theorem State.modLink_sramGood (s : State) (h : Link → Link) : (s.modLink h).sramGood = s.sramGood := rfl
@[simp] theorem State.modLink_sramOne (s : State) (h : Link → Link) : (s.modLink h).sramOne = s.sramOne := rfl
@[simp] theorem State.modLink_nvsBad (s : State) (h : Link → Link) : (s.modLink h).nvsBad = s.nvsBad := rfl
@[simp] theorem State.modLink_stages (s : State) (h : Link → Link) : (s.modLink h).stages = s.stages := rfl
@[simp] theorem State.modLink_free (s : State) (h : Link → Link) : (s.modLink h).free = s.free := rfl
@[simp] theorem State.modLink_pow (s : State) (h : Link → Link) : (s.modLink h).pow = s.pow := rfl
@[simp] theorem State.modLink_stm (s : State) (h : Link → Link) : (s.modLink h).stm = s.stm := rfl
@[simp] theorem State.modLink_seq (s : State) (h : Link → Link) : (s.modLink h).seq = s.seq := rfl
@[simp] theorem State.modLink_jnl (s : State) (h : Link → Link) : (s.modLink h).jnl = s.jnl := rfl
@[simp] theorem State.modLink_link (s : State) (h : Link → Link) : (s.modLink h).link = h s.link := rfl
@[simp] theorem State.modLink_flt (s : State) (h : Link → Link) : (s.modLink h).flt = s.flt := rfl
@[simp] theorem State.modLink_nvs (s : State) (h : Link → Link) : (s.modLink h).nvs = s.nvs := rfl
@[simp] theorem State.modLink_pst (s : State) (h : Link → Link) : (s.modLink h).pst = s.pst := rfl
@[simp] theorem State.modLink_ce (s : State) (h : Link → Link) : (s.modLink h).ce = s.ce := rfl
@[simp] theorem State.modLink_adc (s : State) (h : Link → Link) : (s.modLink h).adc = s.adc := rfl
@[simp] theorem State.modLink_fan (s : State) (h : Link → Link) : (s.modLink h).fan = s.fan := rfl
@[simp] theorem State.modLink_hkr (s : State) (h : Link → Link) : (s.modLink h).hkr = s.hkr := rfl
@[simp] theorem State.modLink_chg (s : State) (h : Link → Link) : (s.modLink h).chg = s.chg := rfl
@[simp] theorem State.modLink_rtc (s : State) (h : Link → Link) : (s.modLink h).rtc = s.rtc := rfl
@[simp] theorem State.modLink_dma (s : State) (h : Link → Link) : (s.modLink h).dma = s.dma := rfl
@[simp] theorem State.modLink_twb (s : State) (h : Link → Link) : (s.modLink h).twb = s.twb := rfl
@[simp] theorem State.modLink_sec (s : State) (h : Link → Link) : (s.modLink h).sec = s.sec := rfl
@[simp] theorem State.modLink_g2 (s : State) (h : Link → Link) (y : Fam) (q t : Nat) : (s.modLink h).g2 y q t = s.g2 y q t := rfl
@[simp] theorem State.modLink_g1 (s : State) (h : Link → Link) (y : Fam) (q : Nat) : (s.modLink h).g1 y q = s.g1 y q := rfl
@[simp] theorem State.modLink_g (s : State) (h : Link → Link) (y : Fam) : (s.modLink h).g y = s.g y := rfl
@[simp] theorem State.modLink_b (s : State) (h : Link → Link) (y : Fam) : (s.modLink h).b y = s.b y := rfl
@[simp] theorem State.modLink_b1 (s : State) (h : Link → Link) (y : Fam) (q : Nat) : (s.modLink h).b1 y q = s.b1 y q := rfl
@[simp] theorem State.modLink_gf (s : State) (h : Link → Link) (y : Fld) : (s.modLink h).gf y = s.gf y := rfl
@[simp] theorem State.modLink_byte (s : State) (h : Link → Link) (q : Nat) : (s.modLink h).byte q = s.byte q := rfl
@[simp] theorem State.modLink_stage (s : State) (h : Link → Link) (q : Nat) : (s.modLink h).stage q = s.stage q := rfl
@[simp] theorem State.modLink_ctx (s : State) (h : Link → Link) (q : Nat) : (s.modLink h).ctx q = s.ctx q := rfl
@[simp] theorem State.modLink_gr (s : State) (h : Link → Link) (q t : Nat) : (s.modLink h).gr q t = s.gr q t := rfl
@[simp] theorem State.modLink_pin (s : State) (h : Link → Link) (q : Nat) : (s.modLink h).pin q = s.pin q := rfl

/-! ### `State.modStm` -/

@[simp] theorem State.modStm_pending (s : State) (h : Stm → Stm) : (s.modStm h).pending = s.pending := rfl
@[simp] theorem State.modStm_resp (s : State) (h : Stm → Stm) : (s.modStm h).resp = s.resp := rfl
@[simp] theorem State.modStm_regs (s : State) (h : Stm → Stm) : (s.modStm h).regs = s.regs := rfl
@[simp] theorem State.modStm_mem (s : State) (h : Stm → Stm) : (s.modStm h).mem = s.mem := rfl
@[simp] theorem State.modStm_sramGood (s : State) (h : Stm → Stm) : (s.modStm h).sramGood = s.sramGood := rfl
@[simp] theorem State.modStm_sramOne (s : State) (h : Stm → Stm) : (s.modStm h).sramOne = s.sramOne := rfl
@[simp] theorem State.modStm_nvsBad (s : State) (h : Stm → Stm) : (s.modStm h).nvsBad = s.nvsBad := rfl
@[simp] theorem State.modStm_stages (s : State) (h : Stm → Stm) : (s.modStm h).stages = s.stages := rfl
@[simp] theorem State.modStm_free (s : State) (h : Stm → Stm) : (s.modStm h).free = s.free := rfl
@[simp] theorem State.modStm_pow (s : State) (h : Stm → Stm) : (s.modStm h).pow = s.pow := rfl
@[simp] theorem State.modStm_stm (s : State) (h : Stm → Stm) : (s.modStm h).stm = h s.stm := rfl
@[simp] theorem State.modStm_seq (s : State) (h : Stm → Stm) : (s.modStm h).seq = s.seq := rfl
@[simp] theorem State.modStm_jnl (s : State) (h : Stm → Stm) : (s.modStm h).jnl = s.jnl := rfl
@[simp] theorem State.modStm_link (s : State) (h : Stm → Stm) : (s.modStm h).link = s.link := rfl
@[simp] theorem State.modStm_flt (s : State) (h : Stm → Stm) : (s.modStm h).flt = s.flt := rfl
@[simp] theorem State.modStm_nvs (s : State) (h : Stm → Stm) : (s.modStm h).nvs = s.nvs := rfl
@[simp] theorem State.modStm_pst (s : State) (h : Stm → Stm) : (s.modStm h).pst = s.pst := rfl
@[simp] theorem State.modStm_ce (s : State) (h : Stm → Stm) : (s.modStm h).ce = s.ce := rfl
@[simp] theorem State.modStm_adc (s : State) (h : Stm → Stm) : (s.modStm h).adc = s.adc := rfl
@[simp] theorem State.modStm_fan (s : State) (h : Stm → Stm) : (s.modStm h).fan = s.fan := rfl
@[simp] theorem State.modStm_hkr (s : State) (h : Stm → Stm) : (s.modStm h).hkr = s.hkr := rfl
@[simp] theorem State.modStm_chg (s : State) (h : Stm → Stm) : (s.modStm h).chg = s.chg := rfl
@[simp] theorem State.modStm_rtc (s : State) (h : Stm → Stm) : (s.modStm h).rtc = s.rtc := rfl
@[simp] theorem State.modStm_dma (s : State) (h : Stm → Stm) : (s.modStm h).dma = s.dma := rfl
@[simp] theorem State.modStm_twb (s : State) (h : Stm → Stm) : (s.modStm h).twb = s.twb := rfl
@[simp] theorem State.modStm_sec (s : State) (h : Stm → Stm) : (s.modStm h).sec = s.sec := rfl
@[simp] theorem State.modStm_g2 (s : State) (h : Stm → Stm) (y : Fam) (q t : Nat) : (s.modStm h).g2 y q t = s.g2 y q t := rfl
@[simp] theorem State.modStm_g1 (s : State) (h : Stm → Stm) (y : Fam) (q : Nat) : (s.modStm h).g1 y q = s.g1 y q := rfl
@[simp] theorem State.modStm_g (s : State) (h : Stm → Stm) (y : Fam) : (s.modStm h).g y = s.g y := rfl
@[simp] theorem State.modStm_b (s : State) (h : Stm → Stm) (y : Fam) : (s.modStm h).b y = s.b y := rfl
@[simp] theorem State.modStm_b1 (s : State) (h : Stm → Stm) (y : Fam) (q : Nat) : (s.modStm h).b1 y q = s.b1 y q := rfl
@[simp] theorem State.modStm_gf (s : State) (h : Stm → Stm) (y : Fld) : (s.modStm h).gf y = s.gf y := rfl
@[simp] theorem State.modStm_byte (s : State) (h : Stm → Stm) (q : Nat) : (s.modStm h).byte q = s.byte q := rfl
@[simp] theorem State.modStm_stage (s : State) (h : Stm → Stm) (q : Nat) : (s.modStm h).stage q = s.stage q := rfl
@[simp] theorem State.modStm_ctx (s : State) (h : Stm → Stm) (q : Nat) : (s.modStm h).ctx q = s.ctx q := rfl
@[simp] theorem State.modStm_gr (s : State) (h : Stm → Stm) (q t : Nat) : (s.modStm h).gr q t = s.gr q t := rfl
@[simp] theorem State.modStm_pin (s : State) (h : Stm → Stm) (q : Nat) : (s.modStm h).pin q = s.pin q := rfl

/-! ### `State.modTwb` -/

@[simp] theorem State.modTwb_pending (s : State) (h : Twb → Twb) : (s.modTwb h).pending = s.pending := rfl
@[simp] theorem State.modTwb_resp (s : State) (h : Twb → Twb) : (s.modTwb h).resp = s.resp := rfl
@[simp] theorem State.modTwb_regs (s : State) (h : Twb → Twb) : (s.modTwb h).regs = s.regs := rfl
@[simp] theorem State.modTwb_mem (s : State) (h : Twb → Twb) : (s.modTwb h).mem = s.mem := rfl
@[simp] theorem State.modTwb_sramGood (s : State) (h : Twb → Twb) : (s.modTwb h).sramGood = s.sramGood := rfl
@[simp] theorem State.modTwb_sramOne (s : State) (h : Twb → Twb) : (s.modTwb h).sramOne = s.sramOne := rfl
@[simp] theorem State.modTwb_nvsBad (s : State) (h : Twb → Twb) : (s.modTwb h).nvsBad = s.nvsBad := rfl
@[simp] theorem State.modTwb_stages (s : State) (h : Twb → Twb) : (s.modTwb h).stages = s.stages := rfl
@[simp] theorem State.modTwb_free (s : State) (h : Twb → Twb) : (s.modTwb h).free = s.free := rfl
@[simp] theorem State.modTwb_pow (s : State) (h : Twb → Twb) : (s.modTwb h).pow = s.pow := rfl
@[simp] theorem State.modTwb_stm (s : State) (h : Twb → Twb) : (s.modTwb h).stm = s.stm := rfl
@[simp] theorem State.modTwb_seq (s : State) (h : Twb → Twb) : (s.modTwb h).seq = s.seq := rfl
@[simp] theorem State.modTwb_jnl (s : State) (h : Twb → Twb) : (s.modTwb h).jnl = s.jnl := rfl
@[simp] theorem State.modTwb_link (s : State) (h : Twb → Twb) : (s.modTwb h).link = s.link := rfl
@[simp] theorem State.modTwb_flt (s : State) (h : Twb → Twb) : (s.modTwb h).flt = s.flt := rfl
@[simp] theorem State.modTwb_nvs (s : State) (h : Twb → Twb) : (s.modTwb h).nvs = s.nvs := rfl
@[simp] theorem State.modTwb_pst (s : State) (h : Twb → Twb) : (s.modTwb h).pst = s.pst := rfl
@[simp] theorem State.modTwb_ce (s : State) (h : Twb → Twb) : (s.modTwb h).ce = s.ce := rfl
@[simp] theorem State.modTwb_adc (s : State) (h : Twb → Twb) : (s.modTwb h).adc = s.adc := rfl
@[simp] theorem State.modTwb_fan (s : State) (h : Twb → Twb) : (s.modTwb h).fan = s.fan := rfl
@[simp] theorem State.modTwb_hkr (s : State) (h : Twb → Twb) : (s.modTwb h).hkr = s.hkr := rfl
@[simp] theorem State.modTwb_chg (s : State) (h : Twb → Twb) : (s.modTwb h).chg = s.chg := rfl
@[simp] theorem State.modTwb_rtc (s : State) (h : Twb → Twb) : (s.modTwb h).rtc = s.rtc := rfl
@[simp] theorem State.modTwb_dma (s : State) (h : Twb → Twb) : (s.modTwb h).dma = s.dma := rfl
@[simp] theorem State.modTwb_twb (s : State) (h : Twb → Twb) : (s.modTwb h).twb = h s.twb := rfl
@[simp] theorem State.modTwb_sec (s : State) (h : Twb → Twb) : (s.modTwb h).sec = s.sec := rfl
@[simp] theorem State.modTwb_g2 (s : State) (h : Twb → Twb) (y : Fam) (q t : Nat) : (s.modTwb h).g2 y q t = s.g2 y q t := rfl
@[simp] theorem State.modTwb_g1 (s : State) (h : Twb → Twb) (y : Fam) (q : Nat) : (s.modTwb h).g1 y q = s.g1 y q := rfl
@[simp] theorem State.modTwb_g (s : State) (h : Twb → Twb) (y : Fam) : (s.modTwb h).g y = s.g y := rfl
@[simp] theorem State.modTwb_b (s : State) (h : Twb → Twb) (y : Fam) : (s.modTwb h).b y = s.b y := rfl
@[simp] theorem State.modTwb_b1 (s : State) (h : Twb → Twb) (y : Fam) (q : Nat) : (s.modTwb h).b1 y q = s.b1 y q := rfl
@[simp] theorem State.modTwb_gf (s : State) (h : Twb → Twb) (y : Fld) : (s.modTwb h).gf y = s.gf y := rfl
@[simp] theorem State.modTwb_byte (s : State) (h : Twb → Twb) (q : Nat) : (s.modTwb h).byte q = s.byte q := rfl
@[simp] theorem State.modTwb_stage (s : State) (h : Twb → Twb) (q : Nat) : (s.modTwb h).stage q = s.stage q := rfl
@[simp] theorem State.modTwb_ctx (s : State) (h : Twb → Twb) (q : Nat) : (s.modTwb h).ctx q = s.ctx q := rfl
@[simp] theorem State.modTwb_gr (s : State) (h : Twb → Twb) (q t : Nat) : (s.modTwb h).gr q t = s.gr q t := rfl
@[simp] theorem State.modTwb_pin (s : State) (h : Twb → Twb) (q : Nat) : (s.modTwb h).pin q = s.pin q := rfl

/-! ### `State.modConv` -/

@[simp] theorem State.modConv_pending (s : State) (n : Nat) (h : AdcConv → AdcConv) : (s.modConv n h).pending = s.pending := rfl
@[simp] theorem State.modConv_resp (s : State) (n : Nat) (h : AdcConv → AdcConv) : (s.modConv n h).resp = s.resp := rfl
@[simp] theorem State.modConv_regs (s : State) (n : Nat) (h : AdcConv → AdcConv) : (s.modConv n h).regs = s.regs := rfl
@[simp] theorem State.modConv_mem (s : State) (n : Nat) (h : AdcConv → AdcConv) : (s.modConv n h).mem = s.mem := rfl
@[simp] theorem State.modConv_sramGood (s : State) (n : Nat) (h : AdcConv → AdcConv) : (s.modConv n h).sramGood = s.sramGood := rfl
@[simp] theorem State.modConv_sramOne (s : State) (n : Nat) (h : AdcConv → AdcConv) : (s.modConv n h).sramOne = s.sramOne := rfl
@[simp] theorem State.modConv_nvsBad (s : State) (n : Nat) (h : AdcConv → AdcConv) : (s.modConv n h).nvsBad = s.nvsBad := rfl
@[simp] theorem State.modConv_stages (s : State) (n : Nat) (h : AdcConv → AdcConv) : (s.modConv n h).stages = s.stages := rfl
@[simp] theorem State.modConv_free (s : State) (n : Nat) (h : AdcConv → AdcConv) : (s.modConv n h).free = s.free := rfl
@[simp] theorem State.modConv_pow (s : State) (n : Nat) (h : AdcConv → AdcConv) : (s.modConv n h).pow = s.pow := rfl
@[simp] theorem State.modConv_stm (s : State) (n : Nat) (h : AdcConv → AdcConv) : (s.modConv n h).stm = s.stm := rfl
@[simp] theorem State.modConv_seq (s : State) (n : Nat) (h : AdcConv → AdcConv) : (s.modConv n h).seq = s.seq := rfl
@[simp] theorem State.modConv_jnl (s : State) (n : Nat) (h : AdcConv → AdcConv) : (s.modConv n h).jnl = s.jnl := rfl
@[simp] theorem State.modConv_link (s : State) (n : Nat) (h : AdcConv → AdcConv) : (s.modConv n h).link = s.link := rfl
@[simp] theorem State.modConv_flt (s : State) (n : Nat) (h : AdcConv → AdcConv) : (s.modConv n h).flt = s.flt := rfl
@[simp] theorem State.modConv_nvs (s : State) (n : Nat) (h : AdcConv → AdcConv) : (s.modConv n h).nvs = s.nvs := rfl
@[simp] theorem State.modConv_pst (s : State) (n : Nat) (h : AdcConv → AdcConv) : (s.modConv n h).pst = s.pst := rfl
@[simp] theorem State.modConv_ce (s : State) (n : Nat) (h : AdcConv → AdcConv) : (s.modConv n h).ce = s.ce := rfl
@[simp] theorem State.modConv_adc (s : State) (n : Nat) (h : AdcConv → AdcConv) : (s.modConv n h).adc = (if n = 0 then { s.adc with c0 := h s.adc.c0 } else { s.adc with c1 := h s.adc.c1 }) := rfl
@[simp] theorem State.modConv_fan (s : State) (n : Nat) (h : AdcConv → AdcConv) : (s.modConv n h).fan = s.fan := rfl
@[simp] theorem State.modConv_hkr (s : State) (n : Nat) (h : AdcConv → AdcConv) : (s.modConv n h).hkr = s.hkr := rfl
@[simp] theorem State.modConv_chg (s : State) (n : Nat) (h : AdcConv → AdcConv) : (s.modConv n h).chg = s.chg := rfl
@[simp] theorem State.modConv_rtc (s : State) (n : Nat) (h : AdcConv → AdcConv) : (s.modConv n h).rtc = s.rtc := rfl
@[simp] theorem State.modConv_dma (s : State) (n : Nat) (h : AdcConv → AdcConv) : (s.modConv n h).dma = s.dma := rfl
@[simp] theorem State.modConv_twb (s : State) (n : Nat) (h : AdcConv → AdcConv) : (s.modConv n h).twb = s.twb := rfl
@[simp] theorem State.modConv_sec (s : State) (n : Nat) (h : AdcConv → AdcConv) : (s.modConv n h).sec = s.sec := rfl
@[simp] theorem State.modConv_g2 (s : State) (n : Nat) (h : AdcConv → AdcConv) (y : Fam) (q t : Nat) : (s.modConv n h).g2 y q t = s.g2 y q t := rfl
@[simp] theorem State.modConv_g1 (s : State) (n : Nat) (h : AdcConv → AdcConv) (y : Fam) (q : Nat) : (s.modConv n h).g1 y q = s.g1 y q := rfl
@[simp] theorem State.modConv_g (s : State) (n : Nat) (h : AdcConv → AdcConv) (y : Fam) : (s.modConv n h).g y = s.g y := rfl
@[simp] theorem State.modConv_b (s : State) (n : Nat) (h : AdcConv → AdcConv) (y : Fam) : (s.modConv n h).b y = s.b y := rfl
@[simp] theorem State.modConv_b1 (s : State) (n : Nat) (h : AdcConv → AdcConv) (y : Fam) (q : Nat) : (s.modConv n h).b1 y q = s.b1 y q := rfl
@[simp] theorem State.modConv_gf (s : State) (n : Nat) (h : AdcConv → AdcConv) (y : Fld) : (s.modConv n h).gf y = s.gf y := rfl
@[simp] theorem State.modConv_byte (s : State) (n : Nat) (h : AdcConv → AdcConv) (q : Nat) : (s.modConv n h).byte q = s.byte q := rfl
@[simp] theorem State.modConv_stage (s : State) (n : Nat) (h : AdcConv → AdcConv) (q : Nat) : (s.modConv n h).stage q = s.stage q := rfl
@[simp] theorem State.modConv_ctx (s : State) (n : Nat) (h : AdcConv → AdcConv) (q : Nat) : (s.modConv n h).ctx q = s.ctx q := rfl
@[simp] theorem State.modConv_gr (s : State) (n : Nat) (h : AdcConv → AdcConv) (q t : Nat) : (s.modConv n h).gr q t = s.gr q t := rfl
@[simp] theorem State.modConv_pin (s : State) (n : Nat) (h : AdcConv → AdcConv) (q : Nat) : (s.modConv n h).pin q = s.pin q := rfl

/-! ### Reading back -/

/-- A field just written reads the value written, cut to its width. -/
theorem State.p2_g2_self (s : State) (x : Fam) (i j v : Nat) (h : Tab.rising s.regs = true) :
    (s.p2 x i j v).g2 x i j = v % 2 ^ x.w := Tab.val_put_self _ _ _ _ h

/-- A field write leaves every field with another key as it reads. -/
theorem State.p2_g2_other (s : State) (x y : Fam) (i j v q r : Nat) (h : Tab.rising s.regs = true)
    (hk : y.key q r ≠ x.key i j) : (s.p2 x i j v).g2 y q r = s.g2 y q r := Tab.val_put_other _ _ _ _ _ _ h hk

/-- Field `i` of a family just written reads the value written, cut to its width. -/
theorem State.p1_g1_self (s : State) (x : Fam) (i v : Nat) (h : Tab.rising s.regs = true) :
    (s.p1 x i v).g1 x i = v % 2 ^ x.w := State.p2_g2_self s x i 0 v h

/-- A field just written reads the value written, cut to its width. -/
theorem State.p_g_self (s : State) (x : Fam) (v : Nat) (h : Tab.rising s.regs = true) :
    (s.p x v).g x = v % 2 ^ x.w := State.p2_g2_self s x 0 0 v h

/-- A field write leaves a field with another key as it reads. -/
theorem State.p_g_other (s : State) (x y : Fam) (v : Nat) (h : Tab.rising s.regs = true)
    (hk : y.key 0 0 ≠ x.key 0 0) : (s.p x v).g y = s.g y := State.p2_g2_other s x y 0 0 v 0 0 h hk

/-- A field write keeps the field keys rising. -/
theorem State.p2_rising (s : State) (x : Fam) (i j v : Nat) (h : Tab.rising s.regs = true) :
    Tab.rising (s.p2 x i j v).regs = true := Tab.rising_put _ _ _ _ h

/-- Returning fields to reset keeps the field keys rising. -/
theorem State.restore_rising (s : State) (p : Fld → Bool) (h : Tab.rising s.regs = true) :
    Tab.rising (s.restore p).regs = true := Tab.risingFrom_filter _ _ _ h

/-- A field write changes the register file alone. -/
theorem State.p2_onlyRegs (s : State) (x : Fam) (i j v : Nat) : OnlyRegs s (s.p2 x i j v) := rfl

/-- A byte just written reads back. -/
theorem State.setByte_byte_self (s : State) (a : Nat) (x : BitVec 8) (h : Memory.wf s.mem = true) :
    (s.setByte a x).byte a = x :=
  Tab.val_put_self _ _ _ _ (by simp only [Memory.wf, Tab.canon, Bool.and_eq_true] at h; exact h.1)

/-- A byte write leaves every other byte as it reads. -/
theorem State.setByte_byte_other (s : State) (a q : Nat) (x : BitVec 8) (h : Memory.wf s.mem = true) (hq : q ≠ a) :
    (s.setByte a x).byte q = s.byte q :=
  Tab.val_put_other _ _ _ _ _ _ (by simp only [Memory.wf, Tab.canon, Bool.and_eq_true] at h; exact h.1) hq

/-- A stage just replaced reads as its replacement. -/
theorem State.setStage_stage_self (s : State) (k : Nat) (x : Stage) (h : Tab.rising s.stages = true) :
    (s.setStage k x).stage k = x := Tab.val_put_self _ _ _ _ h

/-- Replacing a stage leaves every other stage as it is. -/
theorem State.setStage_stage_other (s : State) (k q : Nat) (x : Stage) (h : Tab.rising s.stages = true) (hq : q ≠ k) :
    (s.setStage k x).stage q = s.stage q := Tab.val_put_other _ _ _ _ _ _ h hq

/-- A context just replaced reads as its replacement. -/
theorem State.setCtx_ctx_self (s : State) (c : Nat) (x : Ctx) (h : Tab.rising s.seq.ctxs = true) :
    (s.setCtx c x).ctx c = x := Tab.val_put_self _ _ _ _ h

/-- Replacing a context leaves every other context as it is. -/
theorem State.setCtx_ctx_other (s : State) (c q : Nat) (x : Ctx) (h : Tab.rising s.seq.ctxs = true) (hq : q ≠ c) :
    (s.setCtx c x).ctx q = s.ctx q := Tab.val_put_other _ _ _ _ _ _ h hq

/-- A general register just written reads back. -/
theorem State.setGr_gr_self (s : State) (c r : Nat) (v : Word) (h : Tab.rising s.seq.gregs = true) :
    (s.setGr c r v).gr c r = v := Tab.val_put_self _ _ _ _ h

/-- A register write leaves every other general register as it reads. -/
theorem State.setGr_gr_other (s : State) (c r d q : Nat) (v : Word) (h : Tab.rising s.seq.gregs = true)
    (hq : 16 * d + q ≠ 16 * c + r) : (s.setGr c r v).gr d q = s.gr d q := Tab.val_put_other _ _ _ _ _ _ h hq

/-- An input just replaced reads as its replacement. -/
theorem State.modPin_pin_self (s : State) (n : Nat) (h : PstIn → PstIn) (hr : Tab.rising s.pst = true) :
    (s.modPin n h).pin n = h (s.pin n) := Tab.val_put_self _ _ _ _ hr

/-- Changing an input leaves every other input as it is. -/
theorem State.modPin_pin_other (s : State) (n q : Nat) (h : PstIn → PstIn) (hr : Tab.rising s.pst = true) (hq : q ≠ n) :
    (s.modPin n h).pin q = s.pin q := Tab.val_put_other _ _ _ _ _ _ hr hq

end Sys2Proof.Machine
end

