-- ==== Sys2Proof/Laws/Memory.lean ====
section
/-! SUPPORT. Memory: every operation keeps the canonical form, reset memory has it, what is written reads back, and a write leaves every other byte alone. -/

namespace Sys2Proof.Machine

/-- Reset memory has the canonical form. -/
theorem Memory.wf_reset : Memory.wf State.reset.mem = true := rfl

/-- Memory in the canonical form lists rising addresses. -/
theorem Memory.wf_rising {m : List Host.Cell} (h : Memory.wf m = true) : Tab.rising m = true := by
  simp only [Memory.wf, Tab.canon, Bool.and_eq_true] at h; exact h.1

/-- A byte write keeps the canonical form. -/
theorem State.setByte_wf (s : State) (a : Nat) (x : BitVec 8) (h : Memory.wf s.mem = true) :
    Memory.wf (s.setByte a x).mem = true := Tab.canon_put _ _ _ _ h

/-- A little-endian write keeps the canonical form. -/
theorem State.setBytesLE_wf (n : Nat) (s : State) (a v : Nat) (h : Memory.wf s.mem = true) :
    Memory.wf (s.setBytesLE a n v).mem = true := by
  induction n generalizing s a v with
  | zero => exact h
  | succ n ih => exact ih _ _ _ (s.setByte_wf _ _ h)

/-- A word write keeps the canonical form. -/
theorem State.setWord_wf (s : State) (a v : Nat) (h : Memory.wf s.mem = true) :
    Memory.wf (s.setWord a v).mem = true := s.setBytesLE_wf 4 a v h

/-- A write of a list of bytes keeps the canonical form. -/
theorem State.setByteList_wf (l : List (BitVec 8)) (s : State) (a : Nat) (h : Memory.wf s.mem = true) :
    Memory.wf (s.setByteList a l).mem = true := by
  induction l generalizing s a with
  | nil => exact h
  | cons b t ih => exact ih _ _ (s.setByte_wf _ _ h)

/-- Clearing the trace RAM keeps the canonical form. -/
theorem clearTrace_wf (s : State) (h : Memory.wf s.mem = true) : Memory.wf (clearTrace s).mem = true :=
  Tab.canon_filter _ _ _ h

/-- A little-endian write changes memory alone. -/
theorem State.setBytesLE_only (n : Nat) (s : State) (a v : Nat) :
    s.setBytesLE a n v = { s with mem := (s.setBytesLE a n v).mem } := by
  induction n generalizing s a v with
  | zero => rfl
  | succ n ih => exact ih (s.setByte a (BitVec.ofNat 8 v)) (a + 1) (v / 256)

/-- A little-endian write leaves every byte outside it as it reads. -/
theorem State.setBytesLE_byte_other (n : Nat) (s : State) (a v q : Nat) (h : Memory.wf s.mem = true)
    (hq : q < a ∨ a + n ≤ q) : (s.setBytesLE a n v).byte q = s.byte q := by
  induction n generalizing s a v with
  | zero => rfl
  | succ n ih =>
    exact (ih _ _ _ (s.setByte_wf _ _ h) (by omega)).trans (s.setByte_byte_other _ _ _ h (by omega))

/-- What a little-endian write stores reads back, cut to its width. -/
theorem State.setBytesLE_bytesLE (n : Nat) (s : State) (a v : Nat) (h : Memory.wf s.mem = true) :
    (s.setBytesLE a n v).bytesLE a n = v % 256 ^ n := by
  induction n generalizing s a v with
  | zero => simp [State.bytesLE, Nat.mod_one]
  | succ n ih =>
    have hb : (s.setBytesLE a (n + 1) v).byte a = BitVec.ofNat 8 v :=
      (State.setBytesLE_byte_other n _ _ _ _ (s.setByte_wf _ _ h) (by omega)).trans (s.setByte_byte_self _ _ h)
    have hr : (s.setBytesLE a (n + 1) v).bytesLE (a + 1) n = v / 256 % 256 ^ n := ih _ _ _ (s.setByte_wf _ _ h)
    rw [State.bytesLE, hb, hr, pow_succ', Nat.mod_mul]
    simp

/-- Bytes that read alike make the same little-endian number. -/
theorem State.bytesLE_congr (n : Nat) (s t : State) (a : Nat) (h : ∀ q, a ≤ q → q < a + n → t.byte q = s.byte q) :
    t.bytesLE a n = s.bytesLE a n := by
  induction n generalizing a with
  | zero => rfl
  | succ n ih =>
    simp only [State.bytesLE]
    rw [h a (by omega) (by omega), ih (a + 1) (fun q h1 h2 => h q (by omega) (by omega))]

/-- A little-endian write leaves every little-endian number outside it as it reads. -/
theorem State.setBytesLE_bytesLE_other (n m : Nat) (s : State) (a q v : Nat) (h : Memory.wf s.mem = true)
    (hq : q + m ≤ a ∨ a + n ≤ q) : (s.setBytesLE a n v).bytesLE q m = s.bytesLE q m :=
  State.bytesLE_congr m _ _ _ (fun x h1 h2 => State.setBytesLE_byte_other n s a v x h (by omega))

end Sys2Proof.Machine
end

