-- ==== Sys2Proof/Laws/Ops.lean ====
section
/-! SUPPORT. What the shared operations do, said once: the step, commits, stages, event lines, contexts, fault events, counters and the issue of a Lelas instruction. -/

namespace Sys2Proof.Machine

/-! ### The step -/

/-- A step with a command at the front runs it on the state with the queue's rest. -/
theorem step_cons {s : State} {c : Instr} {rest : List Instr} (h : s.pending = c :: rest) :
    step s = exec c { s with pending := rest } := by simp [step, h]

/-- A step on an empty queue is one tick. -/
theorem step_nil {s : State} (h : s.pending = []) : step s = .next (tick s) := by simp [step, h]

/-! ### Sets of numbers -/

/-- A number just added is in the set. -/
theorem NSet.has_add_self (l : NSet) (k : Nat) : NSet.has (NSet.add l k) k = true := by
  induction l with
  | nil => simp [NSet.has, NSet.add]
  | cons a t ih => simp only [NSet.add]; split <;> [skip; split] <;> simp_all [NSet.has]

/-- Adding a number leaves every other number as it was. -/
theorem NSet.has_add_other (l : NSet) (k q : Nat) (h : q ≠ k) : NSet.has (NSet.add l k) q = NSet.has l q := by
  induction l with
  | nil => simp [NSet.has, NSet.add, h]
  | cons a t ih => simp only [NSet.add, NSet.has] at *; grind [NSet.has]

/-- Adding a number that is there changes nothing. -/
theorem NSet.add_has (l : NSet) (k : Nat) (h : NSet.has l k = true) : NSet.add l k = l := by
  induction l with
  | nil => simp [NSet.has] at h
  | cons a t ih => simp only [NSet.has, NSet.add] at *; grind

/-- Removing a number that is not there changes nothing. -/
theorem NSet.del_has (l : NSet) (k : Nat) (h : NSet.has l k = false) : NSet.del l k = l := by
  induction l with
  | nil => rfl
  | cons a t ih => simp only [NSet.has, NSet.del] at *; grind

/-! ### Commits and stages (R10, R127) -/

/-- COMMIT by another than the stage's owner is BUSY and changes nothing. -/
theorem commitWith_other {k id o : Nat} {check : State → Bool} {apply : State → State} {s : State}
    (h : (s.stage k).owner = some o) (hne : o ≠ id) : commitWith k id check apply s = (.busy, s) := by
  simp [commitWith, h, hne]

/-- The owner's COMMIT that passes the block's check applies and releases the stage. -/
theorem commitWith_passes {k id : Nat} {check : State → Bool} {apply : State → State} {s : State}
    (h : (s.stage k).owner = some id) (hc : check s = true) :
    commitWith k id check apply s = (.ok, (apply s).release k) := by simp [commitWith, h, hc]

/-- The owner's COMMIT that fails the block's check discards the stage. -/
theorem commitWith_rejects {k id : Nat} {check : State → Bool} {apply : State → State} {s : State}
    (h : (s.stage k).owner = some id) (hc : check s = false) :
    commitWith k id check apply s = (.stageReject, s.release k) := by simp [commitWith, h, hc]

/-- COMMIT by the initiator whose stage was discarded is TIMEOUT, once. -/
theorem commitWith_gone {k id : Nat} {check : State → Bool} {apply : State → State} {s : State}
    (h : (s.stage k).owner = none) (hg : (s.stage k).gone = some id) :
    commitWith k id check apply s = (.timeout, s.release k) := by simp [commitWith, h, hg]

/-- COMMIT with nothing staged is OK and changes nothing. -/
theorem commitWith_free {k id : Nat} {check : State → Bool} {apply : State → State} {s : State}
    (h : (s.stage k).owner = none) (hg : (s.stage k).gone ≠ some id) :
    commitWith k id check apply s = (.ok, s) := by simp [commitWith, h, hg]

/-- Staging a value changes the stages alone. -/
theorem State.stageKey_only (s : State) (k id key v : Nat) :
    s.stageKey k id key v = { s with stages := (s.stageKey k id key v).stages } := by
  unfold State.stageKey; split <;> rfl

/-- Staging a value leaves every register field as it reads. -/
@[simp] theorem State.stageKey_g2 (s : State) (k id key v : Nat) (f : Fam) (i j : Nat) :
    (s.stageKey k id key v).g2 f i j = s.g2 f i j := by unfold State.stageKey; split <;> rfl

/-! ### Counters (R9) -/

/-- A saturating counter never passes its width. -/
theorem State.sat1_g1 (s : State) (f : Fam) (i n : Nat) (h : Tab.rising s.regs = true) :
    (s.sat1 f i n).g1 f i = min (s.g1 f i + n) (2 ^ f.w - 1) := by
  unfold State.sat1
  rw [State.p1_g1_self _ _ _ _ h]
  exact Nat.mod_eq_of_lt (by have := Nat.two_pow_pos f.w; omega)

/-! ### Contexts and event lines (R135, R139) -/

/-- A wake touches the frond engine alone. -/
theorem wakeCtx_only (c : Nat) (v : Word) (s : State) : wakeCtx c v s = { s with seq := (wakeCtx c v s).seq } := by
  unfold wakeCtx; simp only; split <;> rfl

/-- A wake leaves every pending latch. -/
theorem wakeCtx_latch (c : Nat) (v : Word) (s : State) : (wakeCtx c v s).seq.latch = s.seq.latch := by
  unfold wakeCtx; simp only; split <;> rfl

/-- A run of wakes touches the frond engine alone, and no pending latch. -/
theorem wakeAll_only (l : List (Nat × Ctx)) (s : State) :
    l.foldl (fun t e => wakeCtx e.1 0 t) s = { s with seq := (l.foldl (fun t e => wakeCtx e.1 0 t) s).seq } ∧
      (l.foldl (fun t e => wakeCtx e.1 0 t) s).seq.latch = s.seq.latch := by
  induction l generalizing s with
  | nil => exact ⟨rfl, rfl⟩
  | cons e l ih =>
    obtain ⟨h1, h2⟩ := ih (wakeCtx e.1 0 s)
    refine ⟨?_, h2.trans (wakeCtx_latch _ _ _)⟩
    simp only [List.foldl_cons]
    rw [h1, wakeCtx_only e.1 0 s]

/-- A raise that takes effect touches the frond engine alone. -/
theorem raiseNow_only (l : Nat) (s : State) : raiseNow l s = { s with seq := (raiseNow l s).seq } := by
  have h := (wakeAll_only (waitersOn (WaitFor.onLine l false) s) s).1
  unfold raiseNow
  simp only
  generalize (waitersOn (WaitFor.onLine l false) s).foldl (fun t e => wakeCtx e.1 0 t) s = u at h ⊢
  split
  · rw [wakeCtx_only, h]
  · rw [h]

/-- A raise touches the frond engine and the edge's record alone. -/
theorem raiseLine_only (l : Nat) (s : State) :
    raiseLine l s = { s with seq := (raiseLine l s).seq, edge := (raiseLine l s).edge } := by
  unfold raiseLine
  split
  · rfl
  · split
    · rfl
    · rw [raiseNow_only]

/-- With no edge open, a raise leaves none open. -/
theorem raiseLine_edge (l : Nat) (s : State) (h : s.edge = none) : (raiseLine l s).edge = none := by
  unfold raiseLine
  split
  · exact h
  · simp only [h]
    rw [raiseNow_only]
    exact h

/-- A conditional raise touches the frond engine and the edge's record alone. -/
theorem raiseIf_only (b : Bool) (l : Nat) (s : State) :
    raiseIf b l s = { s with seq := (raiseIf b l s).seq, edge := (raiseIf b l s).edge } := by
  cases b
  · rfl
  · exact raiseLine_only l s

/-- A raise leaves every register field as it reads. -/
@[simp] theorem raiseLine_g2 (l : Nat) (s : State) (f : Fam) (i j : Nat) : (raiseLine l s).g2 f i j = s.g2 f i j := by
  rw [raiseLine_only]; rfl

/-- A raise leaves every byte of memory as it reads. -/
@[simp] theorem raiseLine_byte (l : Nat) (s : State) (a : Nat) : (raiseLine l s).byte a = s.byte a := by
  rw [raiseLine_only]; rfl

/-- Between edges, with no context waiting on the line, a raise sets its pending latch and does nothing else. -/
theorem raiseLine_latches (l : Nat) (s : State) (hh : held s = false) (he : s.edge = none)
    (h0 : waitersOn (WaitFor.onLine l false) s = []) (h1 : waitersOn (WaitFor.onLine l true) s = []) :
    raiseLine l s = { s with seq := { s.seq with latch := s.seq.latch ||| (1#256 <<< l) } } := by
  simp [raiseLine, raiseNow, hh, he, h0, h1, longest]

/-! ### Edges (R139, R426) -/

/-- Lines raised at the end of an edge touch the frond engine alone, and leave no edge open. -/
theorem raiseAll_only (l : NSet) (s : State) (h : s.edge = none) :
    l.foldl (fun u k => raiseLine k u) s = { s with seq := (l.foldl (fun u k => raiseLine k u) s).seq } := by
  induction l generalizing s with
  | nil => rfl
  | cons k l ih =>
    have e := raiseLine_edge k s h
    rw [List.foldl_cons, ih _ e, raiseLine_only k s, e, ← h]

/-- The end of an edge touches the frond engine and closes the edge. -/
theorem edgeEnd_only (s : State) : edgeEnd s = { s with seq := (edgeEnd s).seq, edge := none } := by
  unfold edgeEnd
  split
  · rw [raiseAll_only _ _ rfl]
  · next h => cases s; simp_all

/-- What happens on one edge leaves none open behind it. -/
theorem oneEdge_edge (f : State → State) (s : State) (h : s.edge = none) : (oneEdge f s).edge = none := by
  simp only [oneEdge, h, Option.isSome_none, Bool.false_eq_true, if_false]
  rw [edgeEnd_only]

/-! ### Fault events (R426 to R429) -/

/-- A stamped event touches the register file, the stamps, the frond engine and the edge's record alone. -/
theorem faultStamp_only (k : Nat) (s : State) :
    (faultStamp k s).2 = { s with
      regs := (faultStamp k s).2.regs, flt := (faultStamp k s).2.flt
      seq := (faultStamp k s).2.seq, edge := (faultStamp k s).2.edge } := by
  unfold faultStamp
  simp only
  split
  · rw [raiseLine_only]; rfl
  · rfl

/-- A fault event touches the register file, the stamps, the frond engine and the edge's record alone. -/
theorem faultPush_only (k : Nat) (s : State) :
    (faultPush k s).2 = { s with
      regs := (faultPush k s).2.regs, flt := (faultPush k s).2.flt
      seq := (faultPush k s).2.seq, edge := (faultPush k s).2.edge } := by
  unfold faultPush
  split
  · rfl
  · split
    · exact faultStamp_only k s
    · split
      · rfl
      · simp only
        split
        · rw [faultStamp_only]
        · exact faultStamp_only k _

/-! ### Issue of a Lelas instruction (R136, R137, R156 to R158) -/

/-- An instruction that the engine issues cleanly runs its body, after the count of its issue and the prefetch. -/
theorem lelasIssue_ready {r : LelasRow} {c w : Nat} {s t : State} (body : Nat → Nat → State → State)
    (h1 : lelasTurn c s = true) (h2 : ctxFetch c s = (.ok, w, t)) (h3 : r.names w = true) (h4 : lelasFault r w c s = none) :
    lelasIssue r body c s = body w c (prefetch c (lelasCount c t)) := by
  simp [lelasIssue, h1, h2, h3, h4]

/-- An instruction stopped at issue faults its context. -/
theorem lelasIssue_faults {r : LelasRow} {c w cause : Nat} {s t : State} (body : Nat → Nat → State → State)
    (h1 : lelasTurn c s = true) (h2 : ctxFetch c s = (.ok, w, t)) (h3 : r.names w = true)
    (h4 : lelasFault r w c s = some cause) :
    lelasIssue r body c s = ctxFault c cause 0 (lelasCount c t) := by
  simp [lelasIssue, h1, h2, h3, h4]

/-- A context that is not the engine's choice issues nothing. -/
theorem lelasIssue_waits {r : LelasRow} {c : Nat} {s : State} (body : Nat → Nat → State → State)
    (h1 : lelasTurn c s = false) : lelasIssue r body c s = s := by
  simp [lelasIssue, h1]

/-- The count of an issue touches the frond engine alone. -/
theorem lelasCount_only (c : Nat) (s : State) : lelasCount c s = { s with seq := (lelasCount c s).seq } := by
  unfold lelasCount; simp only; split <;> rfl

/-- The prefetch replaces the context's prefetched words and nothing else. -/
theorem prefetch_eq (c : Nat) (s : State) :
    ∃ l, prefetch c s = s.setCtx c { s.ctx c with pre := l } := ⟨_, rfl⟩

/-- The count of an issue leaves every general register. -/
@[simp] theorem lelasCount_gr (c : Nat) (s : State) (d r : Nat) : (lelasCount c s).gr d r = s.gr d r := by
  unfold lelasCount; simp only; split <;> rfl

/-- The prefetch leaves every general register. -/
@[simp] theorem prefetch_gr (c : Nat) (s : State) (d r : Nat) : (prefetch c s).gr d r = s.gr d r := rfl

end Sys2Proof.Machine
end

