-- ==== Sys2Proof/Machine/Irq.lean ====
section
/-! DEFINITION. The interrupts of the blocks: a level that stands while an enabled flag is set (R236, R264, R288, R310, R325, R326, R348, R455, R469). STM, FLT and NVS have theirs beside their registers. A block without power has its registers at reset, and so no interrupt (R79). -/

namespace Sys2Proof.Machine

/-- A flag among `mask` is set in a status register, and the bit in the same position of its enable register too. -/
def irqAt (stat ien mask : Nat) (s : State) : Bool := decide (regWord stat s &&& (regWord ien s &&& mask) ≠ 0)

/-- The string link's interrupt (R236). -/
def slkIrq (s : State) : Bool := irqAt F.slkStatKaloss.addr F.slkIenIen.addr 0x3FF s

/-- The interrupt of input `x` (R264). -/
def pstIrq (x : Nat) (s : State) : Bool :=
  irqAt (F.pstStatOc0.addr + 0x400 * x) (F.pstIenIen.addr + 0x400 * x) 0x1FFF0000 s

/-- The control engine's interrupt (R288). -/
def ceIrq (s : State) : Bool := irqAt F.ceStatOvrn.addr F.ceIenIen.addr 0x1F00 s

/-- The converters' interrupt (R310). -/
def adcIrq (s : State) : Bool := irqAt F.adcStatFail0.addr F.adcIenIen.addr 0xFF00 s

/-- SLOT_DEFERRED, HSOC or HSOT of switch `n` stands with its interrupt enabled (R326). -/
def hsIrq (n : Nat) (s : State) : Bool :=
  s.b1 F.hkrHsCtrlIen n && (s.b1 F.hkrHsStatSlotDeferred n || s.b1 F.hkrHsStatHsoc n || s.b1 F.hkrHsStatHsot n)

/-- The HKR interrupt: an enabled rail fault, or an enabled flag of a switch (R325, R326). -/
def hkrIrq (s : State) : Bool :=
  irqAt F.hkrRailfltUv.addr F.hkrIenIen.addr 0x1FFFFFF s || (List.range 8).any (fun n => hsIrq n s)

/-- The charger's interrupt: an enabled latched bit, or an enabled fault flag (R348). -/
def chgIrq (s : State) : Bool :=
  irqAt F.chgStatPhchg.addr F.chgIenIen.addr 0xF0000 s || irqAt F.chgFltBatov.addr F.chgIenIen.addr 0x3F s

/-- The RTC interrupt (R455). -/
def rtcIrq (s : State) : Bool := irqAt F.rtcStatTvalid.addr F.rtcIenIen.addr 0x7F00 s

/-- The fan's interrupt (R469). -/
def fanIrq (s : State) : Bool := irqAt F.fanStatFanStall.addr F.fanIenIen.addr 0xFFF0000 s

end Sys2Proof.Machine
end

