-- ==== Sys2Proof/WellFormed.lean ====
section
/-! DEFINITION. Which commands the block can be given: what the operand types leave open. -/

namespace Sys2Proof

/-- An ID that a port can emit once boot is done: never 4, and 15 is the boot ROM's (R109, R110). -/
def portId (id : Id) : Bool := decide (id ≠ 4) && decide (id ≠ 15)

/-- A second initiator on the same edge is another one (R480). -/
def rivalId (id : Id) : Option Id → Bool
  | none => true
  | some o => portId o && decide (o ≠ id)

/-- A value fits an access of 2^size bytes (R115). -/
def fitsSize (size : Fin 4) (v : BitVec 64) : Bool := decide (v.toNat < 2 ^ (8 * 2 ^ size.val))

/-- A stage that exists: one per block with RWS fields, one per power-stage input (R127). -/
def stageNumber (k : Fin 40) : Bool :=
  [1, 2, 4, 5, 8, 9, 11, 12, 13, 14, 17, 18].contains k.val || decide (32 ≤ k.val)

/-- A received frame has at least one byte and at most a header, 48 bytes of payload, a MAC and a CRC (R206). -/
def frameBytes (bytes : List Byte) : Bool := decide (0 < bytes.length) && decide (bytes.length ≤ 68)

/-- Whether a command is well formed. -/
def wellFormed (i : Instr) : Bool :=
  match i with
  | .registerWrite id _ size v _ => portId id && fitsSize size v
  | .rcRead id _ _ _ => portId id
  | .stagedWrite id _ _ => portId id
  | .stageDiscard k => stageNumber k
  | .bulkPromote _ => true
  | .powerOnReset => true
  | .brownOutReset _ _ _ => true
  | .borRelease => true
  | .clockMonitorTrip _ => true
  | .glitchMonitorTrip _ => true
  | .heldOffEntry _ => true
  | .supplyWarning => true
  | .vhvRise => true
  | .pinReset _ => true
  | .watchdogService id _ => portId id
  | .watchdogExpiry _ => true
  | .softwareResetRequest id _ => portId id
  | .softwareReset _ => true
  | .lifeCycleReset _ => true
  | .bootStart vsel _ => decide (vsel.length = 8)
  | .defaultSeqTimeout => true
  | .bootEnd => true
  | .xtalQualified => true
  | .xtalLost => true
  | .stmCommit id => portId id
  | .stmIncWrite id _ => portId id
  | .stmSetcWrite id _ => portId id
  | .stmNowcRead id => portId id
  | .rippleReferenceEvent _ _ => true
  | .referenceMissing => true
  | .holdoverExpiry => true
  | .cycleBoundary => true
  | .scheduledEventFire => true
  | .domctlWrite id _ => portId id
  | .domainPowerGood => true
  | .sleepEnter id _ => portId id
  | .wake _ => true
  | .sysGpWrite id _ _ rival => portId id && rivalId id (rival.map (·.1))
  | .ctxStart id => portId id
  | .ctxStop id => portId id
  | .ctxClear id => portId id
  | .seqSignalWrite id _ => portId id
  | .semForcedRelease id _ _ => portId id
  | .instructionRetire _ _ => true
  | .waitTimeout _ => true
  | .lelasAdd _ => true
  | .lelasSub _ => true
  | .lelasAnd _ => true
  | .lelasOr _ => true
  | .lelasXor _ => true
  | .lelasShl _ => true
  | .lelasShr _ => true
  | .lelasSar _ => true
  | .lelasMul _ => true
  | .lelasMulhs _ => true
  | .lelasMulhu _ => true
  | .lelasSlt _ => true
  | .lelasSltu _ => true
  | .lelasSeq _ => true
  | .lelasMins _ => true
  | .lelasMaxs _ => true
  | .lelasAddi _ => true
  | .lelasAndi _ => true
  | .lelasOri _ => true
  | .lelasXori _ => true
  | .lelasShli _ => true
  | .lelasShri _ => true
  | .lelasSari _ => true
  | .lelasSlti _ => true
  | .lelasSltui _ => true
  | .lelasSeqi _ => true
  | .lelasLui _ => true
  | .lelasLi _ => true
  | .lelasLdw _ => true
  | .lelasLdhu _ => true
  | .lelasLdhs _ => true
  | .lelasLdbu _ => true
  | .lelasLdbs _ => true
  | .lelasLdd _ => true
  | .lelasLdwc _ => true
  | .lelasStw _ => true
  | .lelasSth _ => true
  | .lelasStb _ => true
  | .lelasStd _ => true
  | .lelasStwc _ => true
  | .lelasBeq _ => true
  | .lelasBne _ => true
  | .lelasBlt _ => true
  | .lelasBge _ => true
  | .lelasBltu _ => true
  | .lelasBgeu _ => true
  | .lelasJmp _ => true
  | .lelasCall _ => true
  | .lelasJr _ => true
  | .lelasCallr _ => true
  | .lelasRet _ => true
  | .lelasWait _ => true
  | .lelasWaitt _ => true
  | .lelasSignal _ => true
  | .lelasSema _ => true
  | .lelasSemr _ => true
  | .lelasTime _ => true
  | .lelasSelf _ => true
  | .lelasJtake _ => true
  | .lelasJmark _ => true
  | .lelasJdone _ => true
  | .lelasJfail _ => true
  | .lelasSend _ => true
  | .lelasClaim _ rival => rival.all (fun r => portId r.1)
  | .lelasFree _ => true
  | .lelasTrap _ => true
  | .acceptanceRequest _ => true
  | .urgboxLoad => true
  | .entryWriteDone _ => true
  | .journalWriteComplete _ _ => true
  | .entryRetire => true
  | .controlBlockWrite => true
  | .hostSubmit id => portId id
  | .hostQuery id _ => portId id
  | .jnlCommit id => portId id
  | .beaconRx _ _ bytes => frameBytes bytes
  | .commandRx _ bytes => frameBytes bytes
  | .replyRx _ _ bytes => frameBytes bytes
  | .appRx _ _ bytes => frameBytes bytes
  | .peerAppRx _ _ bytes => frameBytes bytes
  | .joinRx _ bytes => frameBytes bytes
  | .assignRx _ bytes => frameBytes bytes
  | .keyloadRx _ bytes => frameBytes bytes
  | .preambleDetect _ _ => true
  | .frameTxStart _ => true
  | .frameTxEnd _ => true
  | .joinSend => true
  | .keepaliveLoss => true
  | .mediumDriverFault _ => true
  | .mediumSilence _ => true
  | .mediumRestore _ => true
  | .rxPop id => portId id
  | .forget id _ => portId id
  | .slkCommit id => portId id
  | .modeOff id _ _ => portId id
  | .modeBuck id _ _ => portId id
  | .modeBoost id _ _ => portId id
  | .modeBuckBoost id _ _ => portId id
  | .modePass id _ _ => portId id
  | .modeSafe id _ _ => portId id
  | .pwmPeriodStart _ _ _ => true
  | .updatePoint _ _ => true
  | .pwmTrigger _ _ => true
  | .slewStep => true
  | .softStartTimeout _ => true
  | .presenceDetected _ => true
  | .presenceLost _ => true
  | .overcurrentTrip _ _ => true
  | .overvoltageTrip _ _ => true
  | .undervoltageTrip _ => true
  | .driverFault _ => true
  | .pstForceWrite id _ => portId id
  | .bypassWrite id _ => portId id
  | .safeDwellExpiry _ => true
  | .balanceWindowEnd _ => true
  | .syncinEdge gap _ => decide (0 < gap)
  | .syncEdgeMissing _ => true
  | .syncSlewStep => true
  | .pstCommit id _ => portId id
  | .stimeTrigger => true
  | .instanceDispatch _ => true
  | .instanceRelease _ => true
  | .ceMac _ => true
  | .ceMsu _ => true
  | .ceMul _ => true
  | .ceMacr _ => true
  | .ceMulr _ => true
  | .ceAda _ => true
  | .ceLda _ => true
  | .ceCla _ => true
  | .ceAsr _ => true
  | .ceSat _ => true
  | .ceSatw _ => true
  | .ceAdd _ => true
  | .ceSub _ => true
  | .ceMin _ => true
  | .ceMax _ => true
  | .ceMov _ => true
  | .ceSel _ => true
  | .ceLdi _ => true
  | .ceRdp _ => true
  | .ceWrp _ => true
  | .cePre _ => true
  | .ceNop _ => true
  | .ceCommit id => portId id
  | .failoverProofDone => true
  | .ceSpWrite id _ _ => portId id
  | .ceIdataAccess id _ => portId id
  | .traceArm id _ => portId id
  | .traceForce id _ => portId id
  | .traceStop id _ => portId id
  | .trcTrigEdge => true
  | .trcOwnWrite id _ _ rival => portId id && rivalId id (rival.map (·.1))
  | .conversionResult _ _ _ _ _ _ => true
  | .nextOneshot id _ _ => portId id
  | .holdOn id _ _ _ => portId id
  | .holdOff id _ => portId id
  | .fifoPop id _ => portId id
  | .windowArm id _ _ => portId id
  | .windowStop id _ _ => portId id
  | .calZero id _ _ _ _ => portId id
  | .calFull id _ _ _ _ => portId id
  | .calSet id _ _ _ _ => portId id
  | .calCommandDone _ _ => true
  | .calTableLoadDone _ => true
  | .selfCheck _ _ _ _ => true
  | .converterFail _ _ _ _ => true
  | .converterRestore id _ => portId id
  | .adcCommit id => portId id
  | .railVsetWrite id _ _ => portId id
  | .railEnableWrite id _ _ => portId id
  | .railPowerGood _ => true
  | .railPgLoss _ => true
  | .railUvFault _ => true
  | .railOcFault _ => true
  | .hsCtrlWrite id _ _ => portId id
  | .slotArm id _ _ => portId id
  | .slotStop id _ _ => portId id
  | .slotNow id _ _ => portId id
  | .switchOvercurrent _ _ => true
  | .switchThermal _ => true
  | .chargerTick _ _ _ _ => true
  | .cellPresenceChange _ => true
  | .ntcJudge _ => true
  | .powerPathToVpre => true
  | .chgCommit id => portId id
  | .lineOperationDone _ => true
  | .nvsCommit id => portId id
  | .dmaAddressWrite id _ _ _ => portId id
  | .dmaStart id _ => portId id
  | .dmaAbort id _ => portId id
  | .dmaKick id _ => portId id
  | .dmaRelease id _ => portId id
  | .dmaIssue => true
  | .dmaAccessDone _ => true
  | .dmaStarvation _ => true
  | .dmaCommit id => portId id
  | .hostWriteTransaction _ _ _ => true
  | .hostReadTransaction _ _ _ => true
  | .busFree _ => true
  | .stretchLimit _ => true
  | .clockLowTimeout => true
  | .dataLowTimeout => true
  | .alertResponse _ => true
  | .alertSw id _ => portId id
  | .addressMatchWake _ => true
  | .twbCommit id => portId id
  | .twb2OwnWrite id _ rival => portId id && rivalId id (rival.map (·.1))
  | .twb2Go id _ _ _ _ => portId id
  | .twb2TransferDone _ _ rx => decide (rx.length ≤ 16)
  | .otpProgram id _ _ => portId id
  | .otpBurnDone _ _ => true
  | .otpRbadvWrite id _ => portId id
  | .lcsTransitionRequest id _ _ => portId id
  | .transitionDone _ => true
  | .mailboxProgram id => portId id
  | .mailboxTransition id => portId id
  | .mailboxAnalysis id => portId id
  | .tapExtest _ => true
  | .tapSamplePreload _ _ => true
  | .tapIdcode _ => true
  | .tapDebug _ => true
  | .tapVtest _ => true
  | .tapBypass _ => true
  | .sha256 id _ => portId id
  | .aesEncrypt id _ => portId id
  | .aesCmac id _ => portId id
  | .ecdsaVerify id _ => portId id
  | .derive id _ => portId id
  | .random id _ => portId id
  | .cryCommandDone => true
  | .keyLoad id _ => portId id
  | .keyClear id _ => portId id
  | .trngHealthFail => true
  | .trngStartupPass => true
  | .severeClear id _ => portId id
  | .safePinChange _ _ => true
  | .discrepancyLatch => true
  | .discrepancyClear id => portId id
  | .rtcSnapshotRead id => portId id
  | .rtcCommit id => portId id
  | .trimStart id _ _ => portId id
  | .trimWindowClose _ => true
  | .trimAbort id _ _ => portId id
  | .alarmFire _ => true
  | .oscStop => true
  | .fanRegulatorStep _ _ _ _ => true
  | .zoneEvaluation => true
  | .zoneStale _ => true
  | .loopTimeout => true
  | .startStepEnd _ => true
  | .backoffExpiry => true
  | .bemfLost => true
  | .tachLost => true
  | .signalStall => true
  | .bridgeOvercurrent => true
  | .bridgeOvertemp => true
  | .fanVmUndervoltage => true
  | .fanCommit id => portId id
  | .tmrOwnWrite id _ _ rival => portId id && rivalId id (rival.map (·.1))
  | .timerWrap _ => true
  | .timerCompare _ => true
  | .timerCapture _ _ => true
  | .frameDropped _ bytes _ => frameBytes bytes
  | .receptionStart _ _ => true
  | .txDriverFaultEnd _ => true
  | .fanVmReturn => true
  | .vhvFall => true
  | .d0PowerLoss => true
  | .domainOffComplete => true
  | .oscResume => true

end Sys2Proof
end

