-- ==== Sys2Proof/Tests/Slice0.lean ====
section
/-! SUPPORT. Tests: ill-formed commands, the spec's field notes and decided cases, and for each obligation states that meet its hypotheses. -/

open Sys2Proof Sys2Proof.Machine

namespace Sys2Proof.Tests

set_option Elab.async false

/-! ### Small states -/

/-- Awake in OPEN, boot done, every domain at power good; HOST, FD1 (ID 7) and FD2 (ID 8) have every right. -/
def live : State :=
  { ({} : State) with
    pow := { phase := .running }
    regs := (F.sysBootstatDone.key 0 0, 1) ::
      ((List.range 28).flatMap (fun t => [0, 7, 8].map (fun i => (F.accEntryRights.key t i, 0xFFF))) ++
        [(F.hkrDomctlOn.key 0 0, 0xFFFF), (F.hkrDomstatPg.key 0 0, 0xFFFF), (F.lcsStateState.key 0 0, 1)]) }

/-- It meets the invariant, and its registers read as they should. -/
theorem live_sound : live.sound = true ∧ live.g F.hkrDomstatPg = 0xFFFF ∧ live.g F.hkrDomctlOn = 0xFFFF ∧
    live.g F.lcsStateState = 1 ∧ live.b F.sysBootstatDone = true ∧ (∀ t < 28, rightsOf t 7 live = 0xFFF) := by decide +kernel

/-- The state after a command. -/
def after (c : Instr) (s : State) : State :=
  match exec c s with
  | .next t => t
  | _ => s

/-- The state after several commands. -/
def run (cs : List Instr) (s : State) : State := cs.foldl (fun t c => after c t) s

/-- The code a command answers with. -/
def codeOf (c : Instr) (s : State) : Code := (after c s).resp.code

/-- A 32-bit write of a register. -/
def wr (id : Id) (reg v : Nat) : Instr := .registerWrite id (BitVec.ofNat 32 reg) 2 (BitVec.ofNat 64 v) none

/-- A 64-bit write of memory. -/
def wr64 (id : Id) (a v : Nat) : Instr := .registerWrite id (BitVec.ofNat 32 a) 3 (BitVec.ofNat 64 v) none

/-- What a 32-bit read of a register answers. -/
def readOf (id : Id) (reg : Nat) (s : State) : Nat := (after (.rcRead id (BitVec.ofNat 32 reg) 2 0) s).resp.data

/-- Context 40 of FD1 is READY at address 0, where `w` stands. -/
def frond (w : Nat) (s : State) : State := (after (wr64 0 0 w) s).setCtx 40 { st := .ready, dom := 1, pri := 1 }

/-- Input `x` runs in mode `m`. -/
def inMode (x m : Nat) (s : State) : State := (s.p1 F.pstStatMode x m).p1 F.pstModeMode x m

/-- String time stands at a cycle and phase. -/
def atTime (cycle phase : Nat) (s : State) : State :=
  { s with stm := { s.stm with acc := BitVec.ofNat 80 (cycle * 2 ^ 48 + phase * 2 ^ 32) } }

/-- Stage `k` belongs to an owner, with values staged. -/
def staged (k owner : Nat) (vals : Tab Nat) (s : State) : State := s.setStage k { owner := some owner, gone := none, vals := vals }

/-- Both converters have read their tables and are in service. -/
def converters (s : State) : State :=
  ((s.modConv 0 (fun c => { c with loaded := true })).modConv 1 (fun c => { c with loaded := true })).p F.adcStatOk0 1 |>.p F.adcStatOk1 1

/-! ### Ill-formed commands -/

/-- No port emits ID 4 (R110). -/
theorem test_ill_port : wellFormed (.rcRead 4 0 2 0) = false := by decide
/-- ID 15 is the boot ROM's (R110). -/
theorem test_ill_boot_id : wellFormed (.stmCommit 15) = false := by decide
/-- A rival on the same edge is another initiator (R480). -/
theorem test_ill_rival : wellFormed (.tmrOwnWrite 7 2 true (some (7, true))) = false := by decide
/-- A value fits its access (R115). -/
theorem test_ill_size : wellFormed (.registerWrite 0 0 0 256 none) = false := by decide
/-- A stage exists (R127). -/
theorem test_ill_stage : wellFormed (.stageDiscard 0) = false := by decide
/-- A frame has at most 68 bytes (R206). -/
theorem test_ill_frame : wellFormed (.commandRx true (List.replicate 69 0)) = false := by decide
/-- Eight straps are sensed (R94). -/
theorem test_ill_straps : wellFormed (.bootStart [60] false) = false := by decide
/-- SYNCIN edges lie apart (R260). -/
theorem test_ill_gap : wellFormed (.syncinEdge 0 0) = false := by decide
/-- A transfer of the second port receives at most 16 bytes (R397). -/
theorem test_ill_rx : wellFormed (.twb2TransferDone 0 0 (List.replicate 17 0)) = false := by decide
/-- A well-formed command of each shape. -/
theorem test_well_formed : wellFormed (.registerWrite 0 0x40001018 2 5 (some (0, 0))) = true ∧ wellFormed (.stageDiscard 39) = true ∧
    wellFormed (.tmrOwnWrite 7 2 true (some (0, true))) = true := by decide

/-! ### Field notes and decided cases of the spec -/

/-- R1: the part's identity. -/
theorem test_chipid : readOf 0 0x40000000 live = 0x0816B100 := by decide +kernel
/-- R132's field note: a denied write of input C's block by the host. -/
theorem test_denied_report : (let s := live.p2 F.accEntryRights 12 0 0x249
    let t := after (wr 0 0x40006800 1) s
    (t.resp.code, readOf 7 0x40002010 t, readOf 7 0x40002014 t)) = (.denied, 0x2C0, 0x40006800) := by decide +kernel
/-- Decided case of chapter 05: an 8-bit write of a peripheral register is INVALID. -/
theorem test_narrow_write : codeOf (.registerWrite 0 0x40001018 0 1 none) live = .invalid := by decide +kernel
/-- Decided case of chapter 23: an unmapped register. -/
theorem test_unmapped_read : (after (.rcRead 0 0x40005300 2 0) live).resp = ⟨.invalid, 0⟩ := by decide +kernel
/-- Decided case of chapter 02: STM_SETC in beacon lock is DENIED. -/
theorem test_setc_locked : codeOf (.stmSetcWrite 0 5) ((live.p F.stmStatState 2).p F.stmCfgSrc 2) = .denied := by decide +kernel
/-- Chapter 02, field note: HOLDOVER longer than LIMIT ends in FREE with HOLD_EXP. -/
theorem test_holdover_expiry : (let t := after .holdoverExpiry ((live.p F.stmStatState 3).p F.stmPherrHcnt 51)
    (t.g F.stmStatState, t.g F.stmStatHoldExp)) = (0, 1) := by decide +kernel
/-- Decided case of chapter 03: GP6 stays the host's. -/
theorem test_gp_busy : (let s := after (.sysGpWrite 0 6 0x10000 none) live
    (codeOf (.sysGpWrite 7 6 0x10003 none) s, (after (.sysGpWrite 7 6 0x10003 none) s).g1 F.sysGpOwner 6)) = (.busy, 0) := by
  decide +kernel
/-- Decided case of chapter 03: on one edge DRV_EN ranks above GPIO. -/
theorem test_gp_rank : (let t := after (.sysGpWrite 7 0 0x10000 (some (0, 0x10001))) live
    (t.resp.code, t.g1 F.sysGpOwner 0, t.g1 F.sysGpFunc 0)) = (.busy, 0, 1) := by decide +kernel
/-- Field note of chapter 03: seven domains go off at dusk. -/
theorem test_dusk : (let t := after (.domctlWrite 0 0xBC0F) live
    (t.resp.code, t.g F.hkrDomctlOn, t.pow.offs)) = (.ok, 0xBC0F, [4, 5, 6, 7, 8, 9, 14]) := by decide +kernel
/-- Decided case of chapter 03: bits 4 to 6 are refused while input B is in BUCK. -/
theorem test_domctl_refused : (let t := after (.domctlWrite 0 0xFF8F) (inMode 1 1 live)
    (t.resp.code, t.g F.hkrDomctlOn, t.g F.hkrDomstatRefused)) = (.busy, 0xFFFF, 1) := by decide +kernel
/-- Decided case of chapter 03: no sleep with input A in PASS. -/
theorem test_sleep_busy : codeOf (.sleepEnter 0 2) (inMode 0 4 live) = .busy := by decide +kernel
/-- Decided case of chapter 04: a clock monitor's trip shows BOR and CLKMON. -/
theorem test_clock_monitor : (let t := after (.clockMonitorTrip []) live
    (t.g F.sysRstcauseBor, t.g F.sysRstcauseClkmon)) = (1, 1) := by decide +kernel
/-- Decided case of chapter 04: no bypass exit under a SAFE demand. -/
theorem test_bypass_busy : (let t := after (.bypassWrite 0 false) (live.p F.fltSafestatDemand 1)
    (t.resp.code, t.g F.pstBypByp)) = (.busy, 1) := by decide +kernel
/-- Decided case of chapter 06: SEM_ORDER with code 0x09. -/
theorem test_sem_order : (let s := frond (0x33 * 2 ^ 26 + 2 * 2 ^ 22 + 1 * 2 ^ 18 + 3) (live.p1 F.seqSemRank 3 4)
    let t := after (.lelasSema 40) (s.setCtx 40 { s.ctx 40 with held := 36 })
    ((t.ctx 40).st, (t.ctx 40).cause, (t.ctx 40).code, t.g F.seqStatOrder)) = (.fault, 6, 9, 1) := by decide +kernel
/-- Decided case of chapter 06: a WAITT on a past stamp answers its lateness, 16. -/
theorem test_waitt_late : (let s := (atTime 90100 16 (frond 0xC4914000 live)).setGr 40 4 90100#32
    let t := after (.lelasWaitt 40) s
    (t.gr 40 2, (t.ctx 40).st)) = (16#32, .ready) := by decide +kernel
/-- Decided case of chapter 06: a foreign context cannot be stopped. -/
theorem test_foreign_stop : codeOf (.ctxStop 8) (after (wr 8 0x40003010 40) (live.setCtx 40 { st := .ready, dom := 1 })) =
    .denied := by decide +kernel
/-- Decided case of chapter 06: the registers of a context in WAIT are busy. -/
theorem test_context_ram_busy : codeOf (wr 0 (0x30000000 + 64 * 40 + 20) 7)
    (live.setCtx 40 { st := .wait, dom := 1, wait := some (.event 16 false 3 0) }) = .busy := by decide +kernel
/-- R176's field note: LUI g1, 0x10000 is 0x3041_0000. -/
theorem test_lui_word : (after (.lelasLui 40) (frond 0x30410000 live)).gr 40 1 = 0x40000000#32 := by decide +kernel
/-- R176's field note: ORI g1, g1, 0x1000 is 0x1044_1000. -/
theorem test_ori_word : (after (.lelasOri 40) ((frond 0x10441000 live).setGr 40 1 0x40000000#32)).gr 40 1 = 0x40001000#32 := by
  decide +kernel
/-- R176's field note: WAIT g3, g6, line 16, EDGE is 0xC0D8_1000. -/
theorem test_wait_word : ((after (.lelasWait 40) ((frond 0xC0D81000 live).setGr 40 6 500#32)).ctx 40).wait =
    some (.event 16 false 3 96000) := by decide +kernel
/-- Decided case of chapter 07: SHLI with IMM 0x20 is ILLEGAL. -/
theorem test_shli_illegal : (let t := after (.lelasShli 40) (frond (0x06 * 2 ^ 26 + 1 * 2 ^ 22 + 0x20) live)
    ((t.ctx 40).st, (t.ctx 40).cause)) = (.fault, 1) := by decide +kernel
/-- Decided case of chapter 07: LDD needs an even RD. -/
theorem test_ldd_odd : ((after (.lelasLdd 40) (frond (0x15 * 2 ^ 26 + 5 * 2 ^ 22) live)).ctx 40).cause = 1 := by decide +kernel
/-- Decided case of chapter 07: STH to a peripheral register ends in DATA with code 0x03. -/
theorem test_sth_peripheral : (let s := (frond (0x19 * 2 ^ 26 + 2 * 2 ^ 22 + 1 * 2 ^ 18) live).setGr 40 1 0x40001000#32
    let t := run [.lelasSth 40, .instructionRetire 40 none] s
    ((t.ctx 40).cause, (t.ctx 40).code)) = (3, 3) := by decide +kernel
/-- Decided case of chapter 07: STWC of a poisoned word answers INTEGRITY and faults nothing. -/
theorem test_stwc_poison : (let s := (frond (0x1C * 2 ^ 26 + 2 * 2 ^ 22 + 1 * 2 ^ 18) live).setGr 40 1 0x8000#32
    let t := run [.lelasStwc 40, .instructionRetire 40 none] s
    ((t.ctx 40).st, t.gr 40 3)) = (.ready, BitVec.ofNat 32 Code.integrity.num) := by decide +kernel
/-- Decided case of chapter 07: STD repairs it. -/
theorem test_std_repairs : (let s := (frond (0x1B * 2 ^ 26 + 2 * 2 ^ 22 + 1 * 2 ^ 18) live).setGr 40 1 0x8000#32
    NSet.has (run [.lelasStd 40, .instructionRetire 40 none] s).sramGood 0x1000) = true := by decide +kernel
/-- Decided case of chapter 07: CALLR with eight addresses stacked is STACK_OVER. -/
theorem test_stack_over : (let s := frond (0x29 * 2 ^ 26 + 1 * 2 ^ 18) live
    let t := after (.lelasCallr 40) (s.setCtx 40 { s.ctx 40 with stack := List.replicate 8 4 })
    ((t.ctx 40).cause, (t.ctx 40).pc, (t.ctx 40).stack.length)) = (4, 0, 8) := by decide +kernel
/-- Decided case of chapter 08: a second submission is BUSY. -/
theorem test_submit_busy : codeOf (.hostSubmit 0) (live.p F.jnlHstatPend 1) = .busy := by decide +kernel
/-- Decided case of chapter 10: PST_C_DB0 is DENIED to a frond. -/
theorem test_shadow_denied : codeOf (wr 7 (F.pstDb0Duty.reg 2) 5) live = .denied := by decide +kernel
/-- Decided case of chapter 10: P of 2 000 is rejected. -/
theorem test_period_rejected : codeOf (.pstCommit 0 2) (after (wr 0 (F.pstPerPer.reg 2) 2000) live) = .stageReject := by
  decide +kernel
/-- Decided case of chapter 10: MODE 0b110 is INVALID. -/
theorem test_mode_invalid : codeOf (wr 0 (F.pstModeMode.reg 0) 6) live = .invalid := by decide +kernel
/-- Decided case of chapter 10: PST_FORCE sits in D1. -/
theorem test_force_d1 : codeOf (.pstForceWrite 0 true) (live.p F.hkrDomstatPg 0xFF7F) = .ok := by decide +kernel
/-- Decided case of chapter 11: FD1 configures a buffer the host holds. -/
theorem test_trace_busy : codeOf (wr 7 (F.trcCfgPrg.reg 2) 1) (after (.trcOwnWrite 0 2 true none) live) = .busy := by decide +kernel
/-- Decided case of chapter 12: a fifth one-shot is BUSY. -/
theorem test_fifth_oneshot : (let t := run (List.replicate 4 (.nextOneshot 0 0 3)) live
    (t.resp.code, codeOf (.nextOneshot 0 0 3) t)) = (.ok, .busy) := by decide +kernel
/-- Decided case of chapter 12: an empty window. -/
theorem test_window_empty : codeOf (.windowArm 0 0 false) live = .emptyWindow := by decide +kernel
/-- Chapter 12, field note: FULL computes 0x4012_9EC7 and writes it at 0x1002_1014. -/
theorem test_full_gain : (let s := run [.calZero 0 0 2 false 10, .calCommandDone (61 * 1024 + 256) false] (converters live)
    let s := run [wr 0 F.adcCalvalVal.reg 0x1AAB, .calFull 0 0 2 false 10, .calCommandDone (6880 * 1024 + 512) false] s
    (s.word 0x10021010, s.word 0x10021014, s.g F.adcCalstatCode)) = (0x3D40, 0x40129EC7, 0) := by decide +kernel
/-- Decided case of chapter 13: 1 805 mV is no step of a buck. -/
theorem test_vset_invalid : codeOf (.railVsetWrite 0 3 1805) (live.p F.hkrStrapmodeReg 8) =
    .invalid := by decide +kernel
/-- Decided case of chapter 13: STOP with nothing armed counts and is OK. -/
theorem test_slot_orphan : (let t := after (.slotStop 0 0 true) live
    (t.resp.code, t.g1 F.hkrHsStatOrphan 0)) = (.ok, 1) := by decide +kernel
/-- Decided case of chapter 14: CHEM 0b11 is rejected. -/
theorem test_chem_rejected : codeOf (.chgCommit 0) (after (wr 0 F.chgCfgChem.reg 3) (live.p F.chgCtlEn 1)) = .stageReject := by
  decide +kernel
/-- Decided case of chapter 15: an unaligned line address is rejected. -/
theorem test_line_rejected : codeOf (.nvsCommit 0) (after (wr 0 F.nvsLaddrAddr.reg 0x10022044) live) = .stageReject := by
  decide +kernel
/-- Decided case of chapter 15: a commit of the calibration area is DENIED. -/
theorem test_line_denied : codeOf (.nvsCommit 0) (after (wr 0 F.nvsLaddrAddr.reg 0x10021000) live) = .denied := by decide +kernel
/-- Decided case of chapter 16: the host's write takes the channel from FD2. -/
theorem test_channel_owner : codeOf (.dmaStart 8 5) (run [.dmaAddressWrite 8 5 false 0x100, .dmaAddressWrite 0 5 false 0x200] live) =
    .denied := by decide +kernel
/-- Decided case of chapter 16: START with CNT 0 is INVALID. -/
theorem test_start_empty : codeOf (.dmaStart 8 5) (after (.dmaAddressWrite 8 5 false 0x100) live) = .invalid := by decide +kernel
/-- Field note of chapter 17: the watchdog's service over the bus. -/
theorem test_bus_service : (run [.busFree false, .hostWriteTransaction 0x26 [0x40, 0, 0, 0x1C, 0x5A, 0xC3, 0, 0] .stop]
    { live with pow := { live.pow with wdt := 9 } }).pow.wdt = 0 := by decide +kernel
/-- Field note of chapter 17: the identity over the bus, and the pointer behind it. -/
theorem test_bus_identity : (let t := run [.busFree false, .hostWriteTransaction 0x26 [0x40, 0, 0, 0] .rstart,
      .hostReadTransaction 0x26 3 .stop] live
    (t.twb.sent, t.g F.twbPtrPtr)) = ([0x00, 0xB1, 0x16, 0x08], 0x40000004) := by decide +kernel
/-- Decided case of chapter 17: a write of SYS_CHIPID over the bus. -/
theorem test_bus_denied : (let t := run [.busFree false, .hostWriteTransaction 0x26 [0x40, 0, 0, 0, 1, 0, 0, 0] .stop] live
    (t.g F.twbStatAccerr, t.g F.twbLastCode, t.g F.twbLastDir)) = (1, 1, 1) := by decide +kernel
/-- Decided case of chapter 17: ADDR 0x0C is rejected. -/
theorem test_alert_address : codeOf (.twbCommit 0) (after (wr 0 F.twbCfgAddr.reg 0x0C) live) = .stageReject := by decide +kernel
/-- Decided case of chapter 18: a direct program in SEALED. -/
theorem test_sealed_program : codeOf (.otpProgram 0 false 0x0B17)
    (((live.p F.lcsStateState 2).p F.otpPaddrOfs 0x1400).p F.otpPdataData 1) = .lifecycle := by decide +kernel
/-- Decided case of chapter 18: KLOCK covers DKV. -/
theorem test_klock : codeOf (.otpProgram 0 false 0x0B17)
    (((live.p F.otpLockLocks 2).p F.otpPaddrOfs 0x820).p F.otpPdataData 0xFF00) = .denied := by decide +kernel
/-- Decided case of chapter 18: OTP_RBADV 14 burns bit 13, and 15 is DENIED. -/
theorem test_rbadv : (let s := ((live.p F.lcsStateState 2).p F.lcsRbrunRbver 14).p F.lcsRbcntCount 13
    ((after (.otpRbadvWrite 0 14) s).sec.cmd, codeOf (.otpRbadvWrite 0 15) s)) =
    (some (.program 0x410 0x2000 false (some 14)), .denied) := by decide +kernel
/-- Decided case of chapter 18: another initiator's key slot. -/
theorem test_foreign_slot : codeOf (.aesCmac 8 1) (after (.keyLoad 7 1) live) = .denied := by decide +kernel
/-- R417: the identification register. -/
theorem test_idcode : (after (.tapIdcode true) live).resp.data = 0x208165CB := by decide +kernel
/-- Decided case of chapter 18: EXTEST takes input C to OFF and BYP high. -/
theorem test_extest : (let t := after (.tapExtest true) ((inMode 2 1 live).p F.pstBypByp 0)
    (t.g1 F.pstStatMode 2, t.g F.pstBypByp)) = (0, 1) := by decide +kernel
/-- Decided case of chapter 18: after a health failure the nonce reads zero and LCS_AGO is BUSY. -/
theorem test_trng_failed : (let s := ((live.p1 F.lcsNonceNonce 0 5).p F.lcsAcmdOp 3).p F.lcsStateState 3
    let t := after .trngHealthFail (s.modSec (fun x => { x with lo := [(0x1F8, 1)], hi := [(0x1F8, 1)] }))
    (readOf 0 (F.lcsNonceNonce.reg 0) t, codeOf (.mailboxAnalysis 0) t)) = (0, .busy) := by decide +kernel
/-- FIPS 180-4's example: SHA-256 of "abc". -/
theorem test_sha256 : sha256 [0x61, 0x62, 0x63] = [0xBA, 0x78, 0x16, 0xBF, 0x8F, 0x01, 0xCF, 0xEA, 0x41, 0x41, 0x40, 0xDE,
    0x5D, 0xAE, 0x22, 0x23, 0xB0, 0x03, 0x61, 0xA3, 0x96, 0x17, 0x7A, 0x9C, 0xB4, 0x10, 0xFF, 0x61, 0xF2, 0x00, 0x15, 0xAD] := by
  decide +kernel
/-- FIPS 197's example: AES-128. -/
theorem test_aes : beNum (aes (bytes16 0x000102030405060708090A0B0C0D0E0F) (bytes16 0x00112233445566778899AABBCCDDEEFF)) =
    0x69C4E0D86A7B0430D8CDB78070B4C55A := by decide +kernel
/-- Decided case of chapter 19: a severe bit stays while its source has a flag. -/
theorem test_severe_clear : (let t := after (.severeClear 0 0x84) ((live.p F.fltSevSev 0x84).p1 F.pstStatOc1 2 1)
    (t.resp.code, t.g F.fltSevSev)) = (.busy, 0x80) := by decide +kernel
/-- Decided case of chapter 19: DISCREPANCY stays while SAFE_B reads high. -/
theorem test_discrepancy_stays : (run [.safePinChange true true, .discrepancyClear 0] (live.p F.fltSafestatDiscrepancy 1)).g
    F.fltSafestatDiscrepancy = 1 := by decide +kernel
/-- Decided case of chapter 20: a commit over alarm 0's target fires it, not late, at the next crystal edge. -/
theorem test_rtc_commit_alarm : (let s := (((live.p F.rtcStatOscok 1).p F.rtcSecSec 1000).p1 F.rtcAlmCtlEn 0 1).p1 F.rtcAlmTimeA 0 1500
    let t := crystalTick (run [wr 0 F.rtcSetsecSec.reg 2000, .rtcCommit 0] s)
    (t.g F.rtcSecSec, t.g F.rtcStatAlmf0, t.g F.rtcStatLate0)) = (2000, 1, 0) := by decide +kernel
/-- Decided case of chapter 20: alarm 1 enabled late moves on to 1 860. -/
theorem test_alarm_late : (let s := ((live.p F.rtcStatOscok 1).p F.rtcSecSec 1800).p1 F.rtcAlmTimeA 1 1500
    let t := run [wr 0 (F.rtcAlmCtlEn.reg 1) (60 * 256 + 1), .alarmFire 1] s
    (t.g F.rtcStatAlmf1, t.g F.rtcStatLate1, t.g1 F.rtcAlmTimeA 1)) = (1, 1, 1860) := by decide +kernel
/-- Decided case of chapter 20: TRIM of 20 000 is INVALID. -/
theorem test_trim_invalid : codeOf (wr 0 F.rtcTrimTrim.reg 20000) live = .invalid := by decide +kernel
/-- Decided case of chapter 21: MINSPD above MAXSPD is rejected. -/
theorem test_fan_rejected : codeOf (.fanCommit 0) (after (wr 0 F.fanSpdMinspd.reg (5000 + 4000 * 65536)) live) = .stageReject := by
  decide +kernel
/-- Chapter 21, field note: at code 11 776 the zone asks for 1 919 rpm. -/
theorem test_zone_curve : (let s := run [wr 0 0x40012100 0x3F, wr 0 0x40012104 0x2CAB2A00, wr 0 0x40012108 0x32003000,
      wr 0 0x4001210C 0x04B00000, wr 0 0x40012110 0x0FA00BB8, .fanCommit 0] live
    zoneDemand 0 { s with adc := { s.adc with code := [(zoneChan 0 s, 11776)] } }) = 1919 := by decide +kernel
/-- Decided case of chapter 22: two claims of TM2 on one edge. -/
theorem test_timer_rivals : (let t := after (.tmrOwnWrite 7 2 true (some (0, true))) live
    (t.resp.code, t.g1 F.tmrOwnOwner 2)) = (.busy, 0) := by decide +kernel
/-- Decided case of chapter 22: a release is applied before a claim. -/
theorem test_release_first : (let t := run [.trcOwnWrite 7 1 true none, .trcOwnWrite 8 1 true (some (7, false))] live
    (t.resp.code, t.g1 F.trcOwnOwner 1)) = (.ok, 8) := by decide +kernel
/-- Decided case of chapter 23: an unclaimed timer. -/
theorem test_timer_unclaimed : codeOf (wr 7 (F.tmrCmpCmp.reg 3) 4) live = .notClaimed := by decide +kernel


/-! ### Every hypothesis can be met: a witness for each obligation -/

/-- `Reaches` as a test. -/
def reach (id : Id) (reg : Nat) (k : AccKind) (s : State) : Bool :=
  idLive id s && mapped reg && granted id reg k s && widthOk reg 4 && domUp (domainOf reg) s && decide (rivals (targetOf reg s).1 s = [])

/-- The test answers `Reaches`. -/
theorem reaches_of {id : Id} {reg : Nat} {k : AccKind} {s : State} (h : reach id reg k s = true) : Reaches id reg k s := by
  simpa [reach, Reaches, and_assoc] using h

/-- `LelasReady` as a test. -/
def ready (r : LelasRow) (c : Sys2Proof.Ctx) (w : Nat) (s : State) : Bool :=
  s.sound && lelasTurn c s && decide (ctxFetch c s = (.ok, w, s)) && r.names w && decide (lelasFault r w c s = none)

/-- The test answers `LelasReady`. -/
theorem ready_of {r : LelasRow} {c : Sys2Proof.Ctx} {w : Nat} {s : State} (h : ready r c w s = true) : LelasReady r c w s := by
  simpa [ready, LelasReady, and_assoc] using h

/-- A port that is not live, and one that is. -/
def dead : State := { live with pow := { live.pow with phase := .dark } }

/-- Domain `n` is not at power good. -/
def without (n : Nat) (s : State) : State := s.p F.hkrDomstatPg (s.g F.hkrDomstatPg - 2 ^ n)

/-- StepTakesFront, StepKeepsSound: a front command, none, and a sound state. -/
theorem witness_StepTakesFront : ({ live with pending := [.stmCommit 0, .xtalLost] } : State).pending = .stmCommit 0 :: [.xtalLost] ∧
    live.pending = [] ∧ ({ live with pending := [.xtalLost] } : State).sound = true ∧
    (match step { live with pending := [.xtalLost] } with | .next t => t.sound | _ => false) = true := by decide +kernel

/-- BusRefusalOrder: each refusal of R122, in its order. -/
theorem witness_BusRefusalOrder : idLive 0 dead = false ∧ idLive 0 live = true ∧ mapped 0xFFFFFFFF = false ∧
    mapped 0x40001018 = true ∧
    granted 2 0x40001018 .write live = false ∧
    granted 2 0x40001018 .read live = false ∧ idLive 2 live = true ∧ granted 0 0x40001018 .write live = true ∧
    widthOk 0x40001018 1 = false ∧ widthOk 0x40001018 4 = true ∧ domUp (domainOf 0x40001018) (without 1 live) = false ∧
    granted 0 0x40001018 .write (without 1 live) = true ∧ granted 0 0x40001018 .read (without 1 live) = true ∧
    idLive 0 (without 1 live) = true ∧ (∀ s ∈ [live, without 1 live], rivals (targetOf 0x40001018 s).1 s = []) := by decide +kernel

/-- SramAccess: the first and the last word of SRAM verify. -/
theorem witness_SramAccess : (let s := after (wr64 0 0xFFFF8 7) (after (wr64 0 0 5) live);
    s.sound = true ∧ idLive 0 s = true ∧ 0xFFFF8 % 2 ^ 3 = 0 ∧ 0xFFFFF % 2 ^ 0 = 0 ∧ ∀ a ∈ [0, 0xFFFF8, 0xFFFFF],
      a < 0x100000 ∧ domUp (domainOf a) s = true ∧ rivals (targetOf a s).1 s = [] ∧ NSet.has s.sramGood (a / 8) = true ∧ NSet.has s.sramOne (a / 8) = false ∧
      granted 0 a .write s = true ∧ granted 0 a .read s = true) := by decide +kernel

/-- SramPoison: the first and the last word of SRAM are poisoned. -/
theorem witness_SramPoison : ∀ a ∈ [0, 0xFFFF8], idLive 7 live = true ∧ a < 0x100000 ∧ a % 2 ^ 2 = 0 ∧ a % 2 ^ 3 = 0 ∧
    domUp (domainOf a) live = true ∧ rivals (targetOf a live).1 live = [] ∧ NSet.has live.sramGood (a / 8) = false ∧ granted 7 a .read live = true ∧
    granted 7 a .write live = true := by decide +kernel

/-- RcFieldsClear: every register of the list can be read. -/
theorem witness_RcFieldsClear : ∀ f ∈ rcFields, live.sound = true ∧ Reaches 0 f.reg .read live :=
  fun _ h => ⟨by decide +kernel, reaches_of (List.all_eq_true.1 (show rcFields.all (fun f => reach 0 f.reg .read live) = true by
    decide +kernel) _ h)⟩

/-- RacedWrites: every flag of the list can be written; an input in LOCKOUT and a locked NVS controller, with no fault flag. -/
theorem witness_RacedWrites : (∀ f ∈ racedFlags, live.sound = true ∧ Reaches 0 f.reg .write live) ∧
    (let s := live.p1 F.pstStatLockout 7 1; s.sound = true ∧ reach 0 (F.pstStatOv.reg 7) .write s = true ∧
      s.g1 F.pstStatLockout 7 = 1 ∧ pstFaulted 7 s = false) ∧
    (let s := live.p F.nvsStatWlock 1; s.sound = true ∧ reach 0 F.nvsStatInteg.reg .write s = true ∧
      s.g F.nvsStatWlock = 1 ∧ s.b F.nvsStatInteg = false ∧ s.b F.nvsStatKeybad = false) :=
  ⟨fun _ h => ⟨by decide +kernel, reaches_of (List.all_eq_true.1 (show racedFlags.all (fun f => reach 0 f.reg .write live) = true by
    decide +kernel) _ h)⟩, by decide +kernel, by decide +kernel⟩

/-- StagedWrites: every register of the list can be written, with its stage held by another initiator and free. -/
theorem witness_StagedWrites : ∀ r ∈ stagedRegs, Reaches 0 r.1 .write live ∧ live.stageHeld r.2 0 = false ∧
    Reaches 0 r.1 .write (staged r.2 7 [] live) ∧ (staged r.2 7 [] live).stageHeld r.2 0 = true := by
  intro r h
  have := List.all_eq_true.1 (show stagedRegs.all (fun r => reach 0 r.1 .write live && !live.stageHeld r.2 0 &&
    (reach 0 r.1 .write (staged r.2 7 [] live) && (staged r.2 7 [] live).stageHeld r.2 0)) = true by decide +kernel) r h
  simp only [Bool.and_eq_true, Bool.not_eq_true'] at this
  exact ⟨reaches_of this.1.1, this.1.2, reaches_of this.2.1, this.2.2⟩

/-- StageDiscarded: the first and the last stage have an owner. -/
theorem witness_StageDiscarded : awake live = true ∧ ∀ k : Fin 40, ((staged k 7 [] live).stage k).owner = some 7 ∧
    awake (staged k 7 [] live) = true := by decide +kernel

/-- A COMMIT row's clauses: another owner; its own stage that passes, and one that does not; a discarded stage; none. -/
def commitMet (reg k : Nat) (check : State → Bool) (bad : Tab Nat) : Bool :=
  let ok := fun s => reach 0 reg .write s
  let gone := fun g => live.setStage k { owner := none, gone := g, vals := [] }
  ok (staged k 7 [] live) && ok (staged k 0 [] live) && check (staged k 0 [] live) && ok (staged k 0 bad live) &&
    !check (staged k 0 bad live) && ok (gone (some 0)) && ok (gone none)

/-- CommitRows: for every row. The fields refused: SRC 3, HOLD 0, MARGIN 0, SIGNED on a single-ended channel, ICHG 0, a size of 1 entry, an address below 8, no pole pair. -/
theorem witness_CommitRows : commitMet F.stmCommitCommit.reg 1 stmCheck [(F.stmCfgSrc.key 0 0, 3)] = true ∧
    commitMet F.jnlCommitCommit.reg 4 jnlCheck [(F.jnlCfgHold.key 0 0, 0)] = true ∧
    commitMet F.slkCommitCommit.reg 5 slkCheck [(F.slkCfgMargin.key 0 0, 0)] = true ∧
    commitMet F.adcCommitCommit.reg 9 adcCheck [(F.adcChSigned.key 0 0, 1)] = true ∧
    commitMet F.chgCommitCommit.reg 11 chgCheck [(F.chgCfgIchg.key 0 0, 0)] = true ∧
    commitMet F.dmaCommitCommit.reg 13 dmaCheck [(F.dmaChRsizeSize.key 3 0, 1)] = true ∧
    commitMet F.twbCommitCommit.reg 14 twbCheck [(F.twbCfgAddr.key 0 0, 2)] = true ∧
    commitMet F.fanCommitCommit.reg 18 fanCheck [(F.fanCfgPoles.key 0 0, 0)] = true := by decide +kernel

/-- ProvenCommits: an input with no program bound and one with an enabled program and a changed period; program sets that are sound, unsound and too long; a line that is accepted; an RTC commit. -/
theorem witness_ProvenCommits :
    (reach 0 (F.pstCommitCommit.reg 7) .write (staged 39 0 [] live) = true ∧ (∀ n < 32, progTrig live.ce.idx n = none) ∧
      (let s := staged 39 0 [(F.pstPerPer.key 7 0, 4096)] { live with ce := { live.ce with idx := [(0x300C, 1 + 2 + 7 * 2 ^ 16 + 2 ^ 19)] } };
        reach 0 (F.pstCommitCommit.reg 7) .write s = true ∧ (s.stage 39).owner = some 0 ∧ progEn s.ce.idx 3 = true ∧
          progTrig s.ce.idx 3 = some (.pwm 7 1) ∧ (stagedWin 7 s).period ≠ (winOf 7 s).period) ∧
      pstCheck 7 (staged 39 0 [] live) = true ∧ pstCheck 7 (staged 39 0 [(F.pstPerPer.key 7 0, 3071)] live) = false) ∧
    (reach 0 F.ceCommitCommit.reg .write (staged 8 0 [] live) = true ∧
      ceSetOk (ceMerged (staged 8 0 [] live)) = true ∧ ceSetOk (ceMerged (staged 8 0 [(0x3000, 1)] live)) = false) ∧
    (let s := staged 12 0 [(F.nvsLaddrAddr.key 0 0, 0x1007FFE0)] live;
      reach 0 F.nvsCommitCommit.reg .write s = true ∧ s.sv 12 F.nvsLaddrAddr = 0x1007FFE0 ∧ laddrOk 0x1007FFE0 = true ∧
        granted 0 0x1007FFE0 .write s = true ∧ nvsPrivate 0x1007FFE0 = false ∧ s.b F.nvsStatWlock = false ∧ s.nvs.q.length < 4) ∧
    (let s := staged 17 0 [(F.rtcSetsecSec.key 0 0, 5)] live;
      reach 0 F.rtcCommitCommit.reg .write s = true ∧ s.b F.rtcStatLockout = false ∧ (s.stage 17).owner = some 0 ∧
        (s.p F.rtcStatLockout 1).b F.rtcStatLockout = true ∧ reach 0 F.rtcCommitCommit.reg .write (s.p F.rtcStatLockout 1) = true) := by decide +kernel

/-- StagedValuesApplied: a stage with a value. -/
theorem witness_StagedValuesApplied : (let s := staged 1 0 [(F.stmCfgSrc.key 0 0, 2)] live;
    s.sound = true ∧ (fieldOfKey (F.stmCfgSrc.key 0 0)).map Fld.key = some (F.stmCfgSrc.key 0 0) ∧
      Tab.rising (s.stage 1).vals = true ∧ Tab.get (s.stage 1).vals (F.stmCfgSrc.key 0 0) = some 2) := by decide +kernel

/-- WarmResets: the conditions of a pin reset, a watchdog reset at its count, and a requested one; another reset under way, and sleep. -/
theorem witness_WarmResets : (live.sound = true ∧ live.nvs.q = [] ∧ live.sec.cmd = none ∧ awake live = true) ∧
    (let s := { ((live.p F.sysWdtctlEn 1).p F.sysWdtctlTimeout 10) with pow := { live.pow with wdt := 1920000 } };
      s.sound = true ∧ awake s = true ∧ s.b F.sysWdtctlEn = true ∧ 192000 * s.g F.sysWdtctlTimeout ≤ s.pow.wdt) ∧
    (let s : State := { live with pow := { live.pow with swr := true } };
      s.sound = true ∧ awake s = true ∧ s.pow.swr = true) ∧
    State.reset.pow.phase = .inReset .por ∧ ({ live with pow := { live.pow with phase := .asleep } } : State).pow.phase = .asleep := by
  decide +kernel

/-- DeepResets: every cause of one cycle stands together; the held-off and dark phases, a brown-out on VHV and on another supply, a life-cycle reset, a held BOR. -/
theorem witness_DeepResets : (let s : State := { (live.p F.sysWdtctlEn 1).p F.sysWdtctlTimeout 10 with pow := { live.pow with wdt := 1920000, swr := true, lcr := true } };
      s.sound = true ∧ awake s = true ∧ s.pow.vhv = true ∧
        ∀ c ∈ [Cause.supply 0, .supply 3, .clock, .glitch, .lcr, .pin, .wdr, .swr], causeStands s c = true) ∧ (∃ s : State, s.pow.phase = .heldOff) ∧ dead.pow.phase = .dark ∧ awake live = true ∧
    live.pow.vhv = true ∧ (3 : Fin 4) ≠ 0 ∧ awake { live with pow := { live.pow with lcr := true } } = true ∧
    (∃ s : State, s.pow.phase = .borHeld) :=
  ⟨by decide +kernel, ⟨{ live with pow := { live.pow with phase := .heldOff } }, rfl⟩, rfl, by decide +kernel, by decide +kernel, by decide,
    by decide +kernel, ⟨{ live with pow := { live.pow with phase := .borHeld } }, rfl⟩⟩

/-- SupplyEvents: VHV is gone while the block is awake, and in sleep with WK_VHV; a supply warning with and without a qualified cell. -/
theorem witness_SupplyEvents : (let s : State := { live with pow := { live.pow with vhv := false } };
    let z : State := { s.p F.hkrSleepWkVhv 1 with pow := { s.pow with phase := .asleep } }
    awake s = true ∧ d1Powered s = true ∧ s.sound = true ∧ s.pow.vhv = false ∧ s.pow.phase ≠ .asleep ∧ s.pow.phase ≠ .dark ∧
      s.b F.chgStatPath = false ∧ s.pow.low = false ∧ (s.p F.chgStatQual 1).b F.chgStatQual = true ∧
      waitersOn (WaitFor.onLine 4 false) s = [] ∧ waitersOn (WaitFor.onLine 4 true) s = [] ∧
      d1Powered z = true ∧ z.pow.vhv = false ∧ z.sound = true ∧ z.pow.phase = .asleep ∧ z.b F.hkrSleepWkVhv = true) := by decide +kernel

/-- BootLedger: a reset, a running block, a rail that boot waits for, and the end of boot with and without an image. -/
theorem witness_BootLedger : (State.reset.sound = true ∧ State.reset.pow.phase = .inReset .por ∧ State.reset.g F.sysBootstatStep = 0) ∧ (live.pow.phase = .running) ∧
    (let s : State := { live with pow := { live.pow with phase := .booting, rail := some 3 } };
      awake s = true ∧ s.pow.rail = some 3 ∧ s.sound = true ∧ s.g F.sysBootstatStep ≤ 11) ∧
    (∀ r : Bool, let s : State := { live with pow := { live.pow with phase := .booting, release := r } };
      s.sound = true ∧ s.pow.phase = .booting ∧ s.g F.lcsStateState ≠ 0 ∧ s.pow.rail = none ∧ s.g F.sysBootstatStep ≤ 11 ∧ s.pow.release = r) := by
  decide +kernel

/-- SoftwareResetKey, WatchdogService: both registers can be written. -/
theorem witness_SystemKeys : Reaches 0 F.sysRstreqKey.reg .write live ∧ Reaches 0 F.sysWdtsvcSvc.reg .write live :=
  ⟨reaches_of (by decide +kernel), reaches_of (by decide +kernel)⟩

/-- DomainSwitching: switching with and without a transition pending, off with what permits it and without, the last domain going off, and one coming up. -/
theorem witness_DomainSwitching : (let s := (live.p F.hkrDomctlOn 0xB80F).p F.hkrDomstatPg 0xB80F;
    reach 0 F.hkrDomctlOn.reg .write s = true ∧ s.b F.hkrDomstatBusy = false ∧ s.sound = true ∧
      (∀ n < 16, (s.g F.hkrDomctlOn).testBit n = true → (0xFFFF ||| 0x8803).testBit n = true) ∧
      (s.p F.hkrDomstatBusy 1).b F.hkrDomstatBusy = true ∧ reach 0 F.hkrDomctlOn.reg .write (s.p F.hkrDomstatBusy 1) = true) ∧
    (let met := fun (ask : Nat) (s : State) => (List.range 16).all (fun n => !(s.g F.hkrDomctlOn).testBit n || (ask ||| 0x8803).testBit n || mayOff (ask ||| 0x8803) n s);
      met 0xBC0F live = true ∧ met 0xFF8F (inMode 1 1 live) = false ∧ live.sound = true ∧ (inMode 1 1 live).sound = true ∧
        reach 0 F.hkrDomctlOn.reg .write live = true ∧ reach 0 F.hkrDomctlOn.reg .write (inMode 1 1 live) = true) ∧
    (let s : State := { live with pow := { live.pow with offs := [4] } };
      awake s = true ∧ s.pow.offs.getLast? = some 4) ∧
    (let s : State := { live with pow := { live.pow with ons := [9, 10] } };
      awake s = true ∧ s.pow.offs = [] ∧ s.pow.ons = 9 :: [10] ∧ s.sound = true ∧ 9 ∈ [9, 10, 13]) := by decide +kernel

/-- SleepAndWake: a block with no work, one with an input running, and a sleeping one with a wake source on and off. -/
theorem witness_SleepAndWake : Reaches 0 F.hkrSleepEnter.reg .write live ∧ sleepBusy (live) = false ∧
    Reaches 0 F.hkrSleepEnter.reg .write (inMode 3 2 live) ∧ sleepBusy (inMode 3 2 live) = true ∧ (1 : BitVec 4) ≠ 0 ∧
    (let s : State := { live.p F.hkrSleepWkSafe 1 with pow := { live.pow with phase := .asleep } };
      s.pow.phase = .asleep ∧ s.sound = true ∧ ∀ f ∈ [F.hkrSleepWkTwb, F.hkrSleepWkRtc, F.hkrSleepWkVhv, F.hkrSleepWkSafe], (s.p f 0).b f = false ∧ (s.p f 1).b f = true) ∧ live.pow.phase ≠ .asleep :=
  ⟨reaches_of (by decide +kernel), by decide +kernel, reaches_of (by decide +kernel), by decide +kernel, by decide,
    by decide +kernel, by decide +kernel⟩

/-- GpPinWrites: a legal claim of the last pin, an undefined encoding, another holder, a two-wire line and a timer without their claims, a release of an own and of a free pin. -/
theorem witness_GpPinWrites : Reaches 7 (F.sysGpFunc.reg 23) .write live ∧ live.sound = true ∧
    (gpFuncOk 23 0 = true ∧ (0x10000 : Nat) / 4 % 4 ≠ 3 ∧ live.g1 F.sysGpHeld 23 = 0 ∧ gpNeedsClaim 23 0 7 live = false ∧
      (0x10000 : Nat).testBit 16 = true ∧ (0 : Nat).testBit 16 = false) ∧
    gpFuncOk 23 1 = false ∧ gpFuncOk 18 3 = true ∧ (18 % 12 = 6 ∧ live.b F.twb2OwnHeld = false) ∧
    Reaches 7 (F.sysGpFunc.reg 18) .write live ∧
    (let s := (live.p1 F.sysGpHeld 23 1).p1 F.sysGpOwner 23 8;
      Reaches 7 (F.sysGpFunc.reg 23) .write s ∧ s.g1 F.sysGpHeld 23 ≠ 0 ∧ s.g1 F.sysGpOwner 23 ≠ 7) ∧
    (let s := (live.p1 F.sysGpHeld 23 1).p1 F.sysGpOwner 23 7;
      reach 7 (F.sysGpFunc.reg 23) .write s = true ∧ s.g1 F.sysGpHeld 23 ≠ 0 ∧ s.g1 F.sysGpOwner 23 = 7 ∧ s.sound = true ∧
        gpFuncOk 2 2 = true ∧ reach 7 (F.sysGpFunc.reg 2) .write live = true ∧ live.b1 F.tmrOwnHeld (gpTimer 2) = false) :=
  ⟨reaches_of (by decide +kernel), by decide +kernel, by decide +kernel, by decide, by decide, by decide +kernel,
    reaches_of (by decide +kernel), ⟨reaches_of (by decide +kernel), by decide +kernel, by decide +kernel⟩, by decide +kernel⟩

/-- The five cases of an owner register. -/
def ownerMet (reg n : Nat) (owner held : Fam) : Bool :=
  let mine := (live.p1 held n 1).p1 owner n 7
  let other := (live.p1 held n 1).p1 owner n 8
  reach 7 reg .write live && !live.b1 held n && (reach 7 reg .write mine && mine.b1 held n && decide (mine.g1 owner n = 7) &&
    mine.sound) && (reach 7 reg .write other && other.b1 held n && decide (other.g1 owner n ≠ 7))

/-- OwnerRegisters, RivalClaims: for every trace buffer, the port and every timer; rivals with both orders of ID. -/
theorem witness_OwnerRegisters : (∀ n : Fin 4, ownerMet (F.trcOwnHeld.reg n) n F.trcOwnOwner F.trcOwnHeld = true) ∧
    ownerMet F.twb2OwnHeld.reg 0 F.twb2OwnOwner F.twb2OwnHeld = true ∧
    (∀ n : Fin 8, ownerMet (F.tmrOwnHeld.reg n) n F.tmrOwnOwner F.tmrOwnHeld = true) ∧
    (∀ n : Fin 8, live.sound = true ∧ reach 0 (F.tmrOwnHeld.reg n) .write live = true ∧
      reach 7 (F.tmrOwnHeld.reg n) .write live = true ∧ (0 : Id) ≠ 7 ∧ live.b1 F.tmrOwnHeld n = false) ∧
    (let v : Word := 0x10000
      let w : Word := 0x10001
      reach 7 (F.sysGpFunc.reg 0) .write live = true ∧ reach 0 (F.sysGpFunc.reg 0) .write live = true ∧ live.b1 F.sysGpHeld 0 = false ∧
        v.toNat.testBit 16 = true ∧ w.toNat.testBit 16 = true ∧ v.toNat / 4 % 4 ≠ 3 ∧ w.toNat / 4 % 4 ≠ 3 ∧
        gpFuncOk 0 (v.toNat % 4) = true ∧ gpFuncOk 0 (w.toNat % 4) = true ∧ gpNeedsClaim 0 (v.toNat % 4) 7 live = false ∧
        gpNeedsClaim 0 (w.toNat % 4) 0 live = false ∧ gpRank 0 (v.toNat % 4) ≠ gpRank 0 (w.toNat % 4)) := by decide +kernel

/-- TimerEvents: at TOP, at CMP, with its pin in both capture modes, and stopped. -/
theorem witness_TimerEvents : ∀ n : Fin 8, awake live = true ∧ live.b1 F.tmrCfgEn n = false ∧
    (let s := (((live.p1 F.tmrCfgEn n 1).p1 F.tmrTopTop n 9).p1 F.tmrCmpCmp n 9).p1 F.tmrCntCnt n 9;
      awake s = true ∧ s.b1 F.tmrCfgEn n = true ∧ s.g1 F.tmrCntCnt n = s.g1 F.tmrTopTop n ∧
        s.g1 F.tmrCntCnt n = s.g1 F.tmrCmpCmp n) ∧
    (let s := ((((live.p1 F.sysGpFunc n 2).p1 F.sysGpOwner n 7).p1 F.tmrOwnHeld n 1).p1 F.tmrOwnOwner n 7);
      ∀ m ∈ [(true, 2), (false, 3)], let u := s.p1 F.tmrCfgMode n m.2;
        tmrPinned n u = true ∧ u.g1 F.tmrCfgMode n = (if m.1 then 2 else 3) ∧ u.b1 F.tmrStatCapf n = false ∧ u.sound = true ∧
          (u.p1 F.tmrStatCapf n 1).b1 F.tmrStatCapf n = true ∧ tmrPinned n (u.p1 F.tmrStatCapf n 1) = true) := by decide +kernel

/-- CrystalEvents: the crystal selected and in use, and neither. -/
theorem witness_CrystalEvents : awake live = true ∧ live.b F.stmClkSrc = false ∧ live.b F.stmClkAct = false ∧
    (live.p F.stmClkSrc 1).b F.stmClkSrc = true ∧ (live.p F.stmClkAct 1).b F.stmClkAct = true := by decide +kernel

/-- StmRegisters: FREE, and LOCKED to beacons. -/
theorem witness_StmRegisters : reach 0 F.stmIncInc.reg .write live = true ∧ live.g F.stmStatState = 0 ∧
    reach 0 F.stmSetcCycle.reg .write live = true ∧ reach 0 F.stmNowcCycle.reg .read live = true ∧
    (let s := (live.p F.stmStatState 2).p F.stmCfgSrc 2;
      reach 0 F.stmIncInc.reg .write s = true ∧ reach 0 F.stmSetcCycle.reg .write s = true ∧ s.g F.stmStatState ≠ 0 ∧
        2 ≤ s.g F.stmStatState ∧ s.g F.stmCfgSrc = 2) := by decide +kernel

/-- ReferenceEvents: the first crossing of an acquisition, one on time in LOCKED, a late event in LOCKED, a HOLDOVER past its limit. -/
theorem witness_ReferenceEvents : awake live = true ∧ live.g F.stmCfgSrc ≠ 1 ∧ live.g F.stmStatState ≠ 3 ∧
    (let a := live.g F.stmRippleMinamp;
      a ≤ a ∧ a - 1 < a ∧ sisFresh live = false ∧ sisFresh { live with stm := { live.stm with sclk := 9, sis := some 9 } } = true) ∧
    (let s : State := { (live.p F.stmCfgSrc 1).p F.stmStatState 2 with stm := { live.stm with sclk := nomCycle live, lastRef := some 0, sis := some (nomCycle live) } };
      awake s = true ∧ s.sound = true ∧ s.g F.stmCfgSrc = 1 ∧ s.g F.stmStatState = 2 ∧ sisFresh s = true ∧ s.stm.lastRef = some 0 ∧
        (let gap := s.stm.sclk - 0 - 0;
          2 * gap < 3 * nomCycle s ∧ 96 * nomCycle s ≤ 100 * gap ∧ 100 * gap ≤ 104 * nomCycle s) ∧
        within (phaseError (accAt 0 s)) (s.g F.stmThrUnlockPh) = true) ∧
    (let s : State := { (live.p F.stmCfgSrc 1).p F.stmStatState 1 with stm := { live.stm with sclk := 1000, acqStep := 1 } };
      awake s = true ∧ s.sound = true ∧ s.g F.stmCfgSrc = 1 ∧ s.g F.stmStatState = 1 ∧ s.stm.lastRef = none ∧
        s.stm.acqStep = 1 ∧ s.stm.acqN = 0 ∧ 0 < s.stm.sclk ∧ 999 < s.stm.sclk) ∧
    (let s : State := { (live.p F.stmCfgSrc 1).p F.stmStatState 2 with stm := { live.stm with sclk := 9000000, lastRef := some 0 } };
      awake s = true ∧ s.sound = true ∧ s.stm.lastRef = some 0 ∧ s.g F.stmStatState = 2 ∧
        (5 + 4 * s.stm.missed) * (if s.g F.stmCfgSrc = 2 then 4 * nomCycle s else nomCycle s) < 4 * (s.stm.sclk - 0) ∧
        s.stm.missRun + 1 < s.g F.stmThrMissN ∧
        s.g F.stmThrMissN ≤ ({ s with stm := { s.stm with missRun := s.g F.stmThrMissN } } : State).stm.missRun + 1) ∧
    (let s : State := { (live.p F.stmCfgSrc 1).p F.stmStatState 2 with stm := { live.stm with sclk := 960000, lastRef := some 0 } };
      awake s = true ∧ s.sound = true ∧ s.g F.stmCfgSrc = 1 ∧ s.g F.stmStatState = 2 ∧ s.stm.lastRef = some 0 ∧
        s.stm.missRun + 1 < s.g F.stmThrMissN ∧
        100 * (s.stm.sclk - 0 - 0) < 96 * max 1 ((2 * (s.stm.sclk - 0 - 0) + nomCycle s) / (2 * nomCycle s)) * nomCycle s) ∧
    (let s := (live.p F.stmStatState 3).p F.stmPherrHcnt (live.g F.stmHoldLimit + 1);
      awake s = true ∧ s.g F.stmStatState = 3 ∧ s.g F.stmHoldLimit < s.g F.stmPherrHcnt) := by decide +kernel

/-- TimeJumps: a counting accumulator, one at rest, an event on the way, and none armed. -/
theorem witness_TimeJumps : awake live = true ∧ live.stm.pause = 0 ∧ 0 < live.g F.stmIncInc ∧
    (live.p F.stmIncInc 0).g F.stmIncInc = 0 ∧ awake (live.p F.stmIncInc 0) = true ∧ armedStamps live = [] ∧
    (let s := live.setCtx 40 { st := .wait, wait := some (.time 9 2) };
      awake s = true ∧ (edgesToEvent s).isSome = true ∧ edgesToEvent s ≠ some 0 ∧ nextStop s = edgesToEvent s ∧ (stops s).contains 0 = false) ∧
    (let s := (atTime 9 3 live).setCtx 40 { st := .wait, wait := some (.time 9 2) };
      awake s = true ∧ edgesToEvent s = some 0) ∧
    ((edgesToBoundary live).isSome = true ∧ nextStop live = edgesToBoundary live ∧ (stops live).contains 0 = false ∧ live.sound = true ∧
      live.stm.slew = 0 ∧ live.stm.setc = none ∧ live.b F.sysWdtctlEn = false ∧ live.g F.stmIncInc < 2 ^ 32 ∧
      waitersOn (WaitFor.onLine 0 false) live = [] ∧ waitersOn (WaitFor.onLine 0 true) live = []) := by decide +kernel

/-- SCLK runs and a domain is at power good. -/
def runs (n : Nat) (s : State) : Bool := awake s && domUp n s

/-- A word of format R or I: OP, RD 14, RA 2, RB 6 and the low bits. -/
def lw (op low : Nat) : Nat := op * 2 ^ 26 + 14 * 2 ^ 22 + 2 * 2 ^ 18 + low

/-- LelasRegisterForms, LelasImmediateForms, LelasAccesses: every row can issue. -/
theorem witness_LelasRows : (lelasRegForms.all (fun e => ready (rowAlu e.2.1) 40 (lw 1 (6 * 2 ^ 14 + e.2.1)) (frond (lw 1 (6 * 2 ^ 14 + e.2.1)) live)) &&
    lelasImmForms.all (fun e => let w := lw e.2.1.op 0x1F &&& (0xFFFFFFFF - e.2.1.zero); ready e.2.1 40 w (frond w live)) &&
    lelasAccesses.all (fun e => let w := lw e.2.1.op 0x3FFFC; ready e.2.1 40 w (frond w live))) = true := by decide +kernel

/-- A context with a load or a store on its way to a verified word. -/
def flying (op : MemOp) (a : Nat) : State :=
  (after (wr64 0 (a / 8 * 8) 0x8877665544332211) live).setCtx 40
    { st := .run, dom := 1, pri := 1, infl := some { op := op, addr := a, rd := 3, cls := .control } }

/-- LelasAccessRetires: every width, at the first and the last address of SRAM. -/
theorem witness_LelasAccessRetires : ∀ e ∈ [(1, MemOp.load 1 true), (2, .load 2 true), (4, .load 4 false), (1, .store 1 0x91), (2, .store 2 0x91),
      (4, .store 4 0x91), (8, .store 8 0x91), (8, .loadPair), (4, .loadChecked), (4, .storeChecked 0x91)], ∀ a ∈ [0, 0x100000 - e.1],
    (let n := e.1
    let op := e.2
    let s := flying op a
    let f : InFlight := { op := op, addr := a, rd := 3, cls := .control }
    s.sound = true ∧ awake s = true ∧ (s.ctx 40).st = .run ∧ (s.ctx 40).infl = some f ∧ (s.ctx 40).stop = false ∧
      accessTurn 40 f s = true ∧ a < 0x100000 ∧ a % n = 0 ∧ domUp (domainOf a) s = true ∧
      NSet.has s.sramGood (a / 8) = true ∧ NSet.has s.sramOne (a / 8) = false ∧ granted (ctxId 40 s) a .read s = true ∧
      n ∈ [1, 2, 4, 8] ∧
      granted (ctxId 40 s) a .write s = true) := by decide +kernel

/-- LelasControlFlow: every row can issue; a stack with room, one with an address, one that is empty. -/
theorem witness_LelasControlFlow : (lelasBranches.all (fun e => ready (rowBranch e.2.1) 40 (lw e.2.1 0x3FFFE) (frond (lw e.2.1 0x3FFFE) live)) &&
    (let w := 0x26 * 2 ^ 26 + 0x3FFFFFF; ready { op := 0x26 } 40 w (frond w live)) &&
    (let w := 0x27 * 2 ^ 26 + 1; let s := frond w live
      let t := s.setCtx 40 { s.ctx 40 with stack := List.replicate 7 4 }
      ready { op := 0x27 } 40 w t && decide ((t.ctx 40).stack.length < 8)) &&
    (let w := 0x28 * 2 ^ 26 + 15 * 2 ^ 18; ready (rowReg 0x28) 40 w (frond w live)) &&
    (let w := 0x29 * 2 ^ 26; ready (rowReg 0x29) 40 w (frond w live)) &&
    (let w := 0x2A * 2 ^ 26; let s := frond w live
      let t := s.setCtx 40 { s.ctx 40 with stack := [0xFFFFFFFC, 8] }
      ready { op := 0x2A, zero := 0x3FFFFFF } 40 w t && decide ((t.ctx 40).stack = 0xFFFFFFFC :: [8]))) = true := by decide +kernel

/-- No context waits, no entry is leased. -/
def quiet (s : State) : Bool := s.sound && s.seq.ctxs.all (fun e => e.2.st ≠ .wait) && s.jnl.live.all (fun e => e.lease.isNone)

/-- LelasTraps: an encoding with bit 4 set, a ninth call, a return with an empty stack, TRAP 255 and TRAP 0. -/
theorem witness_LelasTraps :
    (let w := lw 1 0x10; let s := frond w live;
      quiet s = true ∧ lelasTurn 40 s = true ∧ ctxFetch 40 s = (.ok, w, s) ∧ urgSpent 40 s = false ∧ lwOp w = 0x01 ∧ lwFunc w = 0 ∧
        w &&& 0x3FF0 ≠ 0) ∧
    (let w := 0x27 * 2 ^ 26 + 1; let s := frond w live
      let t := s.setCtx 40 { s.ctx 40 with stack := List.replicate 8 4 }
      ready { op := 0x27 } 40 w t = true ∧ quiet t = true ∧ (t.ctx 40).stack.length = 8) ∧
    (let w := 0x2A * 2 ^ 26; let s := frond w live;
      ready { op := 0x2A, zero := 0x3FFFFFF } 40 w s = true ∧ quiet s = true ∧ (s.ctx 40).stack = []) ∧
    (∀ c ∈ [255, 1, 0], let w := 0x3F * 2 ^ 26 + c; let s := frond w live
      ready { op := 0x3F, zero := 0x3FFFF00 } 40 w s = true ∧ quiet s = true ∧ lwK w % 256 = c) := by decide +kernel

/-- LelasTimeSelfSignal, SignalLineBelow64: TIME into g14, SELF, SIGNAL of lines 64, 255, 63 and 0. -/
theorem witness_LelasTimeSelfSignal :
    (let w := 0x35 * 2 ^ 26 + 14 * 2 ^ 22; ready { op := 0x35, zero := 0x3FFFFF, even := true } 40 w (frond w live) = true) ∧
    (let w := 0x36 * 2 ^ 26 + 15 * 2 ^ 22; ready { op := 0x36, zero := 0x3FFFFF } 40 w (frond w live) = true) ∧
    (∀ l ∈ [64, 255, 63, 0], let w := 0x32 * 2 ^ 26 + l * 256; let s := frond w live
      ready { op := 0x32, zero := 0x3FF00FF } 40 w s = true ∧ lwK w / 256 = l ∧ quiet s = true) := by decide +kernel

/-- LelasWaits: a pending latch and none, a timeout of 0 and of 65 535, a stamp that is due and one ahead, a wait whose timeout elapses. -/
theorem witness_LelasWaits :
    (let w := 0xC0D81000 + 2 ^ 16; let s := frond w live; let t : State := { s with seq := { s.seq with latch := 1#256 <<< 16 } }
      let r : LelasRow := { op := 0x30, zero := 0x200FF, src := fun w => [lwRa w] }
      ready r 40 w t = true ∧ lwX w % 2 = 1 ∧ lwK w / 256 = 16 ∧ t.seq.latch.getLsbD 16 = true ∧
        ready r 40 w s = true ∧ s.seq.latch.getLsbD 16 = false ∧ (s.gr 40 (lwRa w)).toNat % 2 ^ 16 = 0 ∧
        ready r 40 w (s.setGr 40 6 0xFFFF#32) = true ∧ ((s.setGr 40 6 0xFFFF#32).gr 40 (lwRa w)).toNat % 2 ^ 16 ≠ 0) ∧
    (let w := 0xC4914000; let s := frond w live
      let r : LelasRow := { op := 0x31, zero := 0x3FFF, src := fun w => [lwRa w, lwRb w] }
      ready r 40 w s = true ∧ stampDue 0 (stampNow s) = true ∧
        ready r 40 w (s.setGr 40 4 1#32) = true ∧ stampDue (2 ^ 16) (stampNow s) = false ∧ lwRa w = 4 ∧ lwRb w = 5) ∧
    (∀ x ∈ [WaitFor.event 16 false 3 100, .sem 63 3 100, .take 2 2 100], let s := (live.p1 F.seqSemHeld 63 1).setCtx 40 { st := .wait, dom := 1, wait := some x }
      let u := edgeWork (advance 99 s)
      clocked s = true ∧ timeoutLeft 40 s = some 100 ∧ nextStop s = some 100 ∧ (stops s).contains 0 = false ∧ u.sound = true ∧
        (u.ctx 40).st = .wait ∧ timeoutLeft 40 u = some 0 ∧ u.seq.ctxs.all (fun e => decide (e.1 = 40) || decide (timeoutLeft e.1 u ≠ some 0)) = true ∧
        (u.ctx 40).wait = some x) := by decide +kernel

/-- LelasSemaphores: a free one above what is held, a held one, a release by its holder and by another. -/
theorem witness_LelasSemaphores :
    (let w := 0x33 * 2 ^ 26 + 2 * 2 ^ 22 + 1 * 2 ^ 18 + 63; let s := frond w (live.p1 F.seqSemRank 63 15)
      let t := s.setCtx 40 { s.ctx 40 with held := 2 ^ 14 }
      let r : LelasRow := { op := 0x33, zero := 0x3FFC0, src := fun w => [lwRa w] }
      t.seq.ctxs.all (fun e => e.2.st ≠ .wait && decide (e.2.urg = 0)) = true ∧ epri t 40 < 3 ∧ t.g1 F.seqSemRank 63 < 16 ∧
        (t.ctx 40).held < 2 ^ 16 ∧ ready r 40 w t = true ∧ lwK w % 64 = 63 ∧ (t.ctx 40).held / 2 ^ 15 = 0 ∧
        t.b1 F.seqSemHeld 63 = false ∧ (t.p1 F.seqSemHeld 63 1).b1 F.seqSemHeld 63 = true ∧
        ready r 40 w (t.p1 F.seqSemHeld 63 1) = true ∧ (t.gr 40 (lwRa w)).toNat % 2 ^ 16 = 0 ∧
        (let u := (t.p1 F.seqSemHeld 63 1).setGr 40 1 9#32; ready r 40 w u = true ∧ (u.gr 40 (lwRa w)).toNat % 2 ^ 16 ≠ 0 ∧
          u.seq.ctxs.all (fun e => e.2.st ≠ .wait && decide (e.2.urg = 0)) = true ∧ u.b1 F.seqSemHeld 63 = true)) ∧
    (let w := 0x34 * 2 ^ 26 + 2 * 2 ^ 22 + 5; let s := frond w ((live.p1 F.seqSemHeld 5 1).p1 F.seqSemOwner 5 40)
      let r : LelasRow := { op := 0x34, zero := 0x3FFFC0 }
      ready r 40 w s = true ∧ s.b1 F.seqSemHeld 5 = true ∧ s.g1 F.seqSemOwner 5 = 40 ∧ lwK w % 64 = 5 ∧
        ready r 40 w (s.p1 F.seqSemOwner 5 41) = true ∧ (s.p1 F.seqSemOwner 5 41).g1 F.seqSemOwner 5 ≠ 40) := by decide +kernel

/-- ContextCommands: each state a command finds, its own and a foreign context; SEQ_SIGNAL at its boundary lines. -/
theorem witness_ContextCommands : (let on := fun (x : CtxState) => live.setCtx 0 { st := x, dom := 1, pri := 1 };
    (∀ x ∈ [CtxState.halt, .ready, .run, .fault, .wait], reach 7 F.seqCtxcmdCmd.reg .write (on x) = true ∧
      selOf 7 (on x) = 0 ∧ ((on x).ctx 0).st = x ∧ selForeign 7 (on x) = false ∧ selForeign 8 (on x) = true ∧
      reach 8 F.seqCtxcmdCmd.reg .write (on x) = true ∧ (on x).seq.ctxs.all (fun e => decide (e.2.urg = 0)) = true ∧
      (on x).jnl.live.all (fun e => e.lease.isNone) = true ∧ (on x).sound = true) ∧
    reach 0 F.seqSignalLine.reg .write live = true ∧ 64 ≤ (64 : Byte).toNat ∧ (63 : Byte).toNat < 64) := by decide +kernel

/-- HeldSemaphoreRank: a held semaphore, its own rank and another, with and without FREL. -/
theorem witness_HeldSemaphoreRank : (let s := ((live.p1 F.seqSemHeld 63 1).p1 F.seqSemRank 63 15).p1 F.seqSemOwner 63 40;
    reach 0 (F.seqSemRank.reg 63) .write s = true ∧ s.b1 F.seqSemHeld 63 = true ∧ s.g1 F.seqSemRank 63 = 15 ∧
      (0x8000000F#64).toNat % 16 = 15 ∧ (0x8000000F#64).getLsbD 31 = true ∧ (15#64).getLsbD 31 = false ∧ quiet s = true) := by
  decide +kernel

/-- StampSnapshots: two initiators that may read the stamp. -/
theorem witness_StampSnapshots : Reaches 0 F.stmNowcCycle.reg .read live ∧ Reaches 7 F.stmNowcCycle.reg .read live ∧
    (0 : Id) ≠ 7 ∧ Tab.rising live.stm.snap = true :=
  ⟨reaches_of (by decide +kernel), reaches_of (by decide +kernel), by decide, by decide⟩

/-- BulkPromotion: a request of each class. -/
theorem witness_BulkPromotion : ∀ k ∈ [Cls.bulk, .urgent], (let f : InFlight := { op := .load 4 false, addr := 0, rd := 1, cls := k }
    let s := live.setCtx 40 { st := .run, dom := 1, infl := some f }
    awake s = true ∧ (s.ctx 40).st = .run ∧ (s.ctx 40).infl = some f) := by decide +kernel

/-! ### Journal and link -/

/-- The kinds, sender and request of the journal witnesses. -/
def kind7 : KindRec := ⟨7, 0, 1, false, 1, 0xF, 40⟩

/-- The journal is open; the host has sent up to SEQ 3, and this request follows. -/
def journal (r : JReq) : State :=
  { live with jnl := { live.jnl with open_ := true, kinds := [kind7], senders := [⟨0, 0, 0, 3⟩], reqs := [r] } }

/-- An entry, as accepted, in the live window. -/
def withEntry (e : JEntry) (s : State) : State := { s with jnl := { s.jnl with live := [e], next := 6, head := 5 } }

/-- HostJournalPort: HOST and another initiator, with and without a request pending, of a kind that is not LEVEL and of one that is; queries of a live, an old and a new SEQ. -/
theorem witness_HostJournalPort : (let s := withEntry { anum := 5, seq := 3 } (journal { src := 0, addr := 0, seq := 4, kind := 7, payload := [] });
    reach 0 F.jnlHgoGo.reg .write s = true ∧ reach 7 F.jnlHgoGo.reg .write s = true ∧ s.b F.jnlHstatPend = false ∧
      (s.p F.jnlHstatPend 1).b F.jnlHstatPend = true ∧ reach 0 F.jnlHgoGo.reg .write (s.p F.jnlHstatPend 1) = true ∧
      reach 0 F.jnlHqseqSeq.reg .write s = true ∧ (entryOfSeq 0 0 3 s).isSome = true ∧ entryOfSeq 0 0 2 s = none ∧
      entryOfSeq 0 0 4 s = none ∧ lastAccepted 0 0 s = some 3 ∧ s.sound = true ∧
      (let k := fun (lv : Bool) => { ((s.p F.jnlHkindKind 7).p F.jnlHseqSeq 4) with jnl := { s.jnl with kinds := [{ kind7 with level := lv }] } };
        isLevel (hostReq (k false)) (k false) = false ∧ isLevel (hostReq (k true)) (k true) = true ∧ (k true).jnl.open_ = true ∧
          repeatsWriting (hostReq (k true)) (k true) = false ∧ check1 (hostReq (k true)) (k true) = true ∧
          check2 (hostReq (k true)) (k true) = true ∧ ∀ b, reach 0 F.jnlHgoGo.reg .write (k b) = true ∧ (k b).sound = true)) := by decide +kernel

/-- JournalAcceptance: a request that is accepted, a new sender with a slot free and with none, a repeat of a live entry, an unknown kind; an entry being written, and a journal not open. -/
theorem witness_JournalAcceptance :
    (let r : JReq := { src := 0, addr := 0, seq := 4, kind := 7, payload := List.replicate 40 1 }; let s := journal r;
      runs 11 s = true ∧ s.sound = true ∧ s.jnl.writing = none ∧ s.jnl.open_ = true ∧ nextReq s = some r ∧ kindRec 7 s = some kind7 ∧
        kind7.level = false ∧ kind7.srcMask.testBit 0 = true ∧ r.payload.length ≤ kind7.lenMax ∧ lastAccepted 0 0 s = some 3 ∧
        3 < r.seq ∧ findSender 0 0 s = some ⟨0, 0, 0, 3⟩ ∧ s.g F.jnlCfgRsv < jnlFree s ∧ isSevere 3 s = false ∧
        (let n : State := { s with jnl := { s.jnl with senders := [] } };
          let f : State := { s with jnl := { s.jnl with senders := (List.range 64).map (fun k => ⟨k, 1, k, 3⟩) } };
          (∀ t ∈ [n, f], findSender 0 0 t = none ∧ runs 11 t = true ∧ t.sound = true ∧ nextReq t = some r ∧ lastAccepted 0 0 t = none) ∧
            freeSender n = some 0 ∧ freeSender f = none ∧ n.b F.nvsStatKeybad = false ∧ n.nvs.q = [] ∧ n.g F.jnlCfgRsv < jnlFree n) ∧
        ({ s with jnl := { s.jnl with reqs := [] } } : State).jnl.reqs = []) ∧
    (let r : JReq := { src := 0, addr := 0, seq := 3, kind := 7, payload := [] }; let s := withEntry { anum := 5, seq := 3 } (journal r);
      runs 11 s = true ∧ s.sound = true ∧ s.jnl.writing = none ∧ nextReq s = some r ∧ lastAccepted 0 0 s = some 3 ∧ r.seq ≤ 3 ∧
        entryOfSeq 0 0 3 s = some { anum := 5, seq := 3 } ∧ entryOfSeq 0 0 3 { s with jnl := { s.jnl with live := [] } } = none) ∧
    (let r : JReq := { src := 0, addr := 0, seq := 4, kind := 8, payload := [] }; let s := journal r;
      runs 11 s = true ∧ nextReq s = some r ∧ kindRec 8 s = none) ∧ live.jnl.open_ = false ∧ runs 11 live = true := by decide +kernel

/-- JournalEntries: an entry being written, the head that may retire, a control block due and not, a mailbox load that waits. -/
theorem witness_JournalEntries :
    (let r : JReq := { src := 0, addr := 0, seq := 4, kind := 7, payload := [] }; let s := journal r
      let t : State := { s with jnl := { s.jnl with reqs := [], writing := some (r, 2047) } }
      runs 11 t = true ∧ t.sound = true ∧ t.jnl.writing = some (r, 2047) ∧ kindRec 7 t = some kind7 ∧ kind7.level = false ∧
        t.b F.nvsStatKeybad = false ∧ t.nvs.q = [] ∧ findEntry 2047 t = none ∧ t.seq.ctxs.all (fun e => e.2.st ≠ .wait) = true) ∧
    (let e : JEntry := { anum := 5, st := .done, reported := true }; let s := atTime (4 * live.g F.jnlCfgHold) 0 (withEntry e live);
      awake s = true ∧ findEntry s.jnl.head s = some e ∧ mayRetire e s = true ∧ s.jnl.writing = none ∧
        s.jnl.next = (s.jnl.head + 1) % 2 ^ 20 ∧ s.jnl.head < 2 ^ 20) ∧
    (let s : State := { live with jnl := { live.jnl with head := 1, next := 1 } };
      runs 11 s = true ∧ s.sound = true ∧ s.b F.nvsStatKeybad = false ∧ s.jnl.senders = [] ∧ s.nvs.q = [] ∧ cbDue s = true ∧ cbDue live = false ∧
        runs 11 live = true) ∧
    (let s : State := { live with jnl := { live.jnl with open_ := true, boxes := [{ words := List.range 13 }] } };
      runs 11 s = true ∧ s.sound = true ∧ s.jnl.open_ = true ∧ s.jnl.boxes = { words := List.range 13 } :: [] ∧ ({ words := List.range 13 } : BoxLoad).again = none) := by
  decide +kernel

/-- LelasJournal: an entry on offer, no right, a leased entry in each state, an address of none, a mark whose write completes. -/
theorem witness_LelasJournal :
    (let w := 0x38 * 2 ^ 26 + 14 * 2 ^ 22 + 1; let e : JEntry := { anum := 5, seq := 3, kind := 7, cls := 1, fresh := true }
      let s := frond w (withEntry e (journal { src := 0, addr := 0, seq := 4, kind := 7, payload := [] }))
      let r : LelasRow := { op := 0x38, zero := 0x3FFFC, even := true, src := fun w => [lwRa w] }
      let t := s.p2 F.accEntryRights 10 7 0xFFE
      ready r 40 w s = true ∧ hasRight 10 0 (ctxId 40 s) .read s = true ∧ lwK w % 4 = 1 ∧ offer 1 40 1 s = some e ∧
        findEntry 5 s = some e ∧ entryLinesOk 5 s = true ∧ s.nvs.q = [] ∧ offer 1 40 1 { s with jnl := { s.jnl with live := [] } } = none ∧
        (s.gr 40 (lwRa w)).toNat % 2 ^ 16 = 0 ∧ (let u : State := (s.setGr 40 0 9#32).setGr 40 (lwRa w) 9#32; ready r 40 w u = true ∧ (u.gr 40 (lwRa w)).toNat % 2 ^ 16 ≠ 0) ∧ ready r 40 w t = true ∧ hasRight 10 0 (ctxId 40 t) .read t = false) ∧
    (∀ st ∈ [JState.accepted, .started], let e : JEntry := { anum := 5, st := st, lease := some 40 }
      let on := fun w => ((frond w (withEntry e live)).setGr 40 2 (BitVec.ofNat 32 (entryAddr 5))).setGr 40 3 5#32
      let r2 : Nat → LelasRow := fun op => { op := op, zero := 0x3FFF, src := fun w => [lwRa w, lwRb w] }
      let r1 : LelasRow := { op := 0x39, zero := 0x3FFFF, src := fun w => [lwRa w] }
      let w := fun (op rb : Nat) => op * 2 ^ 26 + 4 * 2 ^ 22 + 2 * 2 ^ 18 + rb * 2 ^ 14
      ready r1 40 (w 0x39 0) (on (w 0x39 0)) = true ∧ ready (r2 0x3A) 40 (w 0x3A 3) (on (w 0x3A 3)) = true ∧
        ready (r2 0x3B) 40 (w 0x3B 3) (on (w 0x3B 3)) = true ∧ entryAt (entryAddr 5) (on (w 0x39 0)) = some e ∧
        ((on (w 0x3B 3)).gr 40 3).toNat % 256 = 5 ∧ (((on (w 0x3B 3)).setGr 40 3 0#32).gr 40 3).toNat % 256 = 0 ∧ e.replay = false ∧ ready r1 40 (w 0x39 0) (frond (w 0x39 0) live) = true ∧
        entryAt 0 (frond (w 0x39 0) live) = none) ∧
    (let s := (withEntry { anum := 5, lease := some 40 } live).setCtx 40 { st := .wait, dom := 1, wait := some (.write 5 4 .mark) };
      runs 11 s = true ∧ s.sound = true ∧ (s.ctx 40).st = .wait ∧ (s.ctx 40).wait = some (.write 5 4 .mark) ∧
        lineOk (entryAddr 5) s = true ∧ lineOk (entryAddr 5 + 32) s = true ∧ s.nvs.q = [] ∧ Tab.rising s.nvs.lines = true ∧
        s.seq.ctxs.all (fun e => e.2.st ≠ .wait || decide (e.1 = 40)) = true ∧
        (let u := s.setCtx 40 { s.ctx 40 with wait := some (.write 5 4 (.finish true 3)) };
          (u.ctx 40).wait = some (.write 5 4 (.finish true 3)) ∧ (findEntry 5 u).map (·.src) = some 0 ∧ u.sound = true)) := by decide +kernel

/-- LelasSendClaimFree: a descriptor in the last 56 bytes of SRAM; the last timer free, held, and a class out of range. -/
theorem witness_LelasSendClaimFree :
    (let w := 0x3C * 2 ^ 26 + 14 * 2 ^ 22 + 2 * 2 ^ 18
      let m := (List.range 6).foldl (fun t i => after (wr64 0 (0xFFFD0 + 8 * i) 0) t) (after (wr64 0 0xFFFC8 (0x90 * 2 ^ 16 + 48 * 2 ^ 24)) live)
      let s := (frond w m).setGr 40 2 0xFFFC8#32
      ready { op := 0x3C, zero := 0x3FFFF, even := true, src := fun w => [lwRa w] } 40 w s = true ∧
        (s.gr 40 (lwRa w)).toNat = 0xFFFC8 ∧ (∀ i < 7, granted 7 (0xFFFC8 + 8 * i) .read s = true ∧
          domUp (domainOf (0xFFFC8 + 8 * i)) s = true ∧ NSet.has s.sramGood (0xFFFC8 / 8 + i) = true ∧
          NSet.has s.sramOne (0xFFFC8 / 8 + i) = false) ∧ ctxId 40 s = 7 ∧ hasRight 11 1 7 .write s = true ∧
        0xFFFC8 % 8 = 0 ∧ 0xFFFC8 + 56 ≤ 0x100000 ∧ sendWordOk (s.bytesLE 0xFFFC8 4) s = true ∧
        (domUp 9 s || domUp 10 s) = true ∧ sendUsed s < 16 ∧ s.b F.nvsStatKeybad = false ∧ s.nvs.q = []) ∧
    (∀ op ∈ [0x3D, 0x3E], let w := op * 2 ^ 26 + 4 * 2 ^ 22 + 0x107; let s := frond w live
      let t := frond w ((live.p1 F.tmrOwnHeld 7 1).p1 F.tmrOwnOwner 7 7)
      ready { op := op, zero := 0x3FC000 } 40 w s = true ∧ lwK w = 0x100 + 7 ∧ granted 7 (F.tmrOwnHeld.reg 7) .write s = true ∧
        domUp 1 s = true ∧ s.b1 F.tmrOwnHeld 7 = false ∧ ready { op := op, zero := 0x3FC000 } 40 w t = true ∧
        t.b1 F.tmrOwnHeld 7 = true ∧ t.g1 F.tmrOwnOwner 7 = ctxId 40 t ∧
        (0 : Id).val < ctxId 40 s ∧ reach 0 (F.tmrOwnHeld.reg 7) .write s = true) ∧
    (let w := 0x3D * 2 ^ 26 + 4 * 2 ^ 22 + 0x400; ready { op := 0x3D, zero := 0x3FC000 } 40 w (frond w live) = true ∧
      ownerReg (lwK w / 256 % 16) (lwK w % 256) = none) := by decide +kernel

/-- Address 5 of string 3 under gateway 9, with every link key; the carrier's receiver is locked. -/
def linked : State :=
  let s := (((live.p F.slkAddrValid 1).p F.slkAddrAddr 5).p F.slkGwGwaddr 9).p F.slkGwStrid 3
  { s.p F.slkCmctlCommiss 1 with
    sec := { live.sec with dev := some 7, linkKeys := [(0, 11), (1, 12), (2, 13), (3, 14)] }
    link := { live.link with car := { live.link.car with rx := some 40 } } }

/-- CMAC from its subkey. -/
theorem cmac_eq {key k1 : Nat} {m y : List Byte} (hk : dbl128 (beNum (aes (bytes16 key) (List.replicate 16 0))) = k1)
    (h : cmacGo (m.length / 16 + 1) (bytes16 key) k1 (List.replicate 16 0) m = y) : cmac key m = y := by
  subst hk; exact h

/-- One full block of CMAC. -/
theorem cmacGo_more {n k1 : Nat} {key x m y z : List Byte} (hl : 16 < m.length) (hy : aes key (xorBytes x (m.take 16)) = y)
    (h : cmacGo n key k1 y (m.drop 16) = z) : cmacGo (n + 1) key k1 x m = z := by
  simp [cmacGo, hl, hy, h]

/-- The part of a frame's judgement before its MAC. -/
def fits (bs : List Byte) (k : Nat) : Bool :=
  let f := parseFrame bs
  !(decide (10 ≤ bs.length) && decide (48 < f.len)) && decide (bs.length = 20 + f.len) &&
    decide (f.crc = crc16 (bs.take (18 + f.len))) && formatOk f && destOk f linked && !(decide (f.dtype < 3) && decide (f.src = 5)) &&
    (decide (f.dtype = 3) || decide (frameKey f.dtype f.ftype linked = some k)) &&
    !(decide (f.dtype < 3) && decide (f.ftype < 128) && decide (f.src ≠ 9)) && (windowAccept (winFam f) f.src f.seq linked.link.wins).isSome

/-- A frame that fits and whose MAC is right passes. -/
theorem passes {bs : List Byte} {k : Nat} (hd : (parseFrame bs).dtype = 3 → kd 1 linked = some k) (h : fits bs k = true)
    (hm : frameMac k (if (parseFrame bs).dtype = 3 then 0 else 3) (bs.take (10 + (parseFrame bs).len)) = (parseFrame bs).mac) :
    FramePasses false bs (parseFrame bs) 40 linked := by
  have hs : linked.g F.slkGwStrid = 3 ∧ linked.g F.slkGwGwaddr = 9 ∧ linked.g F.slkAddrAddr = 5 ∧
      (linked.b F.hkrDomstatPg = true ∧ (linked.g F.hkrDomstatPg).testBit 12 = true) := by decide +kernel
  obtain ⟨h1, h2, h3, h4⟩ := hs
  simp only [fits, Bool.and_eq_true, Bool.not_eq_true', Bool.or_eq_true, decide_eq_true_eq] at h
  obtain ⟨⟨⟨⟨⟨⟨⟨⟨a, b⟩, c⟩, d⟩, e⟩, f⟩, g⟩, i⟩, j⟩ := h
  refine ⟨⟨by decide +kernel, by decide +kernel⟩, rfl, ?_⟩
  have hk : frameKey (parseFrame bs).dtype (parseFrame bs).ftype linked = some k := by
    rcases g with g | g
    · rw [frameKey, if_pos g]; exact hd g
    · exact g
  have a' : ¬ (10 ≤ 20 + (parseFrame bs).len ∧ 48 < (parseFrame bs).len) := by
    intro x; rw [b] at a; simp [x.1, x.2] at a
  have f' : ¬ ((parseFrame bs).dtype < 3 ∧ linked.b F.slkAddrValid = true ∧ (parseFrame bs).src = linked.g F.slkAddrAddr) := by
    rw [h3]; rintro ⟨x, _, y⟩; simp [x, y] at f
  have i' : ¬ ((parseFrame bs).dtype < 3 ∧ (parseFrame bs).ftype < 128 ∧ (parseFrame bs).src ≠ linked.g F.slkGwGwaddr) := by
    rw [h2]; rintro ⟨x, y, z⟩; simp [x, y, z] at i
  have j' : (windowAccept (winFam (parseFrame bs)) (parseFrame bs).src (parseFrame bs).seq linked.link.wins).isNone = false := by
    simpa using j
  refine ⟨true, ?_⟩
  simp only [judgeFrame, if_neg a', b, c, d, e, if_neg f', h4, hk, h1, hm, if_neg i', j', ne_eq, not_true_eq_false, or_self, if_false,
    Bool.not_true, Bool.false_eq_true, and_self, if_true, and_false]

/-- The commissioning MAC key of device key 7. -/
theorem kd_mac : kd 1 linked = some 111460259018110240730045794821517608627 := by decide +kernel

/-- The CMAC subkey of a key of these frames. -/
theorem sub_1 : dbl128 (beNum (aes (bytes16 11) (List.replicate 16 0))) = 230532995599952798691494047988846181021 := by decide +kernel

/-- The CMAC subkey of a key of these frames. -/
theorem sub_2 : dbl128 (beNum (aes (bytes16 14) (List.replicate 16 0))) = 33636613204953755217039107487520384666 := by decide +kernel

/-- The CMAC subkey of a key of these frames. -/
theorem sub_3 : dbl128 (beNum (aes (bytes16 111460259018110240730045794821517608627) (List.replicate 16 0))) = 174939187766879176142584447675664490925 := by decide +kernel

/-- The CMAC subkey of a key of these frames. -/
theorem sub_4 : dbl128 (beNum (aes (bytes16 13) (List.replicate 16 0))) = 155627161369768472584511993106671956102 := by decide +kernel

/-- The bytes of a COMMAND of the gateway. -/
def cmdFrame : List Byte :=
  [0, 5, 0, 9, 2, 0, 0, 0, 7, 2, 0, 7] ++
    [246, 8, 160, 102, 9, 117, 9, 213, 36, 37]

/-- A COMMAND of the gateway passes. -/
theorem cmd_passes : FramePasses false cmdFrame (parseFrame cmdFrame) 40 linked ∧ (parseFrame cmdFrame).ftype = 2 ∧
    (windowAccept (winFam (parseFrame cmdFrame)) (parseFrame cmdFrame).src (parseFrame cmdFrame).seq linked.link.wins).isSome = true := by
  refine ⟨passes (k := 11) (by decide +kernel) (by decide +kernel) ?_, by decide +kernel, by decide +kernel⟩
  have hm : (parseFrame cmdFrame).mac = [246, 8, 160, 102, 9, 117, 9, 213] := by decide +kernel
  have hb : beBytes 2 (if (parseFrame cmdFrame).dtype = 3 then 0 else 3) ++ cmdFrame.take (10 + (parseFrame cmdFrame).len) =
      beBytes 2 3 ++ [0, 5, 0, 9, 2, 0, 0, 0, 7, 2, 0, 7] := by decide +kernel
  rw [frameMac, hb, hm, cmac_eq sub_1 (y := [246, 8, 160, 102, 9, 117, 9, 213, 54, 73, 152, 209, 197, 252, 204, 54])
    (by decide +kernel)]
  rfl

/-- The bytes of a COMMAND of a peer. -/
def pcmdFrame : List Byte :=
  [0, 5, 0, 6, 130, 0, 0, 0, 7, 2, 0, 7] ++
    [149, 91, 82, 172, 86, 142, 217, 39, 169, 212]

/-- A COMMAND of a peer passes. -/
theorem pcmd_passes : FramePasses false pcmdFrame (parseFrame pcmdFrame) 40 linked ∧ (parseFrame pcmdFrame).ftype = 0x82 ∧
    (windowAccept (winFam (parseFrame pcmdFrame)) (parseFrame pcmdFrame).src (parseFrame pcmdFrame).seq linked.link.wins).isSome = true := by
  refine ⟨passes (k := 14) (by decide +kernel) (by decide +kernel) ?_, by decide +kernel, by decide +kernel⟩
  have hm : (parseFrame pcmdFrame).mac = [149, 91, 82, 172, 86, 142, 217, 39] := by decide +kernel
  have hb : beBytes 2 (if (parseFrame pcmdFrame).dtype = 3 then 0 else 3) ++ pcmdFrame.take (10 + (parseFrame pcmdFrame).len) =
      beBytes 2 3 ++ [0, 5, 0, 6, 130, 0, 0, 0, 7, 2, 0, 7] := by decide +kernel
  rw [frameMac, hb, hm, cmac_eq sub_2 (y := [149, 91, 82, 172, 86, 142, 217, 39, 23, 230, 182, 68, 65, 45, 120, 84])
    (by decide +kernel)]
  rfl

/-- The bytes of a REPLY. -/
def replyFrame : List Byte :=
  [0, 5, 0, 9, 3, 0, 0, 0, 7, 0] ++
    [38, 176, 180, 73, 46, 76, 172, 48, 208, 119]

/-- A REPLY passes. -/
theorem reply_passes : FramePasses false replyFrame (parseFrame replyFrame) 40 linked ∧ (parseFrame replyFrame).ftype = 3 ∧
    (windowAccept (winFam (parseFrame replyFrame)) (parseFrame replyFrame).src (parseFrame replyFrame).seq linked.link.wins).isSome = true := by
  refine ⟨passes (k := 11) (by decide +kernel) (by decide +kernel) ?_, by decide +kernel, by decide +kernel⟩
  have hm : (parseFrame replyFrame).mac = [38, 176, 180, 73, 46, 76, 172, 48] := by decide +kernel
  have hb : beBytes 2 (if (parseFrame replyFrame).dtype = 3 then 0 else 3) ++ replyFrame.take (10 + (parseFrame replyFrame).len) =
      beBytes 2 3 ++ [0, 5, 0, 9, 3, 0, 0, 0, 7, 0] := by decide +kernel
  rw [frameMac, hb, hm, cmac_eq sub_1 (y := [38, 176, 180, 73, 46, 76, 172, 48, 119, 116, 99, 239, 237, 67, 254, 84])
    (by decide +kernel)]
  rfl

/-- The bytes of an APP of the gateway. -/
def appFrame : List Byte :=
  [0, 5, 0, 9, 63, 0, 0, 0, 7, 0] ++
    [233, 110, 253, 165, 146, 194, 111, 19, 103, 159]

/-- An APP of the gateway passes. -/
theorem app_passes : FramePasses false appFrame (parseFrame appFrame) 40 linked ∧ (parseFrame appFrame).ftype = 0x3F ∧
    (windowAccept (winFam (parseFrame appFrame)) (parseFrame appFrame).src (parseFrame appFrame).seq linked.link.wins).isSome = true := by
  refine ⟨passes (k := 11) (by decide +kernel) (by decide +kernel) ?_, by decide +kernel, by decide +kernel⟩
  have hm : (parseFrame appFrame).mac = [233, 110, 253, 165, 146, 194, 111, 19] := by decide +kernel
  have hb : beBytes 2 (if (parseFrame appFrame).dtype = 3 then 0 else 3) ++ appFrame.take (10 + (parseFrame appFrame).len) =
      beBytes 2 3 ++ [0, 5, 0, 9, 63, 0, 0, 0, 7, 0] := by decide +kernel
  rw [frameMac, hb, hm, cmac_eq sub_1 (y := [233, 110, 253, 165, 146, 194, 111, 19, 80, 73, 85, 149, 67, 184, 65, 200])
    (by decide +kernel)]
  rfl

/-- The bytes of an APP of a peer. -/
def pappFrame : List Byte :=
  [0, 5, 0, 6, 144, 0, 0, 0, 7, 0] ++
    [11, 94, 42, 139, 208, 235, 198, 111, 231, 52]

/-- An APP of a peer passes. -/
theorem papp_passes : FramePasses false pappFrame (parseFrame pappFrame) 40 linked ∧ (parseFrame pappFrame).ftype = 0x90 ∧
    (windowAccept (winFam (parseFrame pappFrame)) (parseFrame pappFrame).src (parseFrame pappFrame).seq linked.link.wins).isSome = true := by
  refine ⟨passes (k := 14) (by decide +kernel) (by decide +kernel) ?_, by decide +kernel, by decide +kernel⟩
  have hm : (parseFrame pappFrame).mac = [11, 94, 42, 139, 208, 235, 198, 111] := by decide +kernel
  have hb : beBytes 2 (if (parseFrame pappFrame).dtype = 3 then 0 else 3) ++ pappFrame.take (10 + (parseFrame pappFrame).len) =
      beBytes 2 3 ++ [0, 5, 0, 6, 144, 0, 0, 0, 7, 0] := by decide +kernel
  rw [frameMac, hb, hm, cmac_eq sub_2 (y := [11, 94, 42, 139, 208, 235, 198, 111, 7, 95, 112, 121, 73, 180, 26, 252])
    (by decide +kernel)]
  rfl

/-- The bytes of a JOIN. -/
def joinFrame : List Byte :=
  [192, 0, 0, 0, 4, 0, 0, 0, 7, 8, 0, 0, 0, 0, 0, 0, 0, 0] ++
    [27, 15, 34, 206, 159, 141, 122, 39, 156, 247]

/-- A JOIN passes. -/
theorem join_passes : FramePasses false joinFrame (parseFrame joinFrame) 40 linked ∧ (parseFrame joinFrame).ftype = 4 ∧
    (windowAccept (winFam (parseFrame joinFrame)) (parseFrame joinFrame).src (parseFrame joinFrame).seq linked.link.wins).isSome = true := by
  refine ⟨passes (k := 111460259018110240730045794821517608627) (fun _ => kd_mac) (by decide +kernel) ?_, by decide +kernel, by decide +kernel⟩
  have hm : (parseFrame joinFrame).mac = [27, 15, 34, 206, 159, 141, 122, 39] := by decide +kernel
  have hb : beBytes 2 (if (parseFrame joinFrame).dtype = 3 then 0 else 3) ++ joinFrame.take (10 + (parseFrame joinFrame).len) =
      beBytes 2 0 ++ [192, 0, 0, 0, 4, 0, 0, 0, 7, 8, 0, 0, 0, 0, 0, 0, 0, 0] := by decide +kernel
  rw [frameMac, hb, hm, cmac_eq sub_3 (y := [27, 15, 34, 206, 159, 141, 122, 39, 171, 38, 61, 81, 180, 170, 253, 49])
    (cmacGo_more (y := [55, 183, 110, 93, 207, 52, 205, 150, 216, 228, 2, 64, 15, 22, 19, 11]) (by decide) (by decide +kernel) (by decide +kernel))]
  rfl

/-- The bytes of a BEACON. -/
def beaconFrame : List Byte :=
  [128, 0, 0, 9, 1, 0, 0, 0, 7, 8, 0, 0, 0, 8, 2, 1, 2, 0] ++
    [184, 52, 30, 80, 136, 193, 98, 113, 174, 184]

/-- A BEACON passes. -/
theorem beacon_passes : FramePasses false beaconFrame (parseFrame beaconFrame) 40 linked ∧ (parseFrame beaconFrame).ftype = 1 ∧
    (windowAccept (winFam (parseFrame beaconFrame)) (parseFrame beaconFrame).src (parseFrame beaconFrame).seq linked.link.wins).isSome = true := by
  refine ⟨passes (k := 13) (by decide +kernel) (by decide +kernel) ?_, by decide +kernel, by decide +kernel⟩
  have hm : (parseFrame beaconFrame).mac = [184, 52, 30, 80, 136, 193, 98, 113] := by decide +kernel
  have hb : beBytes 2 (if (parseFrame beaconFrame).dtype = 3 then 0 else 3) ++ beaconFrame.take (10 + (parseFrame beaconFrame).len) =
      beBytes 2 3 ++ [128, 0, 0, 9, 1, 0, 0, 0, 7, 8, 0, 0, 0, 8, 2, 1, 2, 0] := by decide +kernel
  rw [frameMac, hb, hm, cmac_eq sub_4 (y := [184, 52, 30, 80, 136, 193, 98, 113, 251, 41, 122, 188, 68, 196, 101, 239])
    (cmacGo_more (y := [138, 237, 131, 125, 125, 101, 112, 119, 44, 56, 242, 199, 178, 250, 159, 227]) (by decide) (by decide +kernel) (by decide +kernel))]
  rfl

/-- The bytes of an ASSIGN. -/
def assignFrame : List Byte :=
  [192, 0, 0, 0, 5, 0, 0, 0, 7, 14, 0, 0, 0, 0, 0, 0, 0, 0, 0, 0, 0, 0, 0, 0] ++
    [185, 224, 195, 86, 102, 134, 210, 186, 33, 141]

/-- An ASSIGN passes. -/
theorem assign_passes : FramePasses false assignFrame (parseFrame assignFrame) 40 linked ∧ (parseFrame assignFrame).ftype = 5 ∧
    (windowAccept (winFam (parseFrame assignFrame)) (parseFrame assignFrame).src (parseFrame assignFrame).seq linked.link.wins).isSome = true := by
  refine ⟨passes (k := 111460259018110240730045794821517608627) (fun _ => kd_mac) (by decide +kernel) ?_, by decide +kernel, by decide +kernel⟩
  have hm : (parseFrame assignFrame).mac = [185, 224, 195, 86, 102, 134, 210, 186] := by decide +kernel
  have hb : beBytes 2 (if (parseFrame assignFrame).dtype = 3 then 0 else 3) ++ assignFrame.take (10 + (parseFrame assignFrame).len) =
      beBytes 2 0 ++ [192, 0, 0, 0, 5, 0, 0, 0, 7, 14, 0, 0, 0, 0, 0, 0, 0, 0, 0, 0, 0, 0, 0, 0] := by decide +kernel
  rw [frameMac, hb, hm, cmac_eq sub_3 (y := [185, 224, 195, 86, 102, 134, 210, 186, 152, 159, 54, 2, 125, 101, 41, 216])
    (cmacGo_more (y := [55, 146, 172, 144, 191, 186, 155, 243, 0, 217, 94, 124, 137, 87, 123, 26]) (by decide) (by decide +kernel) (by decide +kernel))]
  rfl

/-- The bytes of a KEYLOAD of slot 3. -/
def key3Frame : List Byte :=
  [192, 0, 0, 0, 6, 0, 0, 0, 7, 26, 0, 0, 0, 0, 0, 0, 0, 0, 3, 0, 1, 1, 1, 1, 1, 1, 1, 1, 1, 1, 1, 1, 1, 1, 1, 1] ++
    [32, 95, 43, 77, 149, 140, 131, 198, 176, 86]

/-- A KEYLOAD of slot 3 passes. -/
theorem key3_passes : FramePasses false key3Frame (parseFrame key3Frame) 40 linked ∧ (parseFrame key3Frame).ftype = 6 ∧
    (windowAccept (winFam (parseFrame key3Frame)) (parseFrame key3Frame).src (parseFrame key3Frame).seq linked.link.wins).isSome = true := by
  refine ⟨passes (k := 111460259018110240730045794821517608627) (fun _ => kd_mac) (by decide +kernel) ?_, by decide +kernel, by decide +kernel⟩
  have hm : (parseFrame key3Frame).mac = [32, 95, 43, 77, 149, 140, 131, 198] := by decide +kernel
  have hb : beBytes 2 (if (parseFrame key3Frame).dtype = 3 then 0 else 3) ++ key3Frame.take (10 + (parseFrame key3Frame).len) =
      beBytes 2 0 ++ [192, 0, 0, 0, 6, 0, 0, 0, 7, 26, 0, 0, 0, 0, 0, 0, 0, 0, 3, 0, 1, 1, 1, 1, 1, 1, 1, 1, 1, 1, 1, 1, 1, 1, 1, 1] := by decide +kernel
  rw [frameMac, hb, hm, cmac_eq sub_3 (y := [32, 95, 43, 77, 149, 140, 131, 198, 80, 129, 97, 52, 230, 60, 186, 41])
    (cmacGo_more (y := [131, 23, 76, 106, 79, 240, 191, 2, 225, 24, 207, 81, 133, 147, 34, 99]) (by decide) (by decide +kernel) (cmacGo_more (y := [180, 195, 168, 41, 93, 7, 9, 76, 26, 218, 228, 251, 52, 107, 184, 56]) (by decide) (by decide +kernel) (by decide +kernel)))]
  rfl

/-- The bytes of a KEYLOAD of slot 4. -/
def key4Frame : List Byte :=
  [192, 0, 0, 0, 6, 0, 0, 0, 7, 26, 0, 0, 0, 0, 0, 0, 0, 0, 4, 0, 1, 1, 1, 1, 1, 1, 1, 1, 1, 1, 1, 1, 1, 1, 1, 1] ++
    [31, 161, 235, 58, 6, 200, 36, 183, 245, 15]

/-- A KEYLOAD of slot 4 passes. -/
theorem key4_passes : FramePasses false key4Frame (parseFrame key4Frame) 40 linked ∧ (parseFrame key4Frame).ftype = 6 ∧
    (windowAccept (winFam (parseFrame key4Frame)) (parseFrame key4Frame).src (parseFrame key4Frame).seq linked.link.wins).isSome = true := by
  refine ⟨passes (k := 111460259018110240730045794821517608627) (fun _ => kd_mac) (by decide +kernel) ?_, by decide +kernel, by decide +kernel⟩
  have hm : (parseFrame key4Frame).mac = [31, 161, 235, 58, 6, 200, 36, 183] := by decide +kernel
  have hb : beBytes 2 (if (parseFrame key4Frame).dtype = 3 then 0 else 3) ++ key4Frame.take (10 + (parseFrame key4Frame).len) =
      beBytes 2 0 ++ [192, 0, 0, 0, 6, 0, 0, 0, 7, 26, 0, 0, 0, 0, 0, 0, 0, 0, 4, 0, 1, 1, 1, 1, 1, 1, 1, 1, 1, 1, 1, 1, 1, 1, 1, 1] := by decide +kernel
  rw [frameMac, hb, hm, cmac_eq sub_3 (y := [31, 161, 235, 58, 6, 200, 36, 183, 253, 53, 142, 156, 69, 41, 2, 32])
    (cmacGo_more (y := [131, 23, 76, 106, 79, 240, 191, 2, 225, 24, 207, 81, 133, 147, 34, 99]) (by decide) (by decide +kernel) (cmacGo_more (y := [48, 55, 123, 89, 165, 98, 186, 4, 115, 129, 151, 34, 212, 133, 125, 175]) (by decide) (by decide +kernel) (by decide +kernel)))]
  rfl

/-- CommandFrames, ReceivedFrames, Commissioning: what the frames above leave open: the ring with room and full, COMMISS on and off, the fields of a KEYLOAD and its key, a FORGET. -/
theorem witness_Frames : linked.g F.slkRxheadCount < 16 ∧ 16 ≤ (linked.p F.slkRxheadCount 16).g F.slkRxheadCount ∧
    linked.b F.slkCmctlCommiss = true ∧ (linked.p F.slkCmctlCommiss 0).b F.slkCmctlCommiss = false ∧ linked.b F.nvsStatKeybad = false ∧
    linked.sound = true ∧ linked.link.txq.any (·.isJoin) = false ∧ (kd 2 linked).isSome = true ∧ reach 0 F.slkCmctlForget.reg .write linked = true ∧
    ofBe (((parseFrame key3Frame).payload.drop 8).take 1) = 3 ∧ ofBe (((parseFrame key3Frame).payload.drop 9).take 1) = 0 ∧
    3 < ofBe (((parseFrame key4Frame).payload.drop 8).take 1) := by decide +kernel

/-- ReceptionAndDrops: an idle receiver that is on, a locked one, one switched off, a stronger and a weaker preamble; a frame that fails each check. -/
theorem witness_ReceptionAndDrops :
    (let s := live.p F.slkCfgEnc 1;
      runs 9 s = true ∧ medDomain false = 9 ∧ medEnabled false s = true ∧ (s.link.medium false).tx = none ∧ (s.link.medium false).rx = none ∧ (s.link.medium true).rx = none) ∧
    medEnabled true (live.p F.slkCfgEnp 0) = false ∧
    ((linked.link.medium false).rx = some 40 ∧ 40 + linked.g F.slkCfgMargin ≤ 255 ∧ 0 < 40 + linked.g F.slkCfgMargin) ∧
    (let b := List.replicate 10 (63#8); 10 ≤ b.length ∧ 48 < (parseFrame b).len) ∧
    (let b := List.replicate 20 (0#8); (parseFrame b).len ≤ 48 ∧ b.length = 20 + (parseFrame b).len ∧
      (parseFrame b).crc ≠ crc16 (b.take 18)) ∧
    (let b := List.replicate 18 (0#8) ++ beBytes 2 (crc16 (List.replicate 18 (0#8))); (parseFrame b).len ≤ 48 ∧ b.length = 20 + (parseFrame b).len ∧
      (parseFrame b).crc = crc16 (b.take (18 + (parseFrame b).len)) ∧ formatOk (parseFrame b) = false) ∧
    (let b := replyFrame; (parseFrame b).len ≤ 48 ∧ b.length = 20 + (parseFrame b).len ∧
      (parseFrame b).crc = crc16 (b.take (18 + (parseFrame b).len)) ∧ formatOk (parseFrame b) = true ∧ (parseFrame b).ftype ≠ 1 ∧
      destOk (parseFrame b) (linked.p F.slkAddrAddr 6) = false) ∧
    (match judgeFrame (List.replicate 20 0) linked with
      | (.drop (some _) 1, _) => (Tab.get linked.sec.linkKeys 2).isSome
      | _ => false) = true ∧
    (let b := beaconFrame; let f := parseFrame b; let s : State := { linked.p F.slkAddrValid 0 with sec := { linked.sec with linkKeys := [] } };
      runs 9 s = true ∧ (s.link.medium false).rx = some 40 ∧ f.len = 8 ∧ b.length = 28 ∧ f.crc = crc16 (b.take 26) ∧ formatOk f = true ∧
        f.ftype = 1 ∧ f.dtype = 2 ∧ Tab.get s.sec.linkKeys 2 = none ∧ s.b F.slkAddrValid = false ∧ s.link.txq = []) := by decide +kernel

/-- A SEND frame of the transmit queue. -/
def sendOne : TxFrame := { seq := 1, kind := .send, med := 0, dtype := 0, daddr := 9, ftype := 0x10, payload := [] }

/-- LinkSending: a frame at a slot boundary inside its window, one on the air, an unaddressed node that may join, the receive ring. -/
theorem witness_LinkSending :
    (let s := (((((linked.p F.slkCfgEnc 1).p F.slkCfgCrate 2).p F.slkTxwincFirst 0).p F.slkTxwincCount 8).p F.slkTxwincPer 0).p F.slkTxwincOffset 0
      let t : State := { s with link := { s.link with txq := [sendOne] } }
      awake t = true ∧ domUp 9 t = true ∧ phaseNow t % 0x1000 = 0 ∧ sweepTx t = t ∧ (t.link.medium false).tx = none ∧
        txHead false t = some sendOne ∧ 0 < (txWindow false t).2.1 ∧ airTicks false sendOne t + 256 ≤ (txWindow false t).2.1 * 0x1000 ∧
        cycleNow t / 4 % 2 ^ (txWindow false t).2.2.1 = (txWindow false t).2.2.2 ∧ (txWindow false t).1 ≤ slotNumber t.stm.acc.toNat ∧
        slotNumber t.stm.acc.toNat < (txWindow false t).1 + (txWindow false t).2.1 ∧
        airTicks false sendOne t + 256 ≤ ((txWindow false t).1 + (txWindow false t).2.1 - slotNumber t.stm.acc.toNat) * 0x1000 ∧ sendOne.notBefore = none ∧ sendOne.kind = .send) ∧
    awake dead = false ∧
    (let s : State := { linked with link := { linked.link with txq := [sendOne], car := { linked.link.car with tx := some sendOne } } };
      runs 9 s = true ∧ (s.link.medium false).tx = some sendOne ∧ sendOne.kind = .send) ∧ (live.link.medium true).tx = none ∧
    (let s : State := { live.p F.slkCmctlCommiss 1 with link := { live.link with plan := some ⟨4, 2, true, 0⟩ } };
      awake s = true ∧ s.link.plan = some ⟨4, 2, true, 0⟩ ∧ s.b F.slkAddrValid = false ∧ s.b F.slkCmctlCommiss = true ∧
        s.link.joinWait = 0 ∧ s.link.txq = []) ∧ live.link.plan = none ∧
    (reach 0 F.slkRxpopPop.reg .write live = true ∧ live.g F.slkRxheadCount = 0 ∧
      0 < (live.p F.slkRxheadCount 16).g F.slkRxheadCount ∧ reach 0 F.slkRxpopPop.reg .write (live.p F.slkRxheadCount 16) = true) := by
  decide +kernel

/-- KeepAliveAndMedia: a loss due and not, a medium that works, one silent while the other hears, one that has failed and is good again. -/
theorem witness_KeepAliveAndMedia :
    (let s := (live.p F.slkKaEn 1).p F.slkKaMissed (live.g F.slkKaK);
      awake s = true ∧ s.b F.slkKaEn = true ∧ s.g F.slkKaK ≤ s.g F.slkKaMissed ∧ s.link.kaActed = false ∧ s.link.kaSeen = false) ∧ live.b F.slkKaEn = false ∧
    (runs 9 live = true ∧ runs 10 live = true ∧ live.b F.slkMedPfail = false ∧ live.b F.slkMedCfail = false) ∧
    (let m : Medium := { silent := live.g F.slkMedT, otherSeen := true }
      let s : State := { live.p F.slkCfgEnc 1 with link := { live.link with car := m } }
      awake s = true ∧ medEnabled false s = true ∧ s.b F.slkMedCfail = false ∧ s.g F.slkMedT ≤ m.silent ∧ m.otherSeen = true ∧
        (live.link.medium false).otherSeen = false) ∧
    (let s : State := { live.p F.slkMedPfail 1 with link := { live.link with pr := { good := live.g F.slkMedRet, moved := true } } };
      awake s = true ∧ s.b F.slkMedPfail = true ∧ s.g F.slkMedRet ≤ (s.link.medium true).good ∧ s.b F.slkMedPtxf = false) := by
  decide +kernel

/-! ### Power stages and control engine -/

/-- StageModes: OFF with and without a panel, LOCKOUT, a running input, SAFE, for the last input; writes on the edge of a trip and of a demand for SAFE. -/
theorem witness_StageModes : (let ok := fun s => reach 0 (F.pstModeMode.reg 7) .write s && s.sound;
    let here := live.p1 F.pstStatPresent 7 1
    ok live = true ∧ pstMode 7 live = 0 ∧ live.b1 F.pstStatPresent 7 = false ∧ ok (here.p1 F.pstStatLockout 7 1) = true ∧
      (here.p1 F.pstStatLockout 7 1).b1 F.pstStatLockout 7 = true ∧ ok here = true ∧ here.b1 F.pstStatLockout 7 = false ∧
      here.b1 F.pstStatPresent 7 = true ∧ safeHold here = false ∧
      (∀ m ∈ [1, 4], ok (inMode 7 m here) = true ∧ pstMode 7 (inMode 7 m here) = m ∧ ((inMode 7 m here).pin 7).ss = false ∧
        (inMode 7 m here).g1 F.pstModeMode 7 ≠ 5 - m) ∧
      ok (inMode 7 5 here) = true ∧ pstMode 7 (inMode 7 5 here) = 5 ∧
      (∀ h ∈ [ModeHit.overvoltage, .driverFault, .undervoltage, .presenceLost, .safePins true true],
        pstMode 7 (modeHit 7 h (inMode 7 2 here)) ≠ pstMode 7 (inMode 7 2 here)) ∧ (inMode 7 2 here).b1 F.pstStatLockout 7 = false ∧
      ok (inMode 7 2 here) = true) := by decide +kernel

/-- StageProtection: a running input and one in OFF, the pin comparator on and off, a soft start and none. -/
theorem witness_StageProtection : (let s := inMode 7 2 live;
    let t := (s.p1 F.sysGpFunc 2 1).p1 F.sysGpSel 2 7
    runs (pstDomain 7) s = true ∧ pstMode 7 s ≠ 0 ∧ runs (pstDomain 7) live = true ∧ pstMode 7 live = 0 ∧ ovpPin 7 t = true ∧
      runs (pstDomain 7) t = true ∧ ovpPin 7 s = false ∧ (s.pin 7).ss = false ∧
      ((s.modPin 7 (fun p => { p with ss := true })).pin 7).ss = true ∧
      runs (pstDomain 7) (s.modPin 7 (fun p => { p with ss := true })) = true) := by decide +kernel

/-- StagePresence: panels present and not, an input ready to restart, running, in OFF and in soft start. -/
theorem witness_StagePresence : (let here := live.p1 F.pstStatPresent 7 1;
    let re := ((live.p1 F.pstPresUvr 7 1).p1 F.pstStatResume 7 4).modPin 7 (fun p => { p with restart := true })
    let soft := (inMode 7 1 here).modPin 7 (fun p => { p with ss := true })
    runs (pstDomain 7) live = true ∧ live.sound = true ∧ live.b1 F.pstStatPresent 7 = false ∧ (live.pin 7).restart = false ∧
      runs (pstDomain 7) re = true ∧ re.sound = true ∧ re.b1 F.pstStatPresent 7 = false ∧ (re.pin 7).restart = true ∧
      re.b1 F.pstPresUvr 7 = true ∧ re.b1 F.pstStatLockout 7 = false ∧ safeHold re = false ∧ pstMode 7 re = 0 ∧
      1 ≤ re.g1 F.pstStatResume 7 ∧ re.g1 F.pstStatResume 7 ≤ 4 ∧ here.b1 F.pstStatPresent 7 = true ∧ pstMode 7 here = 0 ∧
      pstMode 7 (inMode 7 1 here) ≠ 0 ∧ ((inMode 7 1 here).pin 7).ss = false ∧ pstMode 7 soft ≠ 0 ∧ (soft.pin 7).ss = true ∧
      soft.sound = true ∧ here.sound = true) := by decide +kernel

/-- ForcedSafeAndBypass: bypass may end, and may not; an input whose dwell ends, and one in OFF. -/
theorem witness_ForcedSafeAndBypass : (let run := (inMode 7 1 live).p1 F.pstStatSsdone 7 1;
    let safe := (inMode 7 5 live).p1 F.pstVsafeMv 7 12000
    reach 0 F.pstForceSafe.reg .write live = true ∧ live.sound = true ∧ reach 0 F.pstBypByp.reg .write run = true ∧
      run.b F.sysBootstatDone = true ∧ safeDemand run = false ∧ run.b F.fltSafestatDiscrepancy = false ∧
      run.b F.sysSupstatWarn = false ∧ (∃ x < 8, run.b1 F.pstStatSsdone x = true ∧ 1 ≤ pstMode x run ∧ pstMode x run ≤ 4) ∧
      reach 0 F.pstBypByp.reg .write live = true ∧ (∀ x < 8, live.b1 F.pstStatSsdone x = false) ∧
      runs (pstDomain 7) safe = true ∧ pstMode 7 safe = 5 ∧ safe.b1 F.pstStatSreg 7 = false ∧ safe.g1 F.pstVsafeMv 7 ≠ 0 ∧
      safeDemand safe = false ∧ safe.sound = true ∧ pstMode 7 live ≠ 5) := by decide +kernel

/-- SlewAndPeriodSteps, SyncReference: running inputs and none; an input that follows SYNCIN with each kind of reference, and a miss. -/
theorem witness_SlewPeriodAndSync : (let run := inMode 7 1 live;
    let f := fun (g m : Nat) => live.modPin 7 (fun p => { p with set0 := { p.set0 with src := 1, div := 1, per := 16000 }, goodRun := g, missRun := m, follow := decide (g = 4) })
    run.sound = true ∧ awake run = true ∧ domUp (pstDomain 7) run = true ∧ pstMode 7 run ≠ 0 ∧ (∀ x < 8, pstMode x live = 0) ∧
      (∀ x < 8, (live.pin x).set0.src ≠ 1) ∧ (∀ g ∈ [0, 2, 3, 4], (f g 0).sound = true ∧ domUp (pstDomain 7) (f g 0) = true ∧
        ((f g 0).pin 7).set0.src = 1 ∧ ((f g 0).pin 7).set0.div ≤ ((f g 0).pin 7).edges + 1 ∧ ((f g 0).pin 7).goodRun = g ∧ ((f g 0).pin 7).follow = decide (g = 4)) ∧
      5 * (max (16 * (0 + 1000)) 16000 - min (16 * (0 + 1000)) 16000) ≤ 16000 ∧ ¬ 5 * (max (16 * (0 + 2001)) 16000 - min (16 * (0 + 2001)) 16000) ≤ 16000 ∧
      ((f 0 1).pin 7).missRun = 1 ∧ ((f 0 1).pin 7).missRun ≠ 2 ∧ ((f 0 0).pin 7).missRun = 0 ∧ ((f 0 2).pin 7).missRun = 2 ∧ runs (pstDomain 7) (f 0 2) = true ∧
      (let q := live.modPin 7 (fun p => { p with set0 := { p.set0 with src := 1, div := 9 }, edges := 7 });
        (q.pin 7).edges + 1 < (q.pin 7).set0.div)) := by decide +kernel

/-- PeriodsAndUpdates: a mode that waits, balance on, and windows out of balance either way, at the limit and in balance. -/
theorem witness_PeriodsAndUpdates : (let f := fun (t a b : Nat) => ((live.p1 F.pstBalEn 7 1).p1 F.pstBalTrim 7 t).modPin 7 (fun p => { p with n0 := 1, sum0 := a, n1 := 1, sum1 := b, win := 64, next := some 3 });
    let bal := fun (s : State) => decide (runs (pstDomain 7) s = true ∧ s.sound = true ∧ s.b1 F.pstBalEn 7 = true ∧ 2 ^ s.g1 F.pstBalN 7 ≤ (s.pin 7).win ∧ 0 < (s.pin 7).n0 ∧ 0 < (s.pin 7).n1)
    let gap := fun (s : State) => (s.pin 7).sum1 * (s.pin 7).n0 - (s.pin 7).sum0 * (s.pin 7).n1
    let lim := fun (s : State) => ((s.g1 F.pstBalDb 7 * ((s.pin 7).n0 * (s.pin 7).n1) : Nat) : Int)
    bal (f 15 9000 0) = true ∧ gap (f 15 9000 0) < -lim (f 15 9000 0) ∧ trimOf 7 (f 15 9000 0) = 15 ∧
      lim (f 49 0 9000) < gap (f 49 0 9000) ∧ trimOf 7 (f 49 0 9000) = -15 ∧ bal (f 49 0 9000) = true ∧
      trimOf 7 (f 16 9000 0) = 16 ∧ gap (f 16 9000 0) < -lim (f 16 9000 0) ∧ bal (f 0 5 5) = true ∧
      -lim (f 0 5 5) ≤ gap (f 0 5 5) ∧ gap (f 0 5 5) ≤ lim (f 0 5 5) ∧ ((f 0 5 5).pin 7).next = some 3 ∧
      ((inMode 7 3 (f 0 5 5)).pin 7).next = some 3 ∧ pstMode 7 (inMode 7 3 (f 0 5 5)) = 3 ∧ (live.pin 7).next = none ∧
      (live.pin 7).win < 2 ^ live.g1 F.pstBalN 7) := by decide +kernel

/-- A run of program 0 on lane 1 whose next word is `w`; its text is `len` words long. -/
def ceRun (w len : Nat) : CeInst :=
  { prog := 0, lane := 1, trig := 0, idx := [(0, w), (0x3000, 1 + 32 * (len - 1))] }

/-- The lane holds that run. -/
def lane1 (w len : Nat) : State := { live with ce := { live.ce with lane1 := some (ceRun w len) } }

/-- `CeIssues` as a test on lane 1. -/
def issues (w len : Nat) : Bool :=
  runs 4 (lane1 w len) && decide ((lane1 w len).ce.lane 1 = some (ceRun w len)) && decide ((ceRun w len).pc < progLen (ceRun w len).idx 0) &&
    decide (ceText (ceRun w len).idx 0 0 = w)

/-- CeStateWrites: a word of every accumulator and register instruction can issue, and a word of none of them. -/
theorem witness_CeStateWrites : (∀ e ∈ [(0x01, 0x000F81FF), (0x02, 0x000F81FF), (0x03, 0x000F81FF), (0x04, 0x00007E0F), (0x05, 0x00007E0F),
      (0x06, 0x000FFE0F), (0x07, 0x000FFE0F), (0x08, 0x01FFFFFF), (0x09, 0x01FFFE0F), (0x0C, 0x060003FF), (0x0D, 0x060003FF),
      (0x0E, 0x060003FF), (0x0F, 0x060003FF), (0x10, 0x06007FFF), (0x11, 0x000003FF), (0x12, 0x060F0000), (0x13, 0x060FF000)],
    let w := e.1 * 2 ^ 27 + (0x07FFFFFF - e.2);
    issues w 1 = true ∧ bitsOf w 27 5 = e.1 ∧ w &&& e.2 = 0) ∧ issues 0 1 = true ∧ bitsOf 0 27 5 = 0 := by decide +kernel

/-- CeClampsAndFlow: a word of each, PRE with FIRST and without, a run that goes on and one that ends. -/
theorem witness_CeClampsAndFlow : (∀ e ∈ [(0x0A, 0x000F81FF), (0x0B, 0x000FFFFF), (0x14, 0x060FF000), (0x15, 0x000FF000), (0x1F, 0x07FFFFFF)],
    let w := e.1 * 2 ^ 27 + (0x07FFFFFF - e.2);
    issues w 1 = true ∧ issues w 2 = true ∧ bitsOf w 27 5 = e.1 ∧ w &&& e.2 = 0) ∧
    NSet.has [0] 0 = true ∧ NSet.has (lane1 0 1).ce.first 0 = false ∧ (ceRun 0 2).pc + 1 < progLen (ceRun 0 2).idx 0 ∧
    (ceRun 0 1).pc + 1 = progLen (ceRun 0 1).idx 0 := by decide +kernel

/-- Program 3 is enabled on a trigger word. -/
def program (d : Nat) (s : State) : State := { s with ce := { s.ce with idx := [(0x300C, 1 + d)] } }

/-- CeTriggers: a string-time and a PWM trigger of one program, idle and busy; a stage that raises none; a lane with a ready run and one that is taken. -/
theorem witness_CeTriggers :
    (let s := program (2 * 2 + 4 * 2 ^ 16) live;
      runs 4 s = true ∧ s.sound = true ∧ progsOn (fun g => match g with
        | .stime k ofs => decide (phaseNow s % 2 ^ k = ofs % 2 ^ k)
        | _ => false) s = [3] ∧ paired s.ce.idx 3 = false ∧ Tab.get s.ce.back 3 = none ∧ s.b F.ceStatHalted = false ∧
        degrOf 3 s = 0 ∧ s.ce.pend = [] ∧ progBusy 3 s = false) ∧
    (let s := program (2 + 7 * 2 ^ 16 + 2 ^ 19) (inMode 7 1 live);
      let t : State := { s with ce := { s.ce with queue := [newInst 3 s] } }
      runs 4 t = true ∧ t.sound = true ∧ domUp (pstDomain 7) t = true ∧ trigRaised 7 t = true ∧
        progsOn (fun g => g = .pwm 7 1) t = [3] ∧ progBusy 3 t = true ∧ trigRaised 7 live = false ∧
        t.ce.lane 0 = none ∧ t.ce.queue = [newInst 3 s] ∧ (newInst 3 s).lane = 0 ∧ (newInst 3 s).need = [] ∧ live.ce.queue = [] ∧
        (lane1 0 1).ce.lane 1 ≠ none) := by decide +kernel

/-- A finished run of program 3 that holds some writes. -/
def done3 (held : List (Nat × BitVec 32)) (s : State) : State :=
  { s with ce := { s.ce with out := [{ prog := 3, lane := 0, trig := 0, idx := [(0x300C, 3)], held := held }] } }

/-- CeReleaseAndProof: runs with no write, with a duty, with a set-point; a halted engine; a proof due and none. -/
theorem witness_CeReleaseAndProof : (∀ h ∈ [[], [(0x11C, 5#32)], [(0x9F, 5#32)]], let s := done3 h live;
      let i : CeInst := { prog := 3, lane := 0, trig := 0, idx := [(0x300C, 3)], held := h }
      runs 4 s = true ∧ s.sound = true ∧ dueOn 0 s = some i ∧ dutyLate i s = false ∧ s.b F.ceStatHalted = false ∧
        (s.p F.ceStatHalted 1).b F.ceStatHalted = true ∧ (∀ n < 4, s.g1 F.trcStatState n = 0) ∧ Tab.rising s.ce.last = true ∧ dueOn 1 s = none ∧ i.own = none ∧ i.held = h ∧
        degrOf (repOf i.idx i.prog) s = 0 ∧ progTrig i.idx i.prog = some (.pwm 0 0) ∧ progsOn (fun g => match g with
        | .nest q _ => q = i.prog
        | _ => false) s = []) ∧ 0x11C = 0x100 + 4 * 7 ∧ 0x9F = 0x80 + 31 ∧
    (let s : State := { live with ce := { live.ce with reproof := true } };
      runs 4 s = true ∧ s.ce.reproof = true ∧ s.sound = true ∧ (∀ n < 32, repOf s.ce.idx n = n → (degradeTo s).step n = degrOf n s) ∧
        live.ce.reproof = false) := by decide +kernel

/-- CeRegistersAndTrace: the slots, indices on both sides of each boundary, a buffer in each state, its owner and others. -/
theorem witness_CeRegistersAndTrace : reach 0 (F.ceSpVal.reg 31) .write live = true ∧
    (∀ i ∈ [0, 0x307F, 0x4000, 0x41FF, 0x4200], let s : State := { live with ce := { live.ce with iaddr := [(7, i)] } };
      reach 7 F.ceIdataData.reg .write s = true ∧ reach 7 F.ceIdataData.reg .read s = true ∧ Tab.val 0 s.ce.iaddr 7 = i ∧
        (s.stage 8).owner = none ∧ ((staged 8 0 [] s).stage 8).owner = some 0) ∧
    (∀ st ∈ [0, 1, 2, 3], let s := ((live.p1 F.trcOwnHeld 3 1).p1 F.trcOwnOwner 3 7).p1 F.trcStatState 3 st;
      reach 7 (F.trcCtlArm.reg 3) .write s = true ∧ reach 8 (F.trcCtlArm.reg 3) .write s = true ∧ s.g1 F.trcStatState 3 = st ∧
        s.b1 F.trcOwnHeld 3 = true ∧ s.g1 F.trcOwnOwner 3 = 7) ∧ live.b1 F.trcOwnHeld 3 = false ∧ runs 4 live = true ∧
    live.g1 F.sysGpFunc 8 ≠ 3 ∧ live.g1 F.sysGpFunc 20 ≠ 3 ∧ Tab.rising live.ce.trc = true ∧
    (∀ n ∈ [8, 20], (live.p1 F.sysGpFunc n 3).g1 F.sysGpFunc n = 3 ∧ runs 4 (live.p1 F.sysGpFunc n 3) = true) := by decide +kernel

/-! ### Converters, housekeeping and charger -/

/-- ConversionResults: a triggered conversion, a one-shot into a FIFO with room and a full one, a held channel, none; a channel served elsewhere. -/
theorem witness_ConversionResults : (let s := converters live;
    let g : TrigConv := { prog := 0, entry := 0, conv := 1, ch := 31, edge := 0 }
    let t : State := { s with adc := { s.adc with trig := [g] } }
    runs 6 s = true ∧ s.sound = true ∧ adcServer 1 s = 1 ∧ adcServes 1 s = true ∧ adcServer 0 s ≠ 1 ∧ adcServes 1 live = false ∧
      t.adc.trig.find? (fun g => adcServer g.conv t = 1) = some g ∧ t.sound = true ∧ s.adc.trig = [] ∧ calHolds 1 s = false ∧
      (∀ f ∈ [[], List.replicate 16 0], ((s.modConv 1 (fun c => { c with shots := [31, 4], fifo := f })).conv 1).shots = 31 :: [4] ∧
        calHolds 1 (s.modConv 1 (fun c => { c with shots := [31, 4], fifo := f })) = false) ∧
      (s.conv 1).shots = [] ∧ ((s.p1 F.adcNextHold 1 1).p1 F.adcNextCh 1 31).b1 F.adcNextHold 1 = true ∧
      gateOpen 1 ((s.p1 F.adcNextHold 1 1).p1 F.adcNextCh 1 31) = true ∧ s.b1 F.adcNextHold 1 = false) := by decide +kernel

/-- ConverterRegisters: queues below four and at four, FIFOs empty and not, windows empty, ahead, late, armed and open. -/
theorem witness_ConverterRegisters : (let w := ((live.p1 F.adcWstcCycle 1 5).p1 F.adcWspcCycle 1 7);
    reach 0 (F.adcNextCh.reg 1) .write live = true ∧ (live.conv 1).shots.length < 4 ∧
      4 ≤ ((live.modConv 1 (fun c => { c with shots := [0, 1, 2, 3] })).conv 1).shots.length ∧
      reach 0 (F.adcFifoWord.reg 1) .read live = true ∧ (live.conv 1).fifo = [] ∧
      ((live.modConv 1 (fun c => { c with fifo := [9] })).conv 1).fifo = 9 :: [] ∧
      reach 0 (F.adcWctlArm.reg 1) .write w = true ∧ w.sound = true ∧ emptyWindow 0 0 = true ∧
      emptyWindow (5 * 2 ^ 16) (7 * 2 ^ 16) = false ∧ w.g1 F.adcWstcCycle 1 * 2 ^ 16 + w.g1 F.adcWphStart 1 = 5 * 2 ^ 16 ∧
      w.g1 F.adcWspcCycle 1 * 2 ^ 16 + w.g1 F.adcWphStop 1 = 7 * 2 ^ 16 ∧ stampDue (5 * 2 ^ 16) (stampNow w) = false ∧
      stampPast (5 * 2 ^ 16) (stampNow (atTime 6 0 w)) = true ∧ stampDue (7 * 2 ^ 16) (stampNow (atTime 6 0 w)) = false ∧
      (atTime 6 0 w).sound = true ∧ w.b1 F.adcWctlArmed 1 = false ∧ w.b1 F.adcWctlOpen 1 = false ∧
      (w.p1 F.adcWctlArmed 1 1).b1 F.adcWctlArmed 1 = true ∧ (w.p1 F.adcWctlOpen 1 1).b1 F.adcWctlOpen 1 = true ∧
      (w.p1 F.adcWctlOpen 1 1).sound = true ∧ reach 0 (F.adcWctlArm.reg 1) .write (w.p1 F.adcWctlOpen 1 1) = true) := by decide +kernel

/-- Calibration: the command's four answers; ZERO, FULL and SET at their ends with gains inside and outside the range; a table that reads. -/
theorem witness_Calibration : (let s := converters live;
    let on := fun (k : Nat) => { s.p F.adcCalvalVal 0x1AAB with adc := { s.adc with run := some ⟨k, 1, 31, true, 10⟩, zero := some (127, 0x3D40) } }
    let sum : Int := 6880 * 1024 + 512
    let m : Int := 256 * sum / 2 ^ 10
    let g := (2 * (int16 0x1AAB * 2 ^ 38) + (m - 0x3D40)) / (2 * (m - 0x3D40))
    reach 0 F.adcCalcmdCmd.reg .write s = true ∧ s.adc.run = none ∧ (on 1).adc.run ≠ none ∧ reach 0 F.adcCalcmdCmd.reg .write (on 1) = true ∧
      adcServes 0 s = true ∧ adcServes 0 live = false ∧ reach 0 F.adcCalcmdCmd.reg .write live = true ∧
      (∀ k ∈ [1, 2, 3], runs 11 (on k) = true ∧ (on k).adc.run = some ⟨k, 1, 31, true, 10⟩ ∧ (on k).sound = true) ∧
      calEntry 1 31 true = 127 ∧ m * 2 ^ 10 = 256 * sum ∧ lineOk (calAddr 127) (on 2) = true ∧ (on 2).adc.zero = some (127, 0x3D40) ∧
      int16 ((on 2).g F.adcCalvalVal) = int16 0x1AAB ∧ 0 < int16 0x1AAB ∧ 0x3D40 < m ∧ 0x20000000 ≤ g ∧ g ≤ 0x7FFFFFFF ∧
      0x20000000 ≤ ((on 3).p F.adcCalgG 0x7FFFFFFF).g F.adcCalgG ∧ ((on 3).p F.adcCalgG 0x7FFFFFFF).g F.adcCalgG ≤ 0x7FFFFFFF ∧
      ((on 3).p F.adcCalgG 0x1FFFFFFF).g F.adcCalgG < 0x20000000 ∧ 0x7FFFFFFF < ((on 3).p F.adcCalgG 0x80000000).g F.adcCalgG ∧
      domUp 5 live = true ∧ domUp 6 live = true ∧ runs 11 live = true ∧ Tab.rising live.adc.cal = true ∧
      (∀ e < 128, lineOk (calAddr e) live = true)) := by decide +kernel

/-- SelfChecks: a loaded converter, one to return after a planned change, N bad and N good pairs, a severe source. -/
theorem witness_SelfChecks : (let s := converters live;
    let bad := s.modConv 1 (fun c => { c with bad := s.g F.adcChkN })
    let out := (s.modConv 1 (fun c => { c with good := s.g F.adcChkN })).p F.adcStatOk1 0
    runs 6 s = true ∧ s.sound = true ∧ (s.conv 1).loaded = true ∧ (s.conv 1).planned = false ∧ s.g F.adcChkTol < 65535 ∧
      ((s.modConv 1 (fun c => { c with planned := true })).conv 1).planned = true ∧ s.b F.adcStatOk1 = true ∧
      s.g F.adcChkN ≤ (bad.conv 1).bad ∧ bad.sound = true ∧ runs 6 bad = true ∧ out.b F.adcStatOk1 = false ∧ runs 6 out = true ∧
      (s.conv 1).bad < s.g F.adcChkN ∧ reach 0 F.adcCtlRestore0.reg .write out = true ∧ out.sound = true ∧
      s.g F.adcChkN ≤ (out.conv 1).good ∧ isSevere 14 out = false ∧ domUp 6 out = true ∧ (out.conv 1).loaded = true ∧
      ((s.p F.adcStatOk1 0).conv 1).good < s.g F.adcChkN ∧ reach 0 F.adcCtlRestore0.reg .write s = true) := by decide +kernel

/-- Rails: before boot's end, in strap mode, voltages at and beyond each limit, off and on, under LOCK, without a voltage; power good gained and lost. -/
theorem witness_Rails : (let s := live.p F.hkrStrapmodeReg 0xFF;
    let on := (s.p1 F.hkrEnEn 7 1).p F.hkrRailstatPg 0x80
    reach 0 (F.hkrVsetMv.reg 7) .write s = true ∧ railClosed 0 (s.p F.sysBootstatDone 0) = true ∧
      reach 0 (F.hkrVsetMv.reg 7) .write (s.p F.sysBootstatDone 0) = true ∧ reach 0 (F.hkrEnEn.reg 7) .write (s.p F.sysBootstatDone 0) = true ∧
      railClosed 0 s = false ∧ railReg 7 s = true ∧ railReg 7 (live.p F.hkrStrapmodeReg 0x7F) = false ∧ s.b1 F.hkrEnEn 7 = false ∧
      on.b1 F.hkrEnEn 7 = true ∧ reach 0 (F.hkrEnEn.reg 7) .write s = true ∧ s.sound = true ∧
      (s.p1 F.hkrEnLock 7 1).b1 F.hkrEnLock 7 = true ∧ s.b1 F.hkrEnLock 7 = false ∧ railStrapFault 7 s = false ∧
      (s.p1 F.hkrVsetMv 7 0).g1 F.hkrVsetMv 7 = 0 ∧ (s.p1 F.hkrVsetMv 7 3300).g1 F.hkrVsetMv 7 ≠ 0 ∧ on.pow.phase ≠ .dark ∧
      on.sound = true ∧ on.pow.rail = none ∧ getBit F.hkrRailstatPg 7 s = false ∧ getBit F.hkrRailstatPg 7 on = true ∧
      ((on.modRail 7 (fun r => { r with once := true })).rail 7).once = true ∧ (s.rail 7).once = false ∧
      (on.modRail 7 (fun r => { r with once := true })).sound = true ∧ held on = false ∧
      (let strap := live.p F.hkrStrapmodeReg 0x7F;
        railReg 7 strap = false ∧ railStrapFault 7 strap = false ∧ strap.b1 F.hkrEnEn 7 = false ∧ strap.b1 F.hkrEnLock 7 = false ∧
          strap.sound = true ∧ railClosed 0 strap = false ∧ reach 0 (F.hkrEnEn.reg 7) .write strap = true)) := by decide +kernel

/-- LoadSwitches: free, locked and busy slots, windows empty, ahead, open, late, deferred, overlapping and refused, a switch that is on. -/
theorem witness_LoadSwitches : (∀ b : Bool, let f := slotF b;
    let w := (live.p1 f.stc 7 5).p1 f.spc 7 7
    let armed := w.p1 f.armed 7 1
    let act := (w.p1 f.act 7 1).p1 F.hkrHsStatSwon 7 1
    reach 0 (F.hkrHsCtrlOn.reg 7) .write w = true ∧ w.sound = true ∧ slotBusy 7 b armed = true ∧ armed.sound = true ∧
      reach 0 (F.hkrHsCtrlOn.reg 7) .write armed = true ∧ w.g1 F.hkrHsCtrlPolicy 7 ≠ 1 ∧ (w.p1 F.hkrHsCtrlLock 7 1).b1 F.hkrHsCtrlLock 7 = true ∧
      reach 0 (slotReg 7 b) .write (w.p1 F.hkrHsCtrlLock 7 1) = true ∧ w.b1 F.hkrHsCtrlLock 7 = false ∧
      slotBusy 7 b w = false ∧ slotDeferred 7 b w = false ∧ slotBusy 7 (!b) w = false ∧ slotDeferred 7 (!b) w = false ∧
      reach 0 (slotReg 7 b) .write w = true ∧ slotRejected 7 b ⟨5 * 2 ^ 16, some (7 * 2 ^ 16)⟩ w = false ∧
      w.g1 f.stc 7 * 2 ^ 16 + w.g1 f.pstart 7 = 5 * 2 ^ 16 ∧ w.g1 f.spc 7 * 2 ^ 16 + w.g1 f.pstop 7 = 7 * 2 ^ 16 ∧
      emptyWindow (5 * 2 ^ 16) (7 * 2 ^ 16) = false ∧ stampDue (5 * 2 ^ 16) (stampNow w) = false ∧
      (∀ ph ∈ [0, 9], stampDue (5 * 2 ^ 16) (stampNow (atTime 5 ph w)) = true) ∧ stampDue (7 * 2 ^ 16) (stampNow (atTime 5 9 w)) = false ∧
      stampPast (5 * 2 ^ 16) (stampNow (atTime 5 9 w)) = true ∧ slotRejected 7 b ⟨stampNow w, none⟩ w = false ∧
      emptyWindow 0 0 = true ∧ slotActive 7 b act = true ∧ act.sound = true ∧ slotBusy 7 (!b) act = false ∧
      slotActive 7 b armed = false ∧ armed.b1 f.armed 7 = true ∧ reach 0 (slotReg 7 b) .write act = true ∧
      act.pow.phase ≠ .dark ∧ act.b1 F.hkrHsStatSwon 7 = true ∧ live.b1 F.hkrHsStatSwon 7 = false ∧ held act = false ∧
      (∀ pol ∈ [0, 1, 2], let g := slotF (!b)
        let other := (((atTime 6 0 w).p1 F.hkrHsCtrlPolicy 7 pol).p1 g.act 7 1).modHkr (fun h => { h with
          wins := Tab.set h.wins (slotKey 7 (!b)) ⟨5 * 2 ^ 16, some (9 * 2 ^ 16)⟩ })
        other.g1 F.hkrHsCtrlPolicy 7 = pol ∧ other.sound = true ∧ reach 0 (slotReg 7 b) .write other = true ∧
          other.b1 F.hkrHsCtrlLock 7 = false ∧ slotBusy 7 b other = false ∧ slotDeferred 7 b other = false ∧ slotActive 7 (!b) other = true ∧
          other.b1 g.armed 7 = false ∧ stopDue 7 (!b) other = false ∧ stampDue (5 * 2 ^ 16) (stampNow other) = true ∧
          stampDue (7 * 2 ^ 16) (stampNow other) = false ∧ slotRejected 7 b ⟨5 * 2 ^ 16, some (7 * 2 ^ 16)⟩ other = decide (pol = 2) ∧
          slotRejected 7 b ⟨stampNow other, none⟩ other = decide (pol = 2))) := by decide +kernel

/-- BackupCell: charging possible, suspended, off; a fast charge that reaches its voltage; NTC inside its zones, open, shorted, and no chemistry; a low supply; both paths. -/
theorem witness_BackupCell : (let s := (((live.p F.chgCfgChem 1).p F.chgCtlEn 1).p F.chgStatPresent 1).p F.chgStatNtcz 3;
    awake s = true ∧ s.sound = true ∧ domUp 15 s = true ∧ s.g F.chgStatNtcz = 3 ∧ chgFaulted s = false ∧
      4200 ≤ (chemV (s.g F.chgCfgChem)).2.2.2 ∧ chgC12 s = true ∧ chgC345 s = true ∧ s.g F.chgStatPhase = 0 ∧
      chgC345 (s.p F.chgStatPath 1) = false ∧ (s.p F.chgStatPath 1).g F.chgStatPhase ≠ 6 ∧ chgC12 (s.p F.chgCtlEn 0) = false ∧
      (s.p F.chgStatPhase 2).g F.chgStatPhase = 2 ∧ (chemV (s.g F.chgCfgChem)).1 ≤ 4100 ∧ s.chg.fast + 1 < s.g F.chgCfgTfast * 3600000 ∧
      domUp 15 (without 15 s) = false ∧ s.pow.phase ≠ .dark ∧ live.g F.chgCfgChem = 0 ∧
      (1 ≤ zoneNext 3 1000 ∧ zoneNext 3 1000 ≤ 4) ∧ zoneNext 3 3300 = 0 ∧ s.b F.chgFltNtcopen = false ∧ s.b F.sysSupstatWarn = false ∧
      (s.p F.chgStatPath 1).b F.chgStatPath = true ∧ s.b F.chgStatPath = false ∧ (s.g F.chgStatNtcz ≠ 0 ∧ s.g F.chgStatNtcz ≠ 6 ∧ s.g F.chgStatNtcz ≠ 5) ∧
      ({ s with pow := { s.pow with low := true } } : State).pow.low = true ∧ s.pow.low = false ∧ zoneNext 3 1 = 6 ∧
      s.b F.chgFltNtcshort = false ∧ s.g F.chgStatNtcz ≠ 2 ∧ s.b F.chgFltBatov = false ∧ held s = false ∧
      (∀ ph ∈ [1, 2, 3, 5], let u := { s.p F.chgStatPhase ph with chg := { s.chg with up := 9, low := 9, term := 15 } };
        chgC12 u = true ∧ chgC345 u = true ∧ u.g F.chgStatPhase = ph ∧ chgFaulted u = false ∧ u.sound = true ∧ 9 ≤ u.chg.up ∧ 9 ≤ u.chg.low ∧
          15 ≤ u.chg.term ∧ u.chg.fast + 1 < u.g F.chgCfgTfast * 3600000 ∧ 0 < 5 * u.g F.chgCfgIterm)) := by decide +kernel

/-! ### Lines, DMA, two-wire ports, clock, faults and fan -/

/-- LineOperations: an operation in front at the array's last line, with the key usable and not. -/
theorem witness_LineOperations : (let op : NvsOp := { id := 0, addr := 0x1007FFE0, data := List.replicate 32 7, cls := 1 };
    let s : State := { live with nvs := { live.nvs with q := [op] } }
    runs 11 s = true ∧ s.nvs.q = op :: [] ∧ op.data.length = 32 ∧ s.sound = true ∧ s.b F.nvsStatKeybad = false ∧
      (s.p F.nvsStatKeybad 1).b F.nvsStatKeybad = true ∧ runs 11 (s.p F.nvsStatKeybad 1) = true ∧ (s.p F.nvsStatKeybad 1).sound = true ∧
      s.nvsBad.Pairwise (· < ·) ∧ (s.modSec (fun x => { x with root := some 3 })).sec.root ≠ none) := by
  decide +kernel

/-- Channel 31 in a state, held by FD1. -/
def chan31 (st : Nat) : State := ((live.p1 F.dmaChStatState 31 st).p1 F.dmaChStatOwnv 31 1).p1 F.dmaChStatOwner 31 7

/-- DmaCommands: every state of a channel for its owner and another, each mode, a count of 0, an access outstanding, a domain locked. -/
theorem witness_DmaCommands : (∀ st ∈ [0, 1, 2, 3], let s := chan31 st;
      s.sound = true ∧ s.g1 F.dmaChStatState 31 = st ∧ s.b1 F.dmaChStatOwnv 31 = true ∧ s.g1 F.dmaChStatOwner 31 = 7 ∧
        reach 7 (F.dmaChSrcAddr.reg 31) .write s = true ∧ reach 7 (F.dmaChDstAddr.reg 31) .write s = true ∧
        reach 7 (F.dmaChCtlStart.reg 31) .write s = true ∧ reach 8 (F.dmaChCtlStart.reg 31) .write s = true ∧ dmaLocked 31 s = false) ∧
    (let s := chan31 0;
      s.b1 F.dmaChCfgMode 31 = false ∧ (s.p1 F.dmaChCfgMode 31 1).b1 F.dmaChCfgMode 31 = true ∧ s.g1 F.dmaChCntCnt 31 = 0 ∧
        (s.p1 F.dmaChCntCnt 31 1).g1 F.dmaChCntCnt 31 ≠ 0 ∧ s.g1 F.dmaChSrcAddr 31 % 2 ^ s.g1 F.dmaChCfgWidth 31 = 0 ∧
        s.g1 F.dmaChDstAddr 31 % 2 ^ s.g1 F.dmaChCfgWidth 31 = 0 ∧ ((chan31 1).chan 31).infl = false ∧
        (((chan31 1).modChan 31 (fun c => { c with infl := true })).chan 31).infl = true ∧
        dmaLocked 31 ((chan31 3).p F.dmaStatLock 1) = true) := by decide +kernel

/-- A transfer on its way from one access to the next. -/
def moving (step : DmaStep) (src dst : Nat) (cnt : Nat) : State :=
  (((after (wr64 0 0xFFFF8 1) (chan31 1)).p1 F.dmaChCfgWidth 31 2).p1 F.dmaChCntCnt 31 cnt).modChan 31
    (fun c => { c with infl := true, step := step, src := src, dst := dst })

/-- DmaTransfers: a channel that is ready and none, a read that succeeds and one that fails, a write that is followed by another and the last one. -/
theorem witness_DmaTransfers :
    (let s := (chan31 1).modChan 31 (fun c => { c with step := .write });
      runs 13 s = true ∧ dmaPick s = some 31 ∧ dmaReady 31 s = true ∧ runs 13 live = true ∧ (∀ n < 32, dmaReady n live = false) ∧
        ¬ dmaReadySince 31 s + 256 ≤ s.stm.sclk ∧ (let u : State := { s with stm := { s.stm with sclk := 256 } };
          runs 13 u = true ∧ dmaReady 31 u = true ∧ dmaReadySince 31 u + 256 ≤ u.stm.sclk)) ∧
    (let s := moving .read 0xFFFFC 0xFFFFC 2;
      s.sound = true ∧ runs 13 s = true ∧ s.g1 F.dmaChStatState 31 = 1 ∧ (s.chan 31).infl = true ∧ (s.chan 31).abort = false ∧
        s.b1 F.dmaChCfgMode 31 = false ∧ (s.chan 31).step = .read ∧ mayGrant (dmaAddr 31 s) (dmaCls 31 s).num (s.g1 F.dmaChStatOwner 31) s = true ∧
        2 ^ s.g1 F.dmaChCfgWidth 31 = 4 ∧ (s.chan 31).src = 0xFFFFC ∧ granted 7 0xFFFFC .read s = true ∧ domUp (domainOf 0xFFFFC) s = true ∧
        NSet.has s.sramGood (0xFFFFC / 8) = true ∧
        (let u := (s.setCtx 40 { st := .run, dom := 1, infl := some { op := .load 4 false, addr := 0xFFFFC, rd := 1, cls := .urgent } });
          mayGrant (dmaAddr 31 u) (dmaCls 31 u).num (u.g1 F.dmaChStatOwner 31) u = false)) ∧
    (let s := (moving .fetch0 0 0 0).p1 F.dmaChCfgMode 31 1; let s := s.p1 F.dmaChRbaseBase 31 0xFFFF8;
      runs 13 s = true ∧ s.sound = true ∧ s.g1 F.dmaChStatState 31 = 1 ∧ s.b1 F.dmaChCfgMode 31 = true ∧ dmaDesc 31 s = 0xFFFF8 ∧
        mayGrant (dmaAddr 31 s) (dmaCls 31 s).num (s.g1 F.dmaChStatOwner 31) s = true ∧ (s.chan 31).step = .fetch0 ∧ granted 7 0xFFFF8 .read s = true ∧
        domUp (domainOf 0xFFFF8) s = true ∧ NSet.has s.sramGood (0xFFFF8 / 8) = true ∧ (s.word 0xFFFF8).testBit 31 = false) ∧
    (∀ cnt ∈ [1, 2], let s := moving .write 0 0xFFFFC cnt;
      s.sound = true ∧ (s.chan 31).step = .write ∧ (s.chan 31).dst < 0x100000 ∧ granted (s.g1 F.dmaChStatOwner 31) 0xFFFFC .write s = true ∧
        domUp (domainOf 0xFFFFC) s = true ∧ 0xFFFFC % 4 = 0 ∧ NSet.has s.sramGood (0xFFFFC / 8) = true ∧
        NSet.has s.sramOne (0xFFFFC / 8) = false ∧ s.g1 F.dmaChPosDone 31 + 1 ≤ s.g1 F.dmaChCntCnt 31 ∧ s.g1 F.dmaChCntCnt 31 = cnt) ∧
    (let s := moving .read 0xFFFFFFFC 0 2; s.sound = true ∧ (s.chan 31).step = .read ∧ mapped (s.chan 31).src = false) := by decide +kernel

/-- The bus has been seen free: the target answers 0x26. -/
def bus : State := live.modTwb (fun t => { t with free := true, cfg := { t.cfg with addr := 0x26 } })

/-- TwoWireTransactions: a pointer alone, a word for the watchdog's service, a read of the identity and one of an unmapped address; an hs code; a bus not yet free. -/
theorem witness_TwoWireTransactions : (let at_ := fun (a : Nat) => bus.p F.twbPtrPtr a;
    let u := ((TwbOpened 0x26 false bus).modTwb (fun t => { t with
      body := [0x40, 0, 0, 0x1C] ++ leBytes 4 0xC35A, writing := true, nacked := false })).p F.twbPtrPtr 0x4000001C
    awake bus = true ∧ bus.twb.free = true ∧ bus.twb.cfg.addr = 0x26 ∧ twbReserved 0x26 = false ∧ bus.twb.open_ = false ∧
      bus.twb.cfg.pec = false ∧ bus.twb.seen = [] ∧ bus.sound = true ∧ ofBe [0x40, 0, 0, 0x1C] = 0x4000001C ∧
      (portStoreAt 0 0x4000001C 4 0xC35A u).1 = .ok ∧ (portStoreAt 0 0x4000001C 4 0xC35A u).2.g F.twbPtrPtr = 0x4000001C ∧
      (let r := portLoadAt 0 0x40000000 4 (TwbOpened 0x26 true (at_ 0x40000000)); r.1 = .ok ∧ r.2.2.g F.twbPtrPtr = 0x40000000) ∧
      twbHs 4 = true ∧ (4 : BitVec 7) ≠ 0x26 ∧ twbReserved 0 = true ∧ live.twb.free = false ∧
      (at_ 0x40000000).g F.twbPtrPtr = 0x40000000 ∧ (at_ 0x40000000).sound = true ∧ (at_ 0xFFFFFFFC).g F.twbPtrPtr = 0xFFFFFFFC ∧
      mapped 0xFFFFFFFC = false ∧ twbHs 0x27 = false ∧ (0x27 : BitVec 7) ≠ 0x26) := by decide +kernel

/-- A bus whose configuration in force has PEC. -/
def pecBus (s : State) : State := s.modTwb (fun t => { t with cfg := { t.cfg with pec := true } })

/-- TwoWireTransactions with PEC: the PEC byte of a write, and a write and a read that succeed. -/
theorem witness_TwoWirePec : (let bs : List Byte := [0x40, 0, 0, 0x1C] ++ leBytes 4 0xC35A;
    let pec : Byte := BitVec.ofNat 8 (crc8 (BitVec.ofNat 8 (2 * 0x26) :: bs))
    let v := ((pecBus (TwbOpened 0x26 false bus)).modTwb (fun t => { t with body := bs ++ [pec], writing := true, nacked := false })).p F.twbPtrPtr 0x4000001C
    let r := pecBus (TwbOpened 0x26 true (bus.p F.twbPtrPtr 0x40000000))
    (pecBus bus).twb.cfg.pec = true ∧ (pecBus bus).sound = true ∧ (portStoreAt 0 0x4000001C 4 0xC35A v).1 = .ok ∧
      (portStoreAt 0 0x4000001C 4 0xC35A v).2.g F.twbPtrPtr = 0x4000001C ∧ (portLoadAt 0 0x40000000 4 r).1 = .ok ∧
      (portLoadAt 0 0x40000000 4 r).2.2.g F.twbPtrPtr = 0x40000000 ∧ pec ≠ pec + 1) := by decide +kernel

/-- TwoWireEvents: an open transaction with timeouts on and off, an alert pending, a sleeping node with each WAKE, the second port free, held, without pins, with busy lines, running. -/
theorem witness_TwoWireEvents : (let o := (bus.modTwb (fun t => { t with open_ := true, cfg := { t.cfg with toen := true } })).p F.twbPtrPtr 0x40000000;
    let asleep := fun (w : Bool) => { (bus.modTwb (fun t => { t with cfg := { t.cfg with wake := w } })).p F.hkrSleepWkTwb 1 with
      pow := { bus.pow with phase := .asleep } }
    let mine := (live.p F.twb2OwnHeld 1).p F.twb2OwnOwner 7
    let pins := (mine.p1 F.sysGpFunc 18 3).p1 F.sysGpFunc 19 3
    awake o = true ∧ o.twb.open_ = true ∧ o.sound = true ∧ bus.twb.open_ = false ∧ bus.twb.hs = false ∧ (bus.modTwb (fun t => { t with hs := true })).twb.hs = true ∧
      (portLoadAt 0 0x40000000 4 o).2.2.g F.twbPtrPtr = 0x40000000 ∧ (portStoreAt 0 0x40000000 4 9 o).2.g F.twbPtrPtr = 0x40000000 ∧ o.g F.twbPtrPtr = 0x40000000 ∧ o.twb.cfg.toen = true ∧ (bus.modTwb (fun t => { t with cfg := { t.cfg with toen := false } })).twb.cfg.toen = false ∧ (o.p F.twbAlertPend 1).b F.twbAlertPend = true ∧
      o.twb.free = true ∧ bus.b F.twbAlertPend = false ∧ reach 0 F.twbAlertSw.reg .write bus = true ∧ (8 : BitVec 4).toNat.testBit 3 = true ∧
      (∀ w : Bool, (asleep w).pow.phase = .asleep ∧ (asleep w).sound = true ∧ (asleep w).b F.hkrSleepWkTwb = true ∧
        (asleep w).twb.cfg.addr = 0x26 ∧ twbReserved 0x26 = false ∧ (asleep w).twb.cfg.wake = w) ∧ bus.pow.phase ≠ .asleep ∧
      reach 7 F.twb2CmdGo.reg .write live = true ∧ live.b F.twb2OwnHeld = false ∧ mine.b F.twb2OwnHeld = true ∧
      mine.g F.twb2OwnOwner = 7 ∧ reach 7 F.twb2CmdGo.reg .write mine = true ∧ reach 8 F.twb2CmdGo.reg .write mine = true ∧
      mine.sound = true ∧ twb2Run mine = false ∧ twb2Pins mine = false ∧ twb2Pins pins = true ∧ pins.sound = true ∧
      twb2Run pins = false ∧ reach 7 F.twb2CmdGo.reg .write pins = true ∧ twb2Run (pins.p F.twb2StatState 1) = true ∧
      ((pins.p F.twb2StatState 1).p F.twb2CfgToen 1).b F.twb2CfgToen = true ∧ (pins.p F.twb2StatState 1).sound = true ∧
      (16 : BitVec 5) ≤ 16) := by decide +kernel

/-- RealTimeClock: K at and beyond its limits, a measurement under way and none, a lockout, an open window that ends, alarms due with and without a repeat, the oscillator on and off. -/
theorem witness_RealTimeClock : (let l := live.p F.stmStatState 2;
    let w : State := { atTime 16 0 (live.p F.rtcTrstatState 2) with rtc := { live.rtc with k := 4 } }
    let al := ((live.p F.rtcStatOscok 1).p F.rtcSecSec 5).p1 F.rtcAlmCtlEn 1 1
    reach 0 F.rtcSecSec.reg .read live = true ∧ reach 0 F.rtcTrctlStart.reg .write live = true ∧
      (live.p F.rtcStatLockout 1).b F.rtcStatLockout = true ∧ reach 0 F.rtcTrctlStart.reg .write (live.p F.rtcStatLockout 1) = true ∧
      live.b F.rtcStatLockout = false ∧ live.b F.rtcTrstatState = false ∧ (live.p F.rtcTrstatState 1).b F.rtcTrstatState = true ∧
      (3 : BitVec 5) < 4 ∧ (16 : BitVec 5) < 17 ∧ live.g F.stmStatState ≠ 2 ∧ l.g F.stmStatState = 2 ∧
      reach 0 F.rtcTrctlStart.reg .write l = true ∧ l.b F.rtcStatLockout = false ∧ l.b F.rtcTrstatState = false ∧ live.sound = true ∧
      awake w = true ∧ w.sound = true ∧ w.g F.rtcTrstatState = 2 ∧ (cycleNow w + 2 ^ 32 - w.rtc.opened) % 2 ^ 32 = 2 ^ w.rtc.k ∧
      (w.p F.rtcTrctlAuto 1).b F.rtcTrctlAuto = true ∧ w.b F.rtcTrctlAuto = false ∧
      (∀ m ∈ [(2 ^ 25 : Nat) / 100], let r : Int := 100; let q : Int := 2 ^ 21 * 2 ^ 4; let e := (2 * (32000000 * (m * r - q)) + q) / (2 * q);
        w.g F.stmCfgNom = 0 ∧ max (-16384) (min 16384 e) = e) ∧
      alarmDue 0 live = false ∧ awake al = true ∧ al.b F.rtcStatOscok = true ∧ alarmDue 1 al = true ∧ alarmDue 0 al = false ∧
      al.sound = true ∧ al.g1 F.rtcAlmCtlRepeat 1 = 0 ∧ 0 < (al.p1 F.rtcAlmCtlRepeat 1 60).g1 F.rtcAlmCtlRepeat 1 ∧
      alarmDue 1 (al.p1 F.rtcAlmCtlRepeat 1 60) = true ∧ al.pow.phase ≠ .dark ∧ al.b F.rtcTrstatState = false ∧
      live.b F.rtcStatOscok = false ∧ (al.p F.rtcTrstatState 1).b F.rtcTrstatState = true ∧ (al.p F.rtcTrstatState 1).sound = true) := by
  decide +kernel

/-- FaultBlock: severe sources with and without a flag; a demand, a disagreement that begins, one that ends in time and one that lasts; DISCREPANCY in health and not. -/
theorem witness_FaultBlock : (let s := (live.p F.fltSevSev 0x84).p1 F.pstStatOc1 2 1;
    let d : State := { live with flt := { live.flt with pinA := false, pinB := false, disag := some (0, 5) } }
    let late := d.p F.fltUstUs 5000
    reach 0 F.fltSevSev.reg .write s = true ∧ s.sound = true ∧ srcFlagged 7 s = true ∧ srcFlagged 2 s = false ∧
      awake live = true ∧ live.flt.pinA = true ∧ live.flt.pinB = false ∧ safeDemand live = false ∧ safeDisagree live = false ∧
      (!false || true) = true ∧ ((!false) != true) = false ∧ ((!false) != false) = true ∧ awake d = true ∧ d.sound = true ∧
      safeDemand d = true ∧ safeDisagree d = true ∧ (!true || false) = false ∧ d.flt.disag = some (0, 5) ∧ disagTime 0 d < 1000 * 5 ∧
      discrepancyDue late = true ∧ late.sound = true ∧ discrepancyDue live = false ∧
      reach 0 F.fltSafestatDiscrepancy.reg .write live = true ∧ reach 0 F.fltSafestatDiscrepancy.reg .write d = true) := by decide +kernel

/-- Fan: every state of the start, demands at and below MINSPD, RUN, a supply on and off, zones on and off, the LOOP mode and another. -/
theorem witness_Fan : (let on := fun (st : Nat) => (live.p F.fanStatState st).p F.fanSpdMinspd 600;
    let fix := fun (st spd : Nat) => { ((on st).p F.fanCtlMode 3).p F.fanFixSpd spd with fan := { live.fan with mode := 3 } }
    let three := fun (n : Nat) => { (on 3).p F.fanStatTry n with fan := { live.fan with step3 := true } }
    (∀ st ∈ [0, 1, 2, 3, 4, 5, 6], awake (on st) = true ∧ (on st).sound = true ∧ fanState (on st) = st) ∧
      (∀ st ∈ [0, 4], (fix st 600).g F.fanCtlMode = (fix st 600).fan.mode ∧ fanState (fix st 600) = st ∧ (fix st 600).sound = true ∧
        (fix st 600).g F.fanSpdMinspd ≤ fanRaw (fix st 600) ∧ fanBarred (fix st 600) = false ∧ (fix st 600).g F.fanDutyDuty ≤ 1023) ∧
      fanRaw (fix 0 599) < (fix 0 599).g F.fanSpdMinspd ∧ ((on 0).p1 F.fanZSrcEn 7 1).b1 F.fanZSrcEn 7 = true ∧
      (on 0).b1 F.fanZSrcEn 7 = false ∧ (on 0).fan.mode ≠ 2 ∧ (on 3).fan.step3 = false ∧
      (∀ n ∈ [5, 6], (three n).sound = true ∧ fanState (three n) = 3 ∧ (three n).fan.step3 = true ∧ (three n).g F.fanStatTry = n) ∧
      ((on 4).p F.fanCfgFgen 1).b F.fanCfgFgen = true ∧ domUp 14 (on 4) = true ∧ (on 4).fan.vm = true ∧
      (let v : State := { live with fan := { live.fan with vm := false } }; awake v = true ∧ v.sound = true ∧ v.fan.vm = false) ∧
      (let v : State := { live with fan := { live.fan with mode := 2 } }; v.fan.mode = 2 ∧ v.sound = true)) := by decide +kernel

/-! ### Fuses, life cycle, mailbox, TAP and CRY -/

/-- A program command in a life-cycle state. -/
def fuse (st w req : Nat) : State := ((live.p F.lcsStateState st).p F.otpPaddrOfs (4 * w)).p F.otpPdataData req

/-- No OTP, LCS or mailbox command runs and the supply does not warn. -/
def free (s : State) : Bool := decide (s.sec.cmd = none) && !s.b F.sysSupstatWarn

/-- Fuses: words at both ends of every region, each lock, a valid key, burns that end well and badly, advances at their limits. -/
theorem witness_Fuses :
    (∀ e ∈ [(0, 0), (0, 0x1FF), (1, 0x204), (1, 0x207), (1, 0x400), (1, 0x408), (1, 0x40F), (1, 0x418), (1, 0x5FF), (0, 0x200), (0, 0x203),
      (0, 0x209), (0, 0x3FF)], let s := fuse e.1 e.2 5;
      reach 0 F.otpPcmdKey.reg .write s = true ∧ s.g F.otpPaddrOfs / 4 = e.2 ∧ s.g F.otpPaddrOfs % 4 = 0 ∧ s.g F.otpPdataData = 5 ∧
        s.g F.lcsStateState = e.1 ∧ (s.g F.otpLockLocks).testBit 0 = false ∧ (s.g F.otpLockLocks).testBit 1 = false ∧
        (s.g F.otpLockLocks).testBit 2 = false ∧ keyField 0 s = false ∧ keyField 1 s = false ∧ free s = true ∧
        free (s.p F.sysSupstatWarn 1) = false) ∧
    (∀ e ∈ [(0, 5), (1, 0x500), (0, 0x10000)], let s := fuse e.1 0x208 e.2;
      reach 0 F.otpPcmdKey.reg .write s = true ∧ s.g F.otpPaddrOfs / 4 = 0x208 ∧ s.g F.otpPdataData = e.2 ∧ s.g F.lcsStateState = e.1 ∧ free s = true) ∧
    (∀ e ∈ [(1, 0), (2, 1), (2, 0)], let s := (fuse e.1 0x410 1).p F.lcsRbrunRbver e.2;
      reach 0 F.otpPcmdKey.reg .write s = true ∧ s.g F.otpPaddrOfs / 4 = 0x410 ∧ s.g F.lcsStateState = e.1 ∧
        (reqRbTop 0x410 1 ≤ s.g F.lcsRbrunRbver ↔ e.2 = 1) ∧ (s.g F.otpLockLocks).testBit 3 = false ∧ free s = true) ∧
    (∀ b < 7, ((fuse 1 0 5).p F.otpLockLocks (2 ^ b)).g F.otpLockLocks = 2 ^ b) ∧ (fuse 1 0x204 0).g F.otpPdataData = 0 ∧
    keyField 1 ((fuse 1 0x204 5).modSec (fun x => { x with lo := [(0x208, 0xFF00)] })) = true ∧
    ((fuse 0 0x200 0).modSec (fun x => { x with rngOut := true })).sec.rngOut = true ∧ (fuse 0 0x200 0).g F.otpPaddrOfs = 0x800 ∧
    (let s := live.modSec (fun x => { x with cmd := some (.program 0x5FF 0xF false none) });
      runs 12 s = true ∧ s.sound = true ∧ s.sec.cmd = some (.program 0x5FF 0xF false none) ∧
        otpHi 0x5FF (otpBurn 0x5FF 0xF 0xF s) &&& 0xF = 0xF ∧ otpHi 0x5FF (otpBurn 0x5FF 0xE 0xE s) &&& 0xF ≠ 0xF ∧ live.sec.cmd = none) ∧
    (let s := (live.p F.lcsRbcntCount 13).p F.lcsRbrunRbver 256;
      reach 0 F.otpRbadvN.reg .write s = true ∧ s.g F.lcsRbcntCount < 256 ∧ 13 ≤ s.g F.lcsRbcntCount ∧ s.g F.lcsStateState = 1 ∧
        free s = true ∧ ((s.p F.lcsStateState 2).p F.lcsRbrunRbver 255).g F.lcsRbrunRbver < 256 ∧
        (s.p F.lcsStateState 2).g F.lcsRbrunRbver = 256 ∧ (s.p F.lcsStateState 3).g F.lcsStateState = 3) := by decide +kernel

/-- FusesAndLifeCycle: transitions from each state with each precondition met and not, by DEBUG and others; each transition at its end. -/
theorem witness_LifeCycle :
    (let d := ((((live.p F.lcsStateState 0).p F.sysBootstatStep 7).p2 F.accEntryRights 23 3 0xFFF).modSec (fun x => { x with root := some 1, lo := [(0, 1)], hi := [(0, 1)], tap := .debug }));
      (∀ t < 28, rightsOf t 3 d ≠ 0) ∧ d.g F.lcsStateState = 0 ∧ d.sec.root.isSome = true ∧ otpLo 0 d % 2 ^ 32 ≠ 0 ∧ free d = true ∧
        (d.g F.otpLockLocks).testBit 4 = false ∧ reach 0 F.lcsCmdKey.reg .write d = true ∧
        idLive 3 d = true ∧ mapped F.lcsCmdKey.reg = true ∧ widthOk F.lcsCmdKey.reg 4 = true ∧ domUp (domainOf F.lcsCmdKey.reg) d = true ∧
        granted 3 F.lcsCmdKey.reg .write d = true ∧ ({ d with sec := { d.sec with root := none } } : State).sec.root = none) ∧
    (let s := live.modSec (fun x => { x with dev := some 1, lo := [(0x408, 1)] });
      s.g F.lcsStateState = 1 ∧ reach 0 F.lcsCmdKey.reg .write s = true ∧ s.sec.dev.isSome = true ∧ hashBurned s = true ∧ free s = true ∧
        (s.g F.otpLockLocks).testBit 4 = false ∧ live.sec.dev = none ∧ reach 0 F.lcsCmdKey.reg .write (live.p F.otpLockLocks 0x10) = true ∧
        (live.p F.otpLockLocks 0x10).g F.otpLockLocks = 0x10 ∧ (live.p F.lcsStateState 2).g F.lcsStateState = 2) ∧
    (∀ n ∈ [1, 2, 3, 4], let s := live.modSec (fun x => { x with cmd := some (.transition n false) });
      runs 12 s = true ∧ s.sound = true ∧ s.sec.cmd = some (.transition n false) ∧ s.sec.lo = s.sec.hi) := by decide +kernel

/-- Mailbox state: life-cycle state, command, nonce and the key and signature words. -/
def mail (st op arg addr data nonce e qx qy : Nat) (ref : Nat) (hash : List Nat) : State :=
  let w := fun (v k : Nat) => ofLe (((numBytes 32 v).drop (4 * k)).take 4)
  let s := (((((live.p F.lcsStateState st).p F.lcsAcmdOp op).p F.lcsAcmdArg arg).p F.lcsAaddrAddr addr).p F.lcsAdataData data).p1 F.lcsNonceNonce 0 nonce
  let s := (List.range 8).foldl (fun t k => (t.p1 F.lcsApubWord k (w qx k)).p1 F.lcsApubWord (8 + k) (w qy k)) s
  let s := (List.range 8).foldl (fun t k => (t.p1 F.lcsAsigWord k (w e k)).p1 F.lcsAsigWord (8 + k) (w e k)) s
  let o := hash.zipIdx.map (fun p => (ref + p.2, p.1))
  s.modSec (fun x => { x with lo := o, hi := o })

/-- Everything of `MailPassed` but the signature. -/
def mailFits (op : Nat) (s : State) : Bool :=
  reach 0 F.lcsAgoGo.reg .write s && decide (s.g F.lcsAcmdOp = op) && !(s.g F.otpLockLocks).testBit 6 && !s.sec.rngOut &&
    !s.b F.lcsAstatBusy && opAdmitted op (s.g F.lcsAcmdArg) s && (List.range 8).any (fun k => decide (otpLo (refHash op s + k) s ≠ 0)) &&
    (List.range 8).all (fun k => decide (otpLo (refHash op s + k) s = otpHi (refHash op s + k) s)) && free s

/-- A fitting command whose signature verifies has passed. -/
theorem mail_passed {op : Nat} {s : State} (h : mailFits op s = true) (hv : mailVerifies op s = true) : MailPassed op 0 s := by
  simp only [mailFits, Bool.and_eq_true, Bool.not_eq_true', decide_eq_true_eq, List.any_eq_true, List.all_eq_true, List.mem_range, free] at h
  obtain ⟨⟨⟨⟨⟨⟨⟨⟨a, b⟩, c⟩, d⟩, e⟩, f⟩, ⟨k, hk, g⟩⟩, i⟩, j, l⟩ := h
  exact ⟨reaches_of a, b, c, d, e, f, ⟨k, hk, g⟩, i, hv, j, l⟩

/-- A signature is judged from the message and the words of key and signature. -/
theorem mail_verifies {op e qx qy : Nat} {s : State} {m ref : List Byte} (hm : mailMessage s = m) (he : beNum (sha256 m) = e)
    (hp : regBytes F.lcsApubWord 16 s = numBytes 32 qx ++ numBytes 32 qy) (hs : regBytes F.lcsAsigWord 16 s = numBytes 32 e ++ numBytes 32 e)
    (hr : otpBytes (refHash op s) 8 s = ref) (hh : sha256 (numBytes 32 qx ++ numBytes 32 qy) = ref)
    (h1 : beNum ((numBytes 32 qx ++ numBytes 32 qy).take 32) = qx) (h2 : beNum ((numBytes 32 qx ++ numBytes 32 qy).drop 32) = qy)
    (h3 : beNum ((numBytes 32 e ++ numBytes 32 e).take 32) = e) (h4 : beNum ((numBytes 32 e ++ numBytes 32 e).drop 32) = e)
    (hv : ecdsaVerify e qx qy e e = true) : mailVerifies op s = true := by
  simp only [mailVerifies, hm, he, hp, hs, hr, hh, h1, h2, h3, h4, hv, decide_true, Bool.and_self]

/-- A signed mailbox command of OP 1. -/
def mailProgram : State :=
  mail 2 1 0 4160 5 2 0x1bac951a7709bead329b4028f7412e2336d74a7fde52c5e4b59a0bc24156e77c 0xce4dba56489003bbfc7827cc36ba78513ab311eeffd77d891b8021a86f1d1a38
    0x5eedfdfc3a468a07bd9a6a393ee15a8b5e6b7ae2d2706a9fcdad30bb4a6c4444 0x408 [2880364930, 1811481879, 2493735903, 2502004881, 3843146076, 3837103288, 2405999049, 3053402030]

/-- MailboxTapAndCry: the mailbox command of OP 1 passes every check. -/
theorem witness_MailPassed1 : MailPassed 1 0 mailProgram ∧ mailProgram.sound = true := by
  refine ⟨mail_passed (by decide +kernel) (by
    apply mail_verifies (e := 0x1bac951a7709bead329b4028f7412e2336d74a7fde52c5e4b59a0bc24156e77c) (qx := 0xce4dba56489003bbfc7827cc36ba78513ab311eeffd77d891b8021a86f1d1a38)
      (qy := 0x5eedfdfc3a468a07bd9a6a393ee15a8b5e6b7ae2d2706a9fcdad30bb4a6c4444)
      (m := [0, 0, 0, 0, 0, 0, 0, 0, 2, 0, 0, 0, 0, 0, 0, 0, 0, 0, 0, 0, 0, 0, 0, 0, 1, 0, 0, 0, 64, 16, 0, 0, 5, 0, 0, 0])
      (ref := [130, 225, 174, 171, 23, 5, 249, 107, 223, 99, 163, 148, 145, 144, 33, 149, 92, 193, 17, 229, 184, 140, 181, 228, 201, 161, 104, 143, 174, 55, 255, 181]) <;> decide +kernel), by decide +kernel⟩

/-- A signed mailbox command of OP 2. -/
def mailTransition : State :=
  mail 2 2 3 0 0 4 0xda0343ca92ed9ddc865703147ba90ede9db8304947cadc226fe8323357111655 0xff462194ab99f1779486624afe5a86c1d9161fec6dfa14914fec18dd94b7b9dd
    0xec448bf99a6c4592b8b59679db5bd649ca20e754ad3ad3d2a24002d81917e63c 0x408 [3243753308, 146286826, 3528556268, 2676793643, 806704977, 2716957161, 1258202885, 2755427350]

/-- MailboxTapAndCry: the mailbox command of OP 2 passes every check. -/
theorem witness_MailPassed2 : MailPassed 2 0 mailTransition ∧ mailTransition.sound = true := by
  refine ⟨mail_passed (by decide +kernel) (by
    apply mail_verifies (e := 0xda0343ca92ed9ddc865703147ba90ede9db8304947cadc226fe8323357111655) (qx := 0xff462194ab99f1779486624afe5a86c1d9161fec6dfa14914fec18dd94b7b9dd)
      (qy := 0xec448bf99a6c4592b8b59679db5bd649ca20e754ad3ad3d2a24002d81917e63c)
      (m := [0, 0, 0, 0, 0, 0, 0, 0, 4, 0, 0, 0, 0, 0, 0, 0, 0, 0, 0, 0, 0, 0, 0, 0, 2, 3, 0, 0, 0, 0, 0, 0, 0, 0, 0, 0])
      (ref := [92, 191, 87, 193, 234, 40, 184, 8, 236, 126, 81, 210, 43, 161, 140, 159, 81, 87, 21, 48, 233, 121, 241, 161, 5, 167, 254, 74, 22, 124, 60, 164]) <;> decide +kernel), by decide +kernel⟩

/-- A signed mailbox command of OP 3. -/
def mailAnalysis : State :=
  mail 3 3 0 0 0 1 0xc1d599aea29eefbe2bd51dbe1ad5beb63f2b793f98d80c851ffd0220a34653ed 0xf657985308b020ad94a4df5b62976d0b992a1ccac5894671f909a5ab21a66921
    0x40fccdab53aad40373f1a279a4d797a0f584ea7a670fab4b72a91757c65db986 0x1f8 [782281579, 249174355, 2345767388, 2073525308, 174333287, 1362326493, 1172215591, 2679381499]

/-- MailboxTapAndCry: the mailbox command of OP 3 passes every check. -/
theorem witness_MailPassed3 : MailPassed 3 0 mailAnalysis ∧ mailAnalysis.sound = true := by
  refine ⟨mail_passed (by decide +kernel) (by
    apply mail_verifies (e := 0xc1d599aea29eefbe2bd51dbe1ad5beb63f2b793f98d80c851ffd0220a34653ed) (qx := 0xf657985308b020ad94a4df5b62976d0b992a1ccac5894671f909a5ab21a66921)
      (qy := 0x40fccdab53aad40373f1a279a4d797a0f584ea7a670fab4b72a91757c65db986)
      (m := [0, 0, 0, 0, 0, 0, 0, 0, 1, 0, 0, 0, 0, 0, 0, 0, 0, 0, 0, 0, 0, 0, 0, 0, 3, 0, 0, 0, 0, 0, 0, 0, 0, 0, 0, 0])
      (ref := [107, 171, 160, 46, 83, 25, 218, 14, 220, 145, 209, 139, 60, 124, 151, 123, 103, 29, 100, 10, 221, 115, 51, 81, 39, 151, 222, 69, 251, 29, 180, 159]) <;> decide +kernel), by decide +kernel⟩

/-- MailboxTapAndCry: what the passed commands leave open: a wrong signature, a lock, a withheld TRNG, an unknown reference hash, another OP. -/
theorem witness_Mailbox : (let s := mail 3 3 0 0 0 1 5 6 7 0x1F8 [1, 2, 3, 4, 5, 6, 7, 8];
    mailFits 3 s = true ∧ s.sound = true ∧ s.g F.lcsAcmdOp ≠ 1 ∧ ((s.p F.otpLockLocks 0x40).g F.otpLockLocks).testBit 6 = true ∧
      reach 0 F.lcsAgoGo.reg .write (s.p F.otpLockLocks 0x40) = true ∧ (s.modSec (fun x => { x with rngOut := true })).sec.rngOut = true ∧
      opAdmitted 3 0 (s.p F.lcsStateState 2) = false ∧ (∀ k < 8, otpLo (refHash 3 live + k) live = 0) ∧
      free (s.p F.sysSupstatWarn 1) = false ∧ ecdsaValid 6 7 5 5 = false) := by decide +kernel

/-- MailboxTapAndCry: the TAP with and without D1's power, in the states that open DEBUG and VTEST. -/
theorem witness_Tap : d1Powered live = true ∧ d1Powered dead = false ∧ (∀ x < 8, pstMode x live = 0) ∧ live.sound = true ∧
    (inMode 2 1 live).sound = true ∧ pstMode 2 (inMode 2 1 live) ≠ 0 ∧ d1Powered (inMode 2 1 live) = true ∧
    ((live.p F.lcsStateState 0).p F.sysBootstatStep 7).b F.sysBootstatStep = true ∧ (live.p F.lcsStateState 3).g F.lcsStateState = 3 := by
  decide +kernel

/-- A CRY command of FD1 on key slot 3 that runs, its source the last 16 bytes of SRAM. -/
def crying (op len src : Nat) : State :=
  let c : CryCmd := { op := op, ksel := 3, id := 7, src := src, dst := 0xFFFE0, len := len }
  let m := [0xFFFE0, 0xFFFE8, 0xFFFF0, 0xFFFF8].foldl (fun t a => after (wr64 0 a 0x80) t) live
  { m with sec := { m.sec with cry := some c, keys := [(3, 5)], dev := some 9 } }

/-- MailboxTapAndCry: a verification whose source is the first 160 bytes of SRAM, a draw of 4 bytes. -/
theorem witness_CryLong : (let m := (List.range 20).foldl (fun t k => after (wr64 0 (8 * k) k) t) live;
    let c4 : CryCmd := { op := 4, ksel := 0, id := 7, src := 0, dst := 0, len := 160 }
    let c6 : CryCmd := { op := 6, ksel := 0, id := 7, src := 0, dst := 0, len := 4 }
    let s6 := m.modSec (fun x => { x with cry := some c6 })
    (crySource c4 160 (m.modSec (fun x => { x with cry := some c4 }))).1 = .ok ∧ runs 12 m = true ∧ s6.sec.cry = some c6 ∧
      s6.sec.rngOut = false ∧ (cryOut c6 ((rngBytes 1 s6).1.take 4) (rngBytes 1 s6).2).1 = .ok) := by decide +kernel

/-- MailboxTapAndCry: each operation's source and destination succeed; a source that fails; slots loaded by the initiator, by another and not; the TRNG failed and not. -/
theorem witness_Cry : (∀ e ∈ [(1, 16), (2, 16), (3, 16), (5, 16)], let s := crying e.1 e.2 0xFFFF0;
      let c : CryCmd := { op := e.1, ksel := 3, id := 7, src := 0xFFFF0, dst := 0xFFFE0, len := e.2 }
      runs 12 s = true ∧ s.sound = true ∧ s.sec.cry = some c ∧ (crySource c 16 s).1 = .ok ∧ (crySource c 16 s).2.2.sec = s.sec ∧
        (cryOut c (List.replicate 16 1) (crySource c 16 s).2.2).1 = .ok ∧ (cryOut c (List.replicate 32 1) (crySource c 16 s).2.2).1 = .ok ∧
        Tab.get s.sec.keys 3 = some 5 ∧ s.sec.dev = some 9) ∧
    (let s := crying 1 16 0xFFFC0; (crySource { op := 1, ksel := 3, id := 7, src := 0xFFFC0, dst := 0xFFFE0, len := 16 } 16 s).1 ≠ .ok) ∧
    (let s := (live.p F.crySlotstatLoaded 8).p (F.crySlotstatOwner 3) 7;
      reach 7 F.cryCmdOp.reg .write s = true ∧ s.b F.cryStatBusy = false ∧ (s.p F.cryStatBusy 1).b F.cryStatBusy = true ∧
        SlotJudge 7 3 s = none ∧ SlotJudge 8 3 s = some .denied ∧ SlotJudge 7 3 live = some .invalid ∧
        reach 7 F.cryKeyldLoad.reg .write s = true ∧ reach 8 F.cryKeyldLoad.reg .write s = true ∧ getBit F.crySlotstatLoaded 3 s = true ∧
        s.g (F.crySlotstatOwner 3) = 7 ∧ s.sound = true ∧ Tab.rising s.sec.keys = true ∧ live.sec.cry = none ∧
        runs 12 live = true ∧ live.b F.cryStatRngfail = false ∧ (live.p F.cryStatRngfail 1).b F.cryStatRngfail = true) := by decide +kernel
end Sys2Proof.Tests
end

section
/-! SUPPORT. String time's stamp: what reads of STM_NOWC and STM_NOWP answer and keep, and from it O16 (R59). -/

open Sys2Proof Sys2Proof.Machine

namespace Sys2Proof.Proofs

/-! ### Accesses that reach their register -/

/-- A 32-bit read of a register, with no hardware count on its edge, answers what the register's block answers. -/
theorem rcRead_reaches {id : Id} {addr : Word} {s : State} (h : Reaches id addr.toNat .read s)
    (hp : 0x40000000 ≤ addr.toNat) :
    exec (.rcRead id addr 2 0) s =
      .next ((regRead id addr.toNat s).2.2.answer (regRead id addr.toNat s).1 (regRead id addr.toNat s).2.1) :=
  congrArg Host.Outcome.next (cmdRead_reaches h hp)

/-- STM_NOWC and STM_NOWP stand in one sub-region of one block: who reaches the first reaches the second. -/
theorem reaches_stmNowp_of_stmNowc {id : Id} {s : State} (h : Reaches id F.stmNowcCycle.reg .read s) :
    Reaches id F.stmNowpPhase.reg .read s := by
  obtain ⟨hlive, _, hgrant, _, hdom, hrivals⟩ := h
  have hdomain : domainOf F.stmNowpPhase.reg = domainOf F.stmNowcCycle.reg := by decide
  have htarget : targetOf F.stmNowpPhase.reg s = targetOf F.stmNowcCycle.reg s := rfl
  exact ⟨hlive, by decide +kernel, by rwa [granted, htarget], by decide, by rwa [hdomain], by rwa [htarget]⟩

/-! ### The snapshots -/

/-- Initiator `id` keeps the whole stamp: cycle, phase and the upper 16 fraction bits (R59). -/
def keepStamp (id : Id) (s : State) : State :=
  s.modStm (fun t => { t with snap := Tab.put 0 t.snap id (t.acc.toNat / 2 ^ 16) })

/-- Neither the snapshots nor the answer port decides whether an access reaches its register. -/
theorem reaches_keepStamp_answer {id other : Id} {reg d : Nat} {k : AccKind} {c : Code} {s : State}
    (h : Reaches id reg k s) : Reaches id reg k ((keepStamp other s).answer c d) := h

/-- Keeping a stamp keeps the table of snapshots in order. -/
theorem keepStamp_rising {id : Id} {s : State} (h : Tab.rising s.stm.snap = true) :
    Tab.rising (keepStamp id s).stm.snap = true := Tab.rising_put _ _ _ _ h

/-- The initiator's own snapshot is the stamp. -/
theorem keepStamp_self {id : Id} {s : State} (h : Tab.rising s.stm.snap = true) :
    Tab.val 0 (keepStamp id s).stm.snap id = s.stm.acc.toNat / 2 ^ 16 := Tab.val_put_self _ _ _ _ h

/-- Every other initiator's snapshot stays. -/
theorem keepStamp_other {id : Id} {j : Nat} {s : State} (h : Tab.rising s.stm.snap = true) (hj : j ≠ id) :
    Tab.val 0 (keepStamp id s).stm.snap j = Tab.val 0 s.stm.snap j := Tab.val_put_other _ _ _ _ _ _ h hj

/-! ### The two reads -/

/-- A read of STM_NOWC answers the cycle, and its initiator keeps the stamp (R59). -/
theorem stmNowcRead_reaches {id : Id} {s : State} (h : Reaches id F.stmNowcCycle.reg .read s) :
    exec (.stmNowcRead id) s = .next ((keepStamp id s).answer .ok (s.stm.acc.toNat / 2 ^ 48)) :=
  congrArg Host.Outcome.next (cmdRead_reaches h (by decide))

/-- A read of STM_NOWP answers the low word of its initiator's snapshot and changes nothing else (R59). -/
theorem stmNowpRead_reaches {id : Id} {s : State} (h : Reaches id F.stmNowpPhase.reg .read s) :
    exec (.rcRead id (BitVec.ofNat 32 F.stmNowpPhase.reg) 2 0) s =
      .next (s.answer .ok (Tab.val 0 s.stm.snap id % 2 ^ 32)) :=
  rcRead_reaches h (by decide)

/-- A stamp's low word is its phase above its 16 fraction bits (R38). -/
theorem stamp_lowWord (acc : Nat) :
    acc / 2 ^ 16 % 2 ^ 32 = acc / 2 ^ 32 % 2 ^ 16 * 2 ^ 16 + acc / 2 ^ 16 % 2 ^ 16 := by omega

/-- An initiator whose snapshot was taken at `acc` reads the phase and fraction of `acc` in STM_NOWP (R59). -/
theorem stmNowpRead_of_snapshot {id : Id} {s : State} {acc : Nat} (h : Reaches id F.stmNowpPhase.reg .read s)
    (hsnap : Tab.val 0 s.stm.snap id = acc / 2 ^ 16) :
    exec (.rcRead id (BitVec.ofNat 32 F.stmNowpPhase.reg) 2 0) s =
      .next (s.answer .ok (acc / 2 ^ 32 % 2 ^ 16 * 2 ^ 16 + acc / 2 ^ 16 % 2 ^ 16)) := by
  rw [stmNowpRead_reaches h, hsnap, stamp_lowWord]

/-- Settles O16: a read of STM_NOWC keeps the stamp under its initiator's key alone, so STM_NOWP answers that stamp
both before and after another initiator's read. -/
theorem stampSnapshots : Obligations.StampSnapshots := by
  intro id other s hid hother hne hrise acc
  have hkey : id.val ≠ other.val := Fin.val_ne_of_ne hne
  have hnowp : Reaches id F.stmNowpPhase.reg .read s := reaches_stmNowp_of_stmNowc hid
  refine ⟨_, _, stmNowcRead_reaches hid, rfl, fun j hj => keepStamp_other hrise hj,
    stmNowcRead_reaches (reaches_keepStamp_answer hother), ?_, ?_⟩
  · exact stmNowpRead_of_snapshot (reaches_keepStamp_answer hnowp) (keepStamp_self hrise)
  · have hkept := (keepStamp_other (keepStamp_rising hrise) hkey).trans (keepStamp_self hrise)
    exact stmNowpRead_of_snapshot (reaches_keepStamp_answer (reaches_keepStamp_answer hnowp)) hkept

end Sys2Proof.Proofs
end

section
/-! SUPPORT. A context's fault while nobody waits and no lease stands: what its steps keep, and from it O14 (R142, R148 to R150). -/

open Sys2Proof Sys2Proof.Machine

namespace Sys2Proof.Proofs

/-! ### States in which a raise wakes nobody and a halt hands nothing on -/

/-- What every entry and the default have, every value read has. -/
theorem tabVal_of_all {α : Type} {t : Tab α} {p : α → Bool} {d : α} (h : t.all (fun e => p e.2) = true) (hd : p d = true)
    (k : Nat) : p (Tab.val d t k) = true := by
  unfold Tab.val
  induction t with
  | nil => exact hd
  | cons e t ih =>
    simp only [List.all_cons, Bool.and_eq_true] at h
    simp only [Tab.get]
    split
    · exact h.1
    · split
      · exact hd
      · exact ih h.2

/-- A property of every entry survives a put of a value that has it. -/
theorem tabAll_put {α : Type} [DecidableEq α] {t : Tab α} {p : Nat × α → Bool} {d : α} {k : Nat} {v : α}
    (h : t.all p = true) (hv : p (k, v) = true) : (Tab.put d t k v).all p = true := by
  unfold Tab.put
  split
  · exact Tab.all_erase _ _ _ h
  · exact Tab.all_set _ _ _ _ h hv

/-- No context waits. -/
def NoneWaits (s : State) : Prop := s.seq.ctxs.all (fun e => e.2.st ≠ .wait) = true

theorem NoneWaits.st_ne_wait {s : State} (h : NoneWaits s) (c : Nat) : (s.ctx c).st ≠ .wait :=
  of_decide_eq_true (tabVal_of_all (p := fun x : Machine.Ctx => decide (x.st ≠ .wait)) h rfl c)

/-- No test finds a waiter. -/
theorem NoneWaits.waitersOn_nil {s : State} (h : NoneWaits s) (p : WaitFor → Bool) : waitersOn p s = [] := by
  simp only [NoneWaits, List.all_eq_true, decide_eq_true_eq] at h
  simp only [waitersOn, List.filter_eq_nil_iff, Bool.and_eq_true, decide_eq_true_eq, not_and]
  exact fun e he hst => absurd hst (h e he)

theorem NoneWaits.setCtx {s : State} {c : Nat} {x : Machine.Ctx} (h : NoneWaits s) (hx : x.st ≠ .wait) :
    NoneWaits (s.setCtx c x) := tabAll_put h (by simpa using hx)

/-- No edge is open, no context waits and no journal entry is leased; the register file and the contexts are in order. -/
structure Calm (s : State) : Prop where
  edge : s.edge = none
  regs : Tab.rising s.regs = true
  ctxs : Tab.rising s.seq.ctxs = true
  waits : NoneWaits s
  leases : s.jnl.live.all (fun e => e.lease.isNone) = true

theorem sound_edge_rising {s : State} (h : s.sound = true) :
    s.edge = none ∧ Tab.rising s.regs = true ∧ Tab.rising s.seq.ctxs = true := by
  simp only [State.sound, Bool.and_eq_true, Option.isNone_iff_eq_none] at h
  obtain ⟨⟨⟨⟨⟨hedge, hregs⟩, _⟩, hctxs⟩, _⟩, _⟩ := h
  exact ⟨hedge, hregs, hctxs⟩

theorem calm_of_sound {s : State} (h : s.sound = true) (hw : NoneWaits s)
    (hl : s.jnl.live.all (fun e => e.lease.isNone) = true) : Calm s := by
  obtain ⟨hedge, hregs, hctxs⟩ := sound_edge_rising h
  exact ⟨hedge, hregs, hctxs, hw, hl⟩

theorem Calm.setCtx {s : State} {c : Nat} {x : Machine.Ctx} (h : Calm s) (hx : x.st ≠ .wait) : Calm (s.setCtx c x) :=
  ⟨h.edge, h.regs, Tab.rising_put _ _ _ _ h.ctxs, h.waits.setCtx hx, h.leases⟩

theorem Calm.p2 {s : State} {f : Fam} {i j v : Nat} (h : Calm s) : Calm (s.p2 f i j v) :=
  ⟨h.edge, s.p2_rising f i j v h.regs, h.ctxs, h.waits, h.leases⟩

/-- A raise sets the line's pending latch, or nothing while D1 is held (R139). -/
theorem Calm.raiseLine_cases {s : State} (h : Calm s) (l : Nat) :
    raiseLine l s = s ∨ raiseLine l s = { s with seq := { s.seq with latch := s.seq.latch ||| (1#256 <<< l) } } := by
  cases hh : held s with
  | true => exact .inl (by simp [raiseLine, hh])
  | false => exact .inr (raiseLine_latches l s hh h.edge (h.waits.waitersOn_nil _) (h.waits.waitersOn_nil _))

/-- The end of a context's lease has no entry to release. -/
theorem Calm.leaseEnd_eq {s : State} (h : Calm s) (c : Nat) : leaseEnd c s = s.setCtx c { s.ctx c with lease := none } := by
  have hl := h.leases
  simp only [List.all_eq_true, Option.isNone_iff_eq_none] at hl
  have hnil : s.jnl.live.filter (fun e => e.lease = some c) = [] :=
    List.filter_eq_nil_iff.mpr fun e he => by simp [hl e he]
  simp [leaseEnd, hnil]

/-- No context has journal writes to finish. -/
theorem Calm.finishWrites_eq {s : State} (h : Calm s) (c : Nat) : finishWrites c s = s := by
  have hst := h.waits.st_ne_wait c
  unfold finishWrites
  split
  · contradiction
  · rfl

/-! ### What the steps of a fault keep -/

/-- What R148 records of a fault in the context. -/
def faultRecord (x : Machine.Ctx) : CtxState × Nat × Nat × Nat := (x.st, x.cause, x.code, x.fpc)

/-- The fields of SEQ that R149 records a fault in. -/
def faultFields : List Fam := [F.seqFltctxCtx, F.seqFltctxCause, F.seqFltctxCode, F.seqStatFault]

/-- From `s` to `t` the machine stays calm and context `c` in FAULT; its record, those of SEQ, every general register and
every pending latch but those of a fault (CTX_FAULT, SEQ_SEVERE, FLT_SEVERE) stay. -/
structure KeepsFault (c : Nat) (s t : State) : Prop where
  calm : Calm t
  record : faultRecord (t.ctx c) = faultRecord (s.ctx c)
  fields : ∀ f ∈ faultFields, t.g f = s.g f
  gr : ∀ d r, t.gr d r = s.gr d r
  latch : ∀ l, l ≠ 5 → l ≠ 6 → l ≠ 40 → t.seq.latch.getLsbD l = s.seq.latch.getLsbD l

theorem KeepsFault.refl {c : Nat} {s : State} (h : Calm s) : KeepsFault c s s :=
  ⟨h, rfl, fun _ _ => rfl, fun _ _ => rfl, fun _ _ _ _ => rfl⟩

theorem KeepsFault.st_eq {c : Nat} {s t : State} (h : KeepsFault c s t) : (t.ctx c).st = (s.ctx c).st :=
  congrArg Prod.fst h.record

/-- A step that is taken or not. -/
theorem KeepsFault.ite {c : Nat} {s t u : State} {p : Prop} [Decidable p] (ht : KeepsFault c s t) (hu : KeepsFault c s u) :
    KeepsFault c s (if p then t else u) := by
  split
  · exact ht
  · exact hu

/-- Replacing a context by one that does not wait, with `c`'s record unchanged. -/
theorem KeepsFault.setCtx {c d : Nat} {s t : State} {x : Machine.Ctx} (h : KeepsFault c s t) (hx : x.st ≠ .wait)
    (hc : c = d → faultRecord x = faultRecord (t.ctx c)) : KeepsFault c s (t.setCtx d x) where
  calm := h.calm.setCtx hx
  record := by
    refine Eq.trans ?_ h.record
    by_cases hcd : c = d
    · subst hcd; rw [State.setCtx_ctx_self _ _ _ h.calm.ctxs, hc rfl]
    · rw [State.setCtx_ctx_other _ _ _ _ h.calm.ctxs hcd]
  fields := h.fields
  gr := h.gr
  latch := h.latch

/-- Writing a field that records no fault. -/
theorem KeepsFault.p2 {c i j v : Nat} {s t : State} {f : Fam} (h : KeepsFault c s t)
    (hf : ∀ y ∈ faultFields, y.key 0 0 ≠ f.key i j) : KeepsFault c s (t.p2 f i j v) where
  calm := h.calm.p2
  record := h.record
  fields y hy := (State.p2_g2_other t f y i j v 0 0 h.calm.regs (hf y hy)).trans (h.fields y hy)
  gr := h.gr
  latch := h.latch

theorem KeepsFault.p1 {c i v : Nat} {s t : State} {f : Fam} (h : KeepsFault c s t)
    (hf : ∀ y ∈ faultFields, y.key 0 0 ≠ f.key i 0) : KeepsFault c s (t.p1 f i v) := h.p2 hf

theorem KeepsFault.p {c v : Nat} {s t : State} {f : Fam} (h : KeepsFault c s t)
    (hf : ∀ y ∈ faultFields, y.key 0 0 ≠ f.key 0 0) : KeepsFault c s (t.p f v) := h.p2 hf

theorem KeepsFault.sat1 {c i n : Nat} {s t : State} {f : Fam} (h : KeepsFault c s t)
    (hf : ∀ y ∈ faultFields, y.key 0 0 ≠ f.key i 0) : KeepsFault c s (t.sat1 f i n) := h.p1 hf

/-- Pushing a stamp. -/
theorem KeepsFault.setFlt {c : Nat} {s t : State} (h : KeepsFault c s t) (x : Flt) : KeepsFault c s { t with flt := x } :=
  ⟨⟨h.calm.edge, h.calm.regs, h.calm.ctxs, h.calm.waits, h.calm.leases⟩, h.record, h.fields, h.gr, h.latch⟩

/-- Raising a line of a fault: CTX_FAULT, SEQ_SEVERE or FLT_SEVERE. -/
theorem KeepsFault.raiseLine {c l : Nat} {s t : State} (h : KeepsFault c s t) (hl : l = 5 ∨ l = 6 ∨ l = 40) :
    KeepsFault c s (raiseLine l t) := by
  obtain e | e := h.calm.raiseLine_cases l <;> rw [e]
  · exact h
  · refine ⟨⟨h.calm.edge, h.calm.regs, h.calm.ctxs, h.calm.waits, h.calm.leases⟩, h.record, h.fields, h.gr,
      fun k h5 h6 h40 => Eq.trans ?_ (h.latch k h5 h6 h40)⟩
    have hk : k < l ∨ k - l ≠ 0 := by omega
    simp only [BitVec.getLsbD_or, BitVec.getLsbD_shiftLeft, BitVec.getLsbD_one]
    obtain hk | hk := hk <;> simp [hk]

/-- The urgent counts restart (R137). -/
theorem KeepsFault.normUrg {c : Nat} {s t : State} (h : KeepsFault c s t) : KeepsFault c s (normUrg t) := by
  refine List.foldlRecOn _ _ h fun u hu e _ => ?_
  dsimp only
  split
  · exact hu.setCtx (hu.calm.waits.st_ne_wait e.1) (fun hc => hc ▸ rfl)
  · exact hu

/-- The lease of a context ends (R190). -/
theorem KeepsFault.leaseEnd {c d : Nat} {s t : State} (h : KeepsFault c s t) : KeepsFault c s (leaseEnd d t) := by
  rw [h.calm.leaseEnd_eq d]
  exact h.setCtx (h.calm.waits.st_ne_wait d) (fun hc => hc ▸ rfl)

/-- Another context halts (R135). -/
theorem KeepsFault.haltCtx {c d : Nat} {s t : State} (h : KeepsFault c s t) (hcd : c ≠ d) : KeepsFault c s (haltCtx d t) := by
  simp only [Machine.haltCtx, h.calm.finishWrites_eq]
  exact (h.setCtx (by simp) (absurd · hcd)).leaseEnd.normUrg

/-- The contexts of a domain halt, but not `c`, which is in FAULT (R150). -/
theorem KeepsFault.seqHaltDomain {c dom : Nat} {s t : State} (h : KeepsFault c s t) (hc : (s.ctx c).st = .fault) :
    KeepsFault c s (seqHaltDomain dom t) := by
  refine List.foldlRecOn _ _ h fun u hu e _ => ?_
  have hfault : (u.ctx c).st = .fault := hu.st_eq.trans hc
  have hother : (u.ctx e.1).st ≠ .fault → c ≠ e.1 := fun hne heq => hne (heq ▸ hfault)
  dsimp only
  split
  · split
    case h_1 hst => exact hu.haltCtx (hother (by simp [hst]))
    case h_2 hst => exact hu.haltCtx (hother (by simp [hst]))
    case h_3 hst => exact hu.setCtx (by simp [hst]) (fun hc => hc ▸ rfl)
    case h_4 => exact hu
  · exact hu

/-- The severe action of source SEQ (R150). -/
theorem KeepsFault.seqSevere {c dom : Nat} {s t : State} (h : KeepsFault c s t) (hc : (s.ctx c).st = .fault) :
    KeepsFault c s (seqSevere dom t) :=
  (h.seqHaltDomain hc).raiseLine (.inr (.inl rfl))

/-- An event of source `k` with its stamp pushed and its status written, before a severe one raises its line (R427, R428). -/
def stamped (k : Nat) (s : State) : State :=
  let q := (stampEvent s :: fifoOf k s).take 8
  let sev := severeBy (s.g1 F.fltSrcCfgNm1 k + 1) (s.g1 F.fltSrcCfgT k) q
  let s := { s with flt := { s.flt with fifo := Tab.put [] s.flt.fifo k q } }
  ((s.p1 F.fltSrcStatDepth k q.length).p1 F.fltSrcStatLastsev k (bit sev)).sat1 F.fltSrcStatEvcnt k 1

/-- A stamped event that is severe sets its flag in FLT_SEV and raises FLT_SEVERE (R429). -/
theorem faultStamp_eq (k : Nat) (s : State) :
    let u := stamped k s
    (faultStamp k s).2 = if (faultStamp k s).1 then raiseLine lineFltSevere (u.p F.fltSevSev (u.g F.fltSevSev ||| 2 ^ k)) else u :=
  rfl

theorem KeepsFault.stamped {c : Nat} {s t : State} (h : KeepsFault c s t) : KeepsFault c s (stamped srcSeq t) :=
  (((h.setFlt _).p1 (by decide)).p1 (by decide)).sat1 (by decide)

/-- The event of source SEQ is stamped and judged (R426 to R429). -/
theorem KeepsFault.faultPush {c : Nat} {s t : State} (h : KeepsFault c s t) : KeepsFault c s (faultPush srcSeq t).2 := by
  unfold Machine.faultPush
  rw [h.calm.edge]
  split
  · exact h
  · rw [faultStamp_eq]
    exact .ite ((h.stamped.p (by decide)).raiseLine (.inr (.inr rfl))) h.stamped

/-! ### A context's fault -/

/-- A fault as it is recorded, in the context and in SEQ, before anything is raised (R148, R149). -/
def recordFault (c cause code : Nat) (s : State) : State :=
  let x := s.ctx c
  let t := s.setCtx c { x with
    st := .fault, cause := cause, code := code, fpc := x.pc, wait := none, since := 0, infl := none, stop := false }
  (((t.p F.seqFltctxCtx c).p F.seqFltctxCause cause).p F.seqFltctxCode code).p F.seqStatFault 1

theorem recordFault_ctx {c cause code : Nat} {s : State} (h : Calm s) :
    faultRecord ((recordFault c cause code s).ctx c) = (.fault, cause, code, (s.ctx c).pc) :=
  congrArg faultRecord (State.setCtx_ctx_self s c _ h.ctxs)

theorem calm_recordFault {c cause code : Nat} {s : State} (h : Calm s) : Calm (recordFault c cause code s) :=
  (h.setCtx (by simp)).p2.p2.p2.p2

/-- SEQ_FLTCTX and SEQ_STAT.FAULT hold the fault. -/
theorem recordFault_fields {c cause code : Nat} {s : State} (h : Calm s) (hc : c < 1024) (hcause : cause < 16)
    (hcode : code < 256) :
    let t := recordFault c cause code s
    t.g F.seqFltctxCtx = c ∧ t.g F.seqFltctxCause = cause ∧ t.g F.seqFltctxCode = code ∧ t.g F.seqStatFault = 1 := by
  have hp {u : State} {f : Fam} {v : Nat} (hu : Tab.rising u.regs = true) : Tab.rising (u.p f v).regs = true :=
    u.p2_rising f 0 0 v hu
  have h0 (x : Machine.Ctx) : Tab.rising (s.setCtx c x).regs = true := h.regs
  have h1 (x : Machine.Ctx) := hp (f := F.seqFltctxCtx) (v := c) (h0 x)
  have h2 (x : Machine.Ctx) := hp (f := F.seqFltctxCause) (v := cause) (h1 x)
  have h3 (x : Machine.Ctx) := hp (f := F.seqFltctxCode) (v := code) (h2 x)
  refine ⟨?_, ?_, ?_, State.p_g_self _ _ _ (h3 _)⟩
  · rw [recordFault, State.p_g_other _ _ _ _ (h3 _) (by decide), State.p_g_other _ _ _ _ (h2 _) (by decide),
      State.p_g_other _ _ _ _ (h1 _) (by decide), State.p_g_self _ _ _ (h0 _)]
    exact Nat.mod_eq_of_lt hc
  · rw [recordFault, State.p_g_other _ _ _ _ (h3 _) (by decide), State.p_g_other _ _ _ _ (h2 _) (by decide),
      State.p_g_self _ _ _ (h1 _)]
    exact Nat.mod_eq_of_lt hcause
  · rw [recordFault, State.p_g_other _ _ _ _ (h3 _) (by decide), State.p_g_self _ _ _ (h2 _)]
    exact Nat.mod_eq_of_lt hcode

/-- A fault is its record, then what R148 to R150 raise and end. -/
theorem ctxFault_eq (c cause code : Nat) (s : State) : ctxFault c cause code s =
    let t := recordFault c cause code s
    let r := faultPush srcSeq (raiseLine lineCtxFault (if cause = causeSemOrder then t.p F.seqStatOrder 1 else t))
    normUrg (leaseEnd c (if r.1 then seqSevere (s.ctx c).dom r.2 else r.2)) := rfl

/-- After its record, a fault keeps it (R148 to R150, R190). -/
theorem ctxFault_keepsFault {c cause code : Nat} {s : State} (h : Calm s) :
    KeepsFault c (recordFault c cause code s) (ctxFault c cause code s) := by
  have hst : ((recordFault c cause code s).ctx c).st = .fault := congrArg Prod.fst (recordFault_ctx h)
  have hrec : KeepsFault c (recordFault c cause code s) (recordFault c cause code s) := .refl (calm_recordFault h)
  have horder := KeepsFault.ite (p := cause = causeSemOrder) (hrec.p (f := F.seqStatOrder) (v := 1) (by decide)) hrec
  have hpush := (horder.raiseLine (l := lineCtxFault) (.inl rfl)).faultPush
  rw [ctxFault_eq]
  exact ((hpush.seqSevere hst).ite hpush).leaseEnd.normUrg

/-- With nobody waiting and no lease, a fault of a context records it and raises nothing but the lines of a fault. -/
theorem ctxFault_faults {c : Sys2Proof.Ctx} {cause code : Nat} {s : State} (h : Calm s) (hcause : cause < 16) (hcode : code < 256) :
    LelasFaults c cause code s (ctxFault c cause code s) ∧
      ∀ l, l ≠ 5 → l ≠ 6 → l ≠ 40 → (ctxFault c cause code s).seq.latch.getLsbD l = s.seq.latch.getLsbD l := by
  have hk := ctxFault_keepsFault (c := c) (cause := cause) (code := code) h
  have hrec := hk.record.trans (recordFault_ctx h)
  obtain ⟨hctx, hcs, hcd, hflt⟩ := recordFault_fields h c.isLt hcause hcode
  simp only [faultRecord, Prod.mk.injEq] at hrec
  obtain ⟨hst, hcause', hcode', hfpc⟩ := hrec
  refine ⟨⟨hst, hcause', hcode', hfpc, ?_, ?_, ?_, ?_, hk.gr⟩, hk.latch⟩
  · rw [hk.fields _ (by simp [faultFields]), hctx]
  · rw [hk.fields _ (by simp [faultFields]), hcs]
  · rw [hk.fields _ (by simp [faultFields]), hcd]
  · rw [hk.fields _ (by simp [faultFields]), hflt]

/-! ### SIGNAL and SEQ_SIGNAL with a line below 64 -/

/-- The count of an issue and the prefetch leave the machine calm, and the context at its instruction. -/
theorem prefetch_lelasCount_calm {c : Nat} {s : State} (h : Calm s) :
    Calm (prefetch c (lelasCount c s)) ∧ ((prefetch c (lelasCount c s)).ctx c).pc = (s.ctx c).pc ∧
      (prefetch c (lelasCount c s)).seq.latch = s.seq.latch := by
  have hcount : Calm (lelasCount c s) ∧ ((lelasCount c s).ctx c).pc = (s.ctx c).pc ∧
      (lelasCount c s).seq.latch = s.seq.latch := by
    have hlast : ∀ x, Calm { s with seq := { s.seq with last := x } } := fun x =>
      ⟨h.edge, h.regs, h.ctxs, h.waits, h.leases⟩
    unfold lelasCount
    dsimp only
    split
    · exact ⟨(hlast _).setCtx (h.waits.st_ne_wait c), (congrArg Machine.Ctx.pc (State.setCtx_ctx_self _ _ _ h.ctxs)).trans rfl, rfl⟩
    · exact ⟨hlast _, rfl, rfl⟩
  obtain ⟨hcalm, hpc, hlatch⟩ := hcount
  obtain ⟨pre, hpre⟩ := prefetch_eq c (lelasCount c s)
  rw [hpre]
  exact ⟨hcalm.setCtx (hcalm.waits.st_ne_wait c), (congrArg Machine.Ctx.pc (State.setCtx_ctx_self _ _ _ hcalm.ctxs)).trans hpc, hlatch⟩

/-- A SIGNAL with a line below 64 is its context's ILLEGAL fault (R142). -/
theorem lelasSignal_below64 {c : Sys2Proof.Ctx} {w : Nat} {s : State}
    (h : LelasReady { op := 0x32, zero := 0x3FF00FF } c w s) (hl : lwK w / 256 < 64) :
    exec (.lelasSignal c) s = .next (ctxFault c causeIllegal 0 (prefetch c (lelasCount c s))) := by
  obtain ⟨_, hturn, hfetch, hnames, hnone⟩ := h
  have hissue := lelasIssue_ready signalBody hturn hfetch hnames hnone
  rw [signalBody, if_pos hl] at hissue
  exact congrArg Host.Outcome.next hissue

/-- A write of SEQ_SIGNAL with a line below 64 is INVALID (R142). -/
theorem regWrite_seqSignal_below64 {id line : Nat} {s : State} (h : line < 64) :
    regWrite id F.seqSignalLine.reg (F.seqSignalLine.put line) s = (.invalid, s) := by
  have hput : F.seqSignalLine.put line = line := by simp [Fam.put, F.seqSignalLine]; omega
  have hdispatch : regWrite id F.seqSignalLine.reg line s = seqSignalW line s := rfl
  rw [hput, hdispatch, seqSignalW, if_pos (by omega)]

/-- Settles O14: a SIGNAL below 64 is the ILLEGAL fault alone, whose lines are 5, 6 and 40, and SEQ_SIGNAL refuses such a line. -/
theorem signalLineBelow64 : Obligations.SignalLineBelow64 := by
  refine ⟨fun c w s hready hline hwaits hleases => ?_, fun id line s hreach hline => ?_⟩
  · obtain ⟨hcalm, hpc, hlatch⟩ := prefetch_lelasCount_calm (c := c) (calm_of_sound hready.1 hwaits hleases)
    obtain ⟨⟨hst, hcause, hcode, hfpc, hctx, hcs, hcd, hflt, hgr⟩, hlines⟩ :=
      ctxFault_faults (c := c) (cause := 0x01) (code := 0) hcalm (by decide) (by decide)
    refine ⟨_, lelasSignal_below64 hready hline, ⟨hst, hcause, hcode, hfpc.trans hpc, hctx, hcs, hcd, hflt, ?_⟩, ?_⟩
    · exact fun d r => (hgr d r).trans ((prefetch_gr ..).trans (lelasCount_gr ..))
    · exact fun l h5 h6 h40 => hlatch ▸ hlines l h5 h6 h40
  · refine congrArg Host.Outcome.next ((cmdWrite_reaches hreach (by decide)).trans ?_)
    rw [regWrite_seqSignal_below64 hline]

end Sys2Proof.Proofs
end

section
/-! SUPPORT. A write of SEQ_SEMn while its semaphore is held, and what freeing it leaves; from it O15 (R145 to R147). -/

open Sys2Proof Sys2Proof.Machine

namespace Sys2Proof.Proofs

/-! ### The write reaches the semaphore -/

theorem seqSemRank_reg (n : Nat) : F.seqSemRank.reg n = 0x40003400 + 4 * n := by
  simp only [Fam.reg, Fam.key, F.seqSemRank]
  omega

/-- A write of the register at SEQ_SEMn is the semaphore's own rule (R155). -/
theorem regWrite_seqSem {id n v : Nat} {s : State} (hn : n < 64) : regWrite id (F.seqSemRank.reg n) v s = seqSemW n v s := by
  have hnode : pstNode (0x40003400 + 4 * n) = false := by simp [pstNode]; omega
  have hblock : blockOf (0x40003400 + 4 * n) = 3 := by simp only [blockOf]; omega
  have hoff : (0x40003400 + 4 * n) % 0x1000 = 0x400 + 4 * n := by omega
  have hidx : (0x400 + 4 * n - 0x400) / 4 = n := by omega
  have hrange : 0x400 ≤ 0x400 + 4 * n ∧ 0x400 + 4 * n < 0x500 ∧ (0x400 + 4 * n) % 4 = 0 := by omega
  rw [seqSemRank_reg, regWrite, hnode, if_neg Bool.false_ne_true, hblock]
  simp only [seqWrite, hoff, hidx]
  rw [if_neg (by omega), if_neg (by omega), if_neg (by omega), if_neg (by omega), if_pos hrange]

/-- A 32-bit write of SEQ_SEMn that reaches it answers what the semaphore answers. -/
theorem cmdWrite_seqSem {id : Id} {n v : Nat} {s : State} (hn : n < 64) (h : Reaches id (F.seqSemRank.reg n) .write s) :
    cmdWrite id (F.seqSemRank.reg n) v s = (seqSemW n v s).2.answer (seqSemW n v s).1 := by
  rw [cmdWrite_reaches h (by rw [seqSemRank_reg]; omega), regWrite_seqSem hn]

/-- A register write of 32 bits writes the low word of its value. -/
theorem registerWrite_seqSem {id : Id} {n : Nat} {v : BitVec 64} {s : State} (hn : n < 64)
    (h : Reaches id (F.seqSemRank.reg n) .write s) :
    exec (.registerWrite id (BitVec.ofNat 32 (F.seqSemRank.reg n)) 2 v none) s =
      .next ((seqSemW n (v.toNat % 2 ^ 32) s).2.answer (seqSemW n (v.toNat % 2 ^ 32) s).1) := by
  have haddr : (BitVec.ofNat 32 (F.seqSemRank.reg n)).toNat = F.seqSemRank.reg n := by
    rw [BitVec.toNat_ofNat, seqSemRank_reg]; omega
  have hexec : exec (.registerWrite id (BitVec.ofNat 32 (F.seqSemRank.reg n)) 2 v none) s =
    .next (cmdWrite id (BitVec.ofNat 32 (F.seqSemRank.reg n)).toNat (v.toNat % 2 ^ 32) s) := rfl
  rw [hexec, haddr, cmdWrite_seqSem hn h]

/-- FREL and RANK stand in one register. -/
theorem semForcedRelease_seqSem {id : Id} {n : Fin 64} {r : BitVec 4} {s : State} (h : Reaches id (F.seqSemRank.reg n) .write s) :
    exec (.semForcedRelease id n r) s =
      .next ((seqSemW n (2 ^ 31 + r.toNat) s).2.answer (seqSemW n (2 ^ 31 + r.toNat) s).1) := by
  have hreg : F.seqSemFrel.reg n = F.seqSemRank.reg n := by
    simp only [Fam.reg, Fam.key, F.seqSemRank, F.seqSemFrel]; omega
  have hput : F.seqSemFrel.put 1 + F.seqSemRank.put r.toNat = 2 ^ 31 + r.toNat := by
    have := r.isLt
    simp only [Fam.put, F.seqSemRank, F.seqSemFrel]; omega
  have hexec : exec (.semForcedRelease id n r) s =
    .next (cmdWrite id (F.seqSemFrel.reg n) (F.seqSemFrel.put 1 + F.seqSemRank.put r.toNat) s) := rfl
  rw [hexec, hreg, hput, cmdWrite_seqSem n.isLt h]

/-! ### What a held semaphore answers (R147) -/

section
variable {n v : Nat} {s : State} (hheld : s.b1 F.seqSemHeld n = true)
include hheld

theorem seqSemW_other_rank (h : v % 16 ≠ s.g1 F.seqSemRank n) : seqSemW n v s = (.busy, s) := by
  simp [seqSemW, hheld, h]

theorem seqSemW_own_rank (h : v % 16 = s.g1 F.seqSemRank n) (hf : v.testBit 31 = false) : seqSemW n v s = (.ok, s) := by
  simp [seqSemW, hheld, h, hf]

theorem seqSemW_frel (h : v % 16 = s.g1 F.seqSemRank n) (hf : v.testBit 31 = true) : seqSemW n v s = (.ok, semFree n s) := by
  simp [seqSemW, hheld, h, hf]

end

/-! ### A semaphore freed with nobody waiting -/

/-- Nothing but contexts differs, and each holds the ranks it held. -/
structure SameHeld (s t : State) : Prop where
  rest : t = { s with seq := { s.seq with ctxs := t.seq.ctxs } }
  rising : Tab.rising t.seq.ctxs = true
  held : ∀ c, (t.ctx c).held = (s.ctx c).held

/-- The restart of urgent counts takes no rank from any context (R137). -/
theorem normUrg_sameHeld {s : State} (h : Tab.rising s.seq.ctxs = true) : SameHeld s (normUrg s) := by
  refine List.foldlRecOn _ _ ⟨rfl, h, fun _ => rfl⟩ fun t ht e _ => ?_
  split
  · refine ⟨by rw [State.setCtx, ht.rest], Tab.rising_put _ _ _ _ ht.rising, fun c => Eq.trans ?_ (ht.held c)⟩
    by_cases hc : c = e.1
    · rw [hc, State.setCtx_ctx_self _ _ _ ht.rising]
    · rw [State.setCtx_ctx_other _ _ _ _ ht.rising hc]
  · exact ht

/-- Semaphore `n` is free, and its rank is out of its former holder's mask. -/
def semReleased (n : Nat) (s : State) : State :=
  let o := s.g1 F.seqSemOwner n
  let s := s.setCtx o { s.ctx o with held := (s.ctx o).held &&& (0xFFFF - rankBit n s) }
  (s.p1 F.seqSemHeld n 0).p1 F.seqSemOwner n 0

/-- With nobody waiting, a semaphore freed goes to nobody (R145). -/
theorem semFree_of_noneWaits {n : Nat} {s : State} (h : NoneWaits s) : semFree n s = normUrg (semReleased n s) := by
  have hnone : NoneWaits (semReleased n s) := h.setCtx (h.st_ne_wait _)
  have hnil := hnone.waitersOn_nil (WaitFor.onSem n)
  unfold semReleased at hnil
  simp only [semFree, hnil]
  rfl

/-- A mask of ranks without one rank does not hold it. -/
theorem testBit_and_without {m r : Nat} (h : r < 16) : (m &&& (0xFFFF - 2 ^ r)).testBit r = false := by
  have hbit : ∀ r < 16, (0xFFFF - 2 ^ r).testBit r = false := by decide
  rw [Nat.testBit_and, hbit r h, Bool.and_false]

/-- A semaphore freed is not held, keeps its rank, and that rank is out of its former holder's mask (R145, R147). -/
theorem semReleased_spec {n : Nat} {s : State} (hregs : Tab.rising s.regs = true) (hctxs : Tab.rising s.seq.ctxs = true)
    (hrank : s.g1 F.seqSemRank n < 16) :
    (semReleased n s).b1 F.seqSemHeld n = false ∧ (semReleased n s).g1 F.seqSemRank n = s.g1 F.seqSemRank n ∧
      ((semReleased n s).ctx (s.g1 F.seqSemOwner n)).held.testBit (s.g1 F.seqSemRank n) = false := by
  have h0 (x : Machine.Ctx) : Tab.rising (s.setCtx (s.g1 F.seqSemOwner n) x).regs = true := hregs
  have h1 (x : Machine.Ctx) := State.p2_rising _ F.seqSemHeld n 0 0 (h0 x)
  have hrh : F.seqSemRank.key n 0 ≠ F.seqSemHeld.key n 0 := by simp only [Fam.key, F.seqSemRank, F.seqSemHeld]; omega
  have hro : F.seqSemRank.key n 0 ≠ F.seqSemOwner.key n 0 := by simp only [Fam.key, F.seqSemRank, F.seqSemOwner]; omega
  have hho : F.seqSemHeld.key n 0 ≠ F.seqSemOwner.key n 0 := by simp only [Fam.key, F.seqSemHeld, F.seqSemOwner]; omega
  have hheld : (semReleased n s).g1 F.seqSemHeld n = 0 :=
    (State.p2_g2_other _ _ _ _ _ _ _ _ (h1 _) hho).trans (State.p1_g1_self _ _ _ _ (h0 _))
  have hctx : ((semReleased n s).ctx (s.g1 F.seqSemOwner n)).held =
      (s.ctx (s.g1 F.seqSemOwner n)).held &&& (0xFFFF - rankBit n s) :=
    congrArg Machine.Ctx.held (State.setCtx_ctx_self s _ _ hctxs)
  refine ⟨?_, ?_, ?_⟩
  · simp [State.b1, hheld]
  · exact (State.p2_g2_other _ _ _ _ _ _ _ _ (h1 _) hro).trans (State.p2_g2_other _ _ _ _ _ _ _ _ (h0 _) hrh)
  · rw [hctx]
    exact testBit_and_without hrank

/-- The same of the whole release while nobody waits, which leaves every general register and memory (R145, R147). -/
theorem semFree_noneWaits_spec {n : Nat} {s : State} (hsound : s.sound = true) (hwaits : NoneWaits s)
    (hrank : s.g1 F.seqSemRank n < 16) :
    (semFree n s).b1 F.seqSemHeld n = false ∧ (semFree n s).g1 F.seqSemRank n = s.g1 F.seqSemRank n ∧
      ((semFree n s).ctx (s.g1 F.seqSemOwner n)).held.testBit (s.g1 F.seqSemRank n) = false ∧
      SameGr s (semFree n s) ∧ (semFree n s).mem = s.mem := by
  obtain ⟨_, hregs, hctxs⟩ := sound_edge_rising hsound
  obtain ⟨hfreed, hkept, hmask⟩ := semReleased_spec hregs hctxs hrank
  have hsame := normUrg_sameHeld (s := semReleased n s) (Tab.rising_put _ _ _ _ hctxs)
  rw [semFree_of_noneWaits hwaits]
  exact ⟨(congrArg (State.b1 · F.seqSemHeld n) hsame.rest).trans hfreed,
    (congrArg (State.g1 · F.seqSemRank n) hsame.rest).trans hkept,
    (congrArg (Nat.testBit · _) (hsame.held _)).trans hmask,
    fun d r => (congrArg (State.gr · d r) hsame.rest).trans rfl, (congrArg State.mem hsame.rest).trans rfl⟩

/-- Settles O15: a write of another rank is BUSY and changes nothing; one of the held rank is OK, and with FREL frees the
semaphore, whose rank leaves the mask of its former holder. -/
theorem heldSemaphoreRank : Obligations.HeldSemaphoreRank := by
  intro id n v s hreach hheld rank write
  have hwrite : write = _ := registerWrite_seqSem n.isLt hreach
  have hlow : v.toNat % 2 ^ 32 % 16 = rank := by omega
  have hbit : (v.toNat % 2 ^ 32).testBit 31 = v.getLsbD 31 := by
    rw [Nat.testBit_mod_two_pow]; rfl
  have hfree : rank = s.g1 F.seqSemRank n → v.getLsbD 31 = true → write = .next ((semFree n s).answer .ok) := by
    intro hrank hfrel
    rw [hwrite, seqSemW_frel hheld (hlow.trans hrank) (hbit.trans hfrel)]
  refine ⟨fun hrank => ?_, fun hrank hfrel => ?_, hfree, fun hrank hfrel hsound hwaits => ?_, ?_⟩
  · rw [hwrite, seqSemW_other_rank hheld (hlow ▸ hrank)]
  · rw [hwrite, seqSemW_own_rank hheld (hlow.trans hrank) (hbit.trans hfrel)]
  · obtain ⟨hfreed, hkept, hmask, hgr, hmem⟩ :=
      semFree_noneWaits_spec hsound hwaits (hrank ▸ Nat.mod_lt _ (by decide) : s.g1 F.seqSemRank n < 16)
    exact ⟨_, hfree hrank hfrel, hfreed, hkept.trans hrank.symm, hrank ▸ hmask, hgr, hmem⟩
  · have hr : (BitVec.ofNat 4 rank).toNat = rank := by
      rw [BitVec.toNat_ofNat]; omega
    have hlow' : (2 ^ 31 + rank) % 16 = rank := by omega
    have hbit' : (2 ^ 31 + rank).testBit 31 = true := by
      rw [Nat.testBit_two_pow_add_eq, Nat.testBit_lt_two_pow (by omega), Bool.not_false]
    rw [semForcedRelease_seqSem hreach, hr]
    split
    · next h => rw [seqSemW_frel hheld (hlow'.trans h) hbit']
    · next h => rw [seqSemW_other_rank hheld (hlow'.trans_ne h)]

end Sys2Proof.Proofs
end
